-- ==== Sys2Proof/Word.lean ====
section
/-! DEFINITION. The bit-vector types of the part: memory words, bytes, samples, addresses, block numbers. -/

namespace Sys2Proof

/-- A word of the exchange memory (R147). -/
abbrev Word := BitVec 16

/-- One lane of a word in 8-bit width (R157). -/
abbrev Byte := BitVec 8

/-- A sample inside the part: 24-bit two's complement (00, Conventions). -/
abbrev Sample := BitVec 24

/-- A word address of the port: fourteen lines (R160). -/
abbrev Addr := BitVec 14

/-- The count of blocks since power-on, which wraps (00, Conventions). -/
abbrev BlockNo := BitVec 32

/-- One 32-bit slot of a TDM frame, most significant bit first (R160). -/
abbrev TdmSlot := BitVec 32

end Sys2Proof
end

