-- ==== Sys2Proof/Syntax.lean ====
section
/-! DEFINITION. The commands of the part, one constructor per row of spec/opcode_table.json, and the types of their operands. -/

namespace Sys2Proof

/-- The two input links (R1). -/
inductive LinkId where
  | inA
  | inB
  deriving DecidableEq, Repr

/-- What one input link receives in one sample period: a frame without its marker, or a good frame with its eight
channel slots (R1, R2, R160). -/
inductive LinkFrame where
  | missing
  | good (slots : List TdmSlot)
  deriving DecidableEq, Repr

/-- The half of a word an 8-bit access names (R157). -/
inductive Lane where
  | low
  | high
  deriving DecidableEq, Repr

/-- The two meter buffers (R181). -/
inductive MeterBuffer where
  | buffer0
  | buffer1
  deriving DecidableEq, Repr

/-- A source and a zone (00, Terms). -/
structure Pair where
  source : Fin 16
  zone : Fin 24
  deriving DecidableEq, Repr

/-- Where a cue came from and where its outcome goes (R163, R173). -/
inductive Origin where
  | slot (k : Fin 32)
  | call
  deriving DecidableEq, Repr

/-- A taken cue: its origin, its claim on CALL (meaningful for origin CALL), and the copied body laid out as a cue
slot. A call taken while no bank is LIVE has no body (R173). -/
structure CueItem where
  origin : Origin
  claim : Bool
  body : Option (List Word)
  deriving DecidableEq, Repr

/-- The orders that the rules leave open when two works fall at one block start (log 1). -/
structure BlockRaces where
  /-- A due switch-over or rejection is taken before an engine reset (R144). -/
  bankBeforeReset : Bool
  /-- A due survey completion is taken before an engine reset (R128). -/
  completionBeforeReset : Bool
  /-- A due survey completion is taken before the cues, a SURVEY_ABORT among them (R127). -/
  completionBeforeAbort : Bool
  deriving DecidableEq, Repr

/-- The commands. -/
inductive Instr where
  /-- Release of RESET, with the width strap (high selects 8-bit width) sampled there (R160). -/
  | powerOnReset (strapHigh : Bool)
  /-- One sample period of both input links (R1). -/
  | inputFrame (frameA frameB : LinkFrame)
  /-- The sample period whose missing frame loses the link; the other link takes its own frame (R2). -/
  | linkLost (link : LinkId) (otherFrame : LinkFrame)
  /-- The sample period whose good frame completes the count of 48; the other link takes its own frame (R3). -/
  | linkRecovery (link : LinkId) (slots : List TdmSlot) (otherFrame : LinkFrame)
  /-- One sample period of the three output links (R32). -/
  | outputFrame
  /-- The boundary between two blocks (R166). -/
  | blockStart (races : BlockRaces)
  /-- The rise of one source's floor (R9). -/
  | floorRise (source : Fin 16)
  /-- The expiry of one source's hold (R13). -/
  | holdExpiry (source : Fin 16)
  /-- The next examinations of the block's sweep; 33 make a whole sweep (R163). -/
  | intakeSweep (examinations : Nat)
  | sourceSet (item : CueItem)
  | zoneSet (item : CueItem)
  | scenePush (item : CueItem)
  | scenePop (item : CueItem)
  | sceneClear (item : CueItem)
  | bankAdopt (item : CueItem)
  | surveyStart (item : CueItem)
  | surveyAbort (item : CueItem)
  | badKind (item : CueItem)
  | bankReject
  | switchOver
  | engineReset
  | routeRemoval
  | fadeGrant
  /-- The end of the fade of one entry (R71). -/
  | fadeEnd (pair : Pair)
  | mutingEnd
  | quietEnd
  | settleEnd
  | measureEnd
  | surveyComplete
  | snapshotTime
  | snapshotWrite
  /-- A host word write (R148). -/
  | hostWrite (address : Addr) (value : Word)
  | slotPost (slot : Fin 32)
  | slotWithdraw (slot : Fin 32)
  | slotFree (slot : Fin 32)
  | bufferClaim (buffer : MeterBuffer)
  | bufferRelease (buffer : MeterBuffer)
  /-- A host write to CALL with P = 1 (R172). -/
  | hostCall (number : BitVec 4)
  | callWithdraw
  /-- A host write of PORT_CONTROL with INIT as one, ENGINE_RESET as zero, and the two stored bits (R152, R155). -/
  | portInitialise (holdIntake orderHigh : Bool)
  /-- A host write of PORT_CONTROL with ENGINE_RESET as one, INIT as zero, and the two stored bits (R152, R154). -/
  | engineResetRequest (holdIntake orderHigh : Bool)
  /-- A host write of PORT_CONTROL that stores HOLD_INTAKE and keeps ORDER (R152). -/
  | holdIntake (hold : Bool)
  /-- A host write of PORT_CONTROL that stores ORDER and keeps HOLD_INTAKE (R152). -/
  | order (orderHigh : Bool)
  | noticeClear (value : Word)
  | noticeMaskWrite (value : Word)
  /-- A byte write in 8-bit width (R157). -/
  | byteWrite (address : Addr) (lane : Lane) (byte : Byte)
  /-- A byte read in 8-bit width (R158). -/
  | byteRead (address : Addr) (lane : Lane)
  deriving DecidableEq, Repr

end Sys2Proof
end

