-- ==== Sys2Proof/Decode.lean ====
section
/-! DEFINITION. The command a word of bits spells. No row of spec/opcode_table.json gives bits, so no word spells one (log 19). -/

namespace Sys2Proof

/-- The command that the bits `_w` spell: none, since no row of the table gives bits. -/
def decodeTableWord (_nbits _w : Nat) : Option Instr := none

end Sys2Proof
end

