-- ==== Sys2Proof/Config.lean ====
section
/-! DEFINITION. What is fixed in the part: how many of each thing it has; and the one value the spec does not state, the fill of an output slot below its word, as an uninterpreted constant. -/

namespace Sys2Proof.Config

/-- S0 to S15 (01). -/
abbrev sourceCount : Nat := 16

/-- Z0 to Z23 (02). -/
abbrev zoneCount : Nat := 24

/-- Samples in a block (00, Conventions). -/
abbrev blockLength : Nat := 48

/-- Samples a delay line holds (R4). -/
abbrev lineLength : Nat := 16384

/-- Older samples that the taps of the block under way still reach (R4; log 6). -/
abbrev lineReach : Nat := 95

/-- Entries the route list can hold (R38). -/
abbrev routeCapacity : Nat := 160

/-- Fade units (R74). -/
abbrev fadeUnits : Nat := 16

/-- Scenes the stack can hold (R105). -/
abbrev sceneCapacity : Nat := 4

/-- Cue slots (R148). -/
abbrev slotCount : Nat := 32

/-- Examinations of one sweep: CALL and the 32 slots (R163). -/
abbrev sweepLength : Nat := 33

/-- Words of the exchange memory (R147). -/
abbrev memoryWords : Nat := 0x4000

/-- The bits that an output slot carries below its word, by the count of slots sent: a free value, since R160 says where
the word stands in its slot and not what fills the rest (DESIGN CHOICE, log 14). A 24-bit word's slot carries the low
eight of them. -/
opaque slotFill : Nat → Word

end Sys2Proof.Config
end

