-- ==== Sys2Proof/Machine/State.lean ====
section
/-! DEFINITION. The state of the part as plain data, unit by unit in the order of the chapters, and the state right after a power-on reset. -/

namespace Sys2Proof.Machine

/-! ### The exchange memory (R147) -/

/-- Words by address, in canonical form (`Memory.wf`): an address not listed holds 0 (R147; log 7). -/
abbrev Memory := List (Nat × Word)

/-! ### Input links (R1 to R3) -/

/-- An input link. -/
structure InLink where
  lost : Bool
  /-- Missing frames in a row, 0..2 (R2). -/
  missing : Nat
  /-- Good frames in a row while LOST, 0..48 (R3). -/
  good : Nat
  /-- LOST was set at some frame of the block under way (R8). -/
  lostInBlock : Bool
  deriving DecidableEq, Repr

/-! ### Sources (R4 to R21) -/

/-- A gain as a half-dB code, or OFF, which is silence and a value of its own (00, Conventions). -/
inductive Gain where
  | off
  | code (halfDb : Int)
  deriving DecidableEq, Repr

/-- Force modes (R5). -/
inductive ForceMode where
  | auto
  | opened
  | closed
  deriving DecidableEq, Repr

/-- The source fields of the operating mix without the position (R5, R105). -/
structure SourceMix where
  fader : Gain
  mute : Bool
  force : ForceMode
  priority : Nat
  ratio : Nat
  marker : Bool
  deriving DecidableEq, Repr

/-- A plan position in decimetres (00, Conventions). -/
structure Position where
  x : Nat
  y : Nat
  deriving DecidableEq, Repr

/-- Gate states (R10). -/
inductive GateState where
  | closed
  | opened
  | hold
  | last
  | forcedOpen
  | forcedClosed
  | lost
  deriving DecidableEq, Repr

/-- A source (01). -/
structure Source where
  mix : SourceMix
  pos : Position
  /-- Delivered samples, newest first: the 16,384 of the delay line, then the 95 older ones that the taps of the block
  under way still reach (R4; log 6). -/
  line : List Sample
  /-- The noise floor; `none` is UNSET (R9). -/
  floor : Option Int
  rise : Nat
  gate : GateState
  holdCount : Nat
  deriving DecidableEq, Repr

/-! ### Zones (R22 to R37) -/

/-- Duck modes (R24). -/
inductive DuckMode where
  | none
  | atOrAbove
  | equal
  | marked
  deriving DecidableEq, Repr

/-- The zone fields of the operating mix (R24). -/
structure ZoneMix where
  level : Gain
  mute : Bool
  duckMode : DuckMode
  duckNumber : Nat
  deriving DecidableEq, Repr

/-- A zone (02). -/
structure Zone where
  mix : ZoneMix
  /-- The 48 samples that the output links send in the block under way (R31). -/
  waiting : List Sample
  outLevel : Int
  clip : Bool
  clipCount : Nat
  deriving DecidableEq, Repr

/-! ### Routes (R38 to R81) -/

/-- Lifecycles (R40). -/
inductive Lifecycle where
  | live
  | retiring
  deriving DecidableEq, Repr

/-- Delay motion (R39). A fade unit is held exactly while an entry is FADING (R74), so the hold and the fade length the
unit records (R69) stand here, with the fade destination, the fade progress and the pending target. -/
inductive Motion where
  | steady
  | slipping
  | awaitingFade
  | fading (destination progress unitLength : Nat) (pendingTarget : Option Nat)
  deriving DecidableEq, Repr

/-- An entry of the route list (R39). -/
structure Entry where
  pair : Pair
  lifecycle : Lifecycle
  motion : Motion
  delay : Nat
  targetDelay : Nat
  gain : Gain
  targetGain : Gain
  floorFlag : Bool
  ceilFlag : Bool
  ceilingLimited : Bool
  ducked : Bool
  deriving DecidableEq, Repr

/-- A request for a rebuild: none, one that a survey in progress defers (R50), or an engine reset's, which nothing
defers (R54). -/
inductive RebuildRequest where
  | none
  | requested
  | forced
  deriving DecidableEq, Repr

/-! ### Scenes (R105) -/

/-- A saved copy of the operating mix without positions (R105). -/
structure Scene where
  sources : List SourceMix
  zones : List ZoneMix
  deriving DecidableEq, Repr

/-! ### The survey unit (R115) -/

/-- Phases, PROBE by its two parts (R115). -/
inductive SurveyPhase where
  | idle
  | muting
  | quiet
  | probeSettle
  | probeMeasure
  | tail
  deriving DecidableEq, Repr

/-- The survey unit (R115). -/
structure Survey where
  phase : SurveyPhase
  zone : Fin 24
  probeCode : Int
  quiet : Nat
  settle : Nat
  measure : Nat
  tail : Nat
  counter : Nat
  clampNote : Bool
  quietSums : List Nat
  probeSums : List Nat
  lostNotes : List Bool
  lfsr : Word
  origin : Origin
  claim : Bool
  deriving DecidableEq, Repr

/-! ### The bank unit (R131 to R146) -/

/-- The two banks (R131). -/
inductive BankId where
  | bankA
  | bankB
  deriving DecidableEq, Repr

/-- The globals (R133). -/
structure Globals where
  flight : Nat
  gainSlope : Nat
  fadeLength : Nat
  slipLimit : Nat
  meterPeriod : Nat
  openMargin : Nat
  maxOpen : Nat
  holdBlocks : Nat
  offAttenuation : Nat
  lastOn : Bool
  stabilityMargin : Nat
  in16A : Bool
  in16B : Bool
  out16A : Bool
  out16B : Bool
  out16C : Bool
  probeCode : Int
  quiet : Nat
  settle : Nat
  measure : Nat
  tail : Nat
  deriving DecidableEq, Repr

/-- A window W0 or W1 (R22). -/
structure Window where
  enable : Bool
  /-- Area select OUTSIDE. -/
  outside : Bool
  /-- Kind ROWS. -/
  rows : Bool
  xStart : Nat
  xEnd : Nat
  yStart : Nat
  yEnd : Nat
  table : Nat
  deriving DecidableEq, Repr

/-- A window WS (R28). -/
structure SetWindow where
  enable : Bool
  outside : Bool
  set : Word
  deriving DecidableEq, Repr

/-- A source record of a bank (R132). -/
structure SourceRow where
  mix : SourceMix
  pos : Position
  deriving DecidableEq, Repr

/-- A zone record of a bank: the mix fields and the geometry (R22, R132). -/
structure ZoneRow where
  mix : ZoneMix
  speaker : Position
  precedence : Nat
  trim : Int
  /-- Logic AND. -/
  logicAnd : Bool
  w0 : Window
  w1 : Window
  ws : SetWindow
  deriving DecidableEq, Repr

/-- An adopted copy (R132). -/
structure Bank where
  globals : Globals
  sources : List SourceRow
  zones : List ZoneRow
  /-- 4 tables of 32 rows, each an x start and an x end (R27). -/
  rows : List (Nat × Nat)
  priorityNumbers : List Nat
  duckDepths : List Nat
  /-- The call table: 16 cue bodies (R134). -/
  calls : List (List Word)
  /-- 16 × 24 couplings by source, then zone; `none` is unmeasured (R134). -/
  coupling : List (Option Int)
  deriving DecidableEq, Repr

/-- The live bank and its adopted copy (R132). -/
structure LiveBank where
  bank : BankId
  copy : Bank
  deriving DecidableEq, Repr

/-- Reject reasons (R139). -/
inductive RejectReason where
  | none
  | forceMode
  | duckMode
  | windowKind
  | areaSelect
  | logic
  | rowTable
  deriving DecidableEq, Repr

/-- An adoption in progress (R136 to R138). -/
structure Adoption where
  bank : BankId
  /-- The next part to validate, 0..8; 8 when all are done (R137). -/
  part : Nat
  /-- The staging copy: words by offset from the bank's base, as validated and clamped (R132). -/
  staging : Memory
  clampCount : Nat
  /-- Word address of the first field clamped, 0 while there is none (R138). -/
  firstClamp : Nat
  /-- The illegal enumerated field that stopped validation, with its word address (R137). -/
  illegal : Option (RejectReason × Nat)
  origin : Origin
  claim : Bool
  deriving DecidableEq, Repr

/-! ### The exchange port (R147 to R158) -/

/-- The exchange port (09). -/
structure Port where
  holdIntake : Bool
  /-- ORDER is HIGH_FIRST. -/
  orderHigh : Bool
  /-- WIDTH is 8-bit. -/
  width8 : Bool
  resetRequest : Bool
  protectAddr : Addr
  callPending : Bool
  callNumber : BitVec 4
  callResult : BitVec 4
  notice : BitVec 10
  noticeMask : BitVec 10
  writeLatch : Option (Addr × Byte)
  readLatch : Option (Addr × Word)
  /-- The data lines as the last byte read drove them (R158, R160). -/
  readData : Byte
  deriving DecidableEq, Repr

/-! ### The cue intake (R161 to R177) -/

/-- The hold decision of a block (R164). -/
inductive HoldDecision where
  | takeAll
  | abortOnly
  | takeNone
  deriving DecidableEq, Repr

/-! ### The meter writer (R178 to R182) -/

/-- A captured snapshot: the buffer chosen and the words to write, by offset from its base (R180, R182). -/
structure Capture where
  buffer : MeterBuffer
  words : List (Nat × Word)
  deriving DecidableEq, Repr

/-- The meter writer (11). -/
structure Meter where
  periodCount : Nat
  skip : Nat
  lastWritten : MeterBuffer
  lastLevels : List Int
  peakLevels : List Int
  zonePeaks : List Int
  maxLoad : Nat
  capture : Option Capture
  deriving DecidableEq, Repr

/-! ### The whole part -/

/-- Facts about the present block start that a later item of it reads; BLOCK_START clears them. -/
structure Marks where
  /-- A bank was switched over or rejected at this block start (R116, R135). -/
  adoptionEnded : Bool
  /-- An engine reset was carried out at this block start (R144). -/
  resetHere : Bool
  /-- The zone whose waiting sum holds the probe of the block just ended, if it was a PROBE block (R127). -/
  probedZone : Option (Fin 24)
  /-- A survey took effect at this block start (R119). -/
  surveyBegan : Bool
  deriving DecidableEq, Repr

/-- The state of the part. -/
structure State where
  /-- Commands waiting, first in first out. -/
  pending : List Instr
  block : BlockNo
  marks : Marks
  mem : Memory
  port : Port
  linkA : InLink
  linkB : InLink
  sources : List Source
  nom : Nat
  zones : List Zone
  /-- Frames sent in the block under way, 0..48 (R31). -/
  outIndex : Nat
  /-- The 24 slots last sent, by zone, each with its word in the top bits (R32, R160). -/
  outSlots : List TdmSlot
  /-- The fills of output slots taken so far: the model's own counter, which picks the free value below each word sent
  (log 14). -/
  fillsTaken : Nat
  routes : List Entry
  unserved : List Pair
  admitted : List Pair
  rebuild : RebuildRequest
  scenes : List Scene
  survey : Survey
  /-- NO_BANK with `none`; RUNNING on the live bank otherwise (R132; log 15). -/
  live : Option LiveBank
  adoption : Option Adoption
  takeList : List CueItem
  /-- Examinations the block's sweep has made, 0..33 (R163). -/
  sweepPos : Nat
  hold : HoldDecision
  meter : Meter
  deriving DecidableEq, Repr

/-- Reasons a step stops with a fault. The spec gives the part none: a rejected cue, a dropped write and a lost link
are effects on the state (R150, R170, R2). Nothing raises one. -/
inductive Fault where
  deriving DecidableEq, Repr

/-- Reasons a step is refused. -/
inductive Refusal where
  /-- Raised by `exec` alone, for a command whose meaning is not written yet; safe, since the part does something. No
  arm raises it now. -/
  | notModelled (mnemonic : String)
  deriving DecidableEq, Repr

/-! ### Power-on reset -/

/-- An input link at power-on: LOST (R3). -/
def InLink.reset : InLink := { lost := true, missing := 0, good := 0, lostInBlock := true }

/-- The rest values of a source's mix fields (R5). -/
def SourceMix.rest : SourceMix :=
  { fader := .off, mute := true, force := .auto, priority := 0, ratio := 0, marker := false }

/-- A source at power-on (R20). -/
def Source.reset : Source :=
  { mix := .rest, pos := { x := 0, y := 0 }, line := List.replicate (Config.lineLength + Config.lineReach) 0,
    floor := none, rise := 0, gate := .closed, holdCount := 0 }

/-- The rest values of a zone's mix fields (R24). -/
def ZoneMix.rest : ZoneMix := { level := .off, mute := true, duckMode := .none, duckNumber := 0 }

/-- A waiting sum of zeros (R35). -/
def zeroBlock : List Sample := List.replicate Config.blockLength 0

/-- A zone at power-on (R35, R102). -/
def Zone.reset : Zone := { mix := .rest, waiting := zeroBlock, outLevel := -192, clip := false, clipCount := 0 }

/-- The survey unit at power-on: IDLE; every other item has no meaning yet (R115; DESIGN CHOICE, log 8). -/
def Survey.reset : Survey :=
  { phase := .idle, zone := 0, probeCode := 0, quiet := 0, settle := 0, measure := 0, tail := 0, counter := 0,
    clampNote := false, quietSums := List.replicate Config.sourceCount 0,
    probeSums := List.replicate Config.sourceCount 0, lostNotes := List.replicate Config.sourceCount false,
    lfsr := 0xACE1, origin := .slot 0, claim := false }

/-- The port at power-on (R151, R158); the strap low and the data lines zero are DESIGN CHOICE (log 8). -/
def Port.reset : Port :=
  { holdIntake := false, orderHigh := false, width8 := false, resetRequest := false, protectAddr := 0,
    callPending := false, callNumber := 0, callResult := 0, notice := 0, noticeMask := 0, writeLatch := none,
    readLatch := none, readData := 0 }

/-- The meter writer at power-on (R178); the buffer written last is DESIGN CHOICE (log 8). -/
def Meter.reset : Meter :=
  { periodCount := 0, skip := 0, lastWritten := .buffer1, lastLevels := List.replicate Config.sourceCount (-192),
    peakLevels := List.replicate Config.sourceCount (-192), zonePeaks := List.replicate Config.zoneCount (-192),
    maxLoad := 0, capture := none }

/-- No fact noted. -/
def Marks.clear : Marks := { adoptionEnded := false, resetHere := false, probedZone := none, surveyBegan := false }

/-- The part right after a power-on reset (R160 and the reset tables of every chapter); the slots last sent and the
model's own counter of fills are DESIGN CHOICE (log 8, log 14). -/
def State.reset : State :=
  { pending := [], block := 0, marks := .clear, mem := [], port := .reset, linkA := .reset, linkB := .reset,
    sources := List.replicate Config.sourceCount .reset, nom := 0, zones := List.replicate Config.zoneCount .reset,
    outIndex := 0, outSlots := List.replicate Config.zoneCount 0, fillsTaken := 0, routes := [], unserved := [],
    admitted := [], rebuild := .none, scenes := [], survey := .reset, live := none, adoption := none, takeList := [], sweepPos := 0,
    hold := .takeAll, meter := .reset }

end Sys2Proof.Machine
end

