-- ==== Sys2Proof/Machine/Ops.lean ====
section
/-! DEFINITION. The shared operations: exact arithmetic, the exchange memory and its word map, notices, cue outcomes, members and entries. -/

namespace Sys2Proof.Machine

/-! ### Exact arithmetic -/

/-- The greatest number below `acc + 2^bits` that the downward closed test `p` admits, found bit by bit from the top,
when `acc` itself is admitted. -/
def bitSearch (p : Nat → Bool) : Nat → Nat → Nat
  | 0, acc => acc
  | bits + 1, acc => bitSearch p bits (if p (acc + 2 ^ bits) then acc + 2 ^ bits else acc)

/-- The level in half-dB of a sum of squares over `samples` samples: 20 × log10 of the mean square over 2^46, halves
rounded towards +∞, clamped to -192..0 (R7). With D = samples × 2^46, the level is at least k exactly when
sum^40 ≥ D^40 × 10^(2k-1); the search runs over k + 192. -/
def levelOf (sum samples : Nat) : Int :=
  if sum = 0 then -192
  else
    (bitSearch (fun j => j ≤ 192 && (samples * 2 ^ 46) ^ 40 ≤ sum ^ 40 * 10 ^ (385 - 2 * j)) 8 0 : Nat) - 192

/-- base × 10^(code/40) rounded to the nearest integer, halves upwards (R97, R122): the greatest m with
2m - 1 ≤ 2 × base × 10^(code/40), taken to the 40th power. -/
def scaledByCode (base : Nat) (code : Int) : Nat :=
  bitSearch (fun m => (2 * m - 1) ^ 40 * 10 ^ (-code).toNat ≤ (2 * base) ^ 40 * 10 ^ code.toNat) 24 0

/-- The greatest whole number whose square does not exceed `v`, for `v` below 2^24 (R58). -/
def floorSqrt (v : Nat) : Nat := bitSearch (fun m => m * m ≤ v) 12 0

/-- A value brought to the nearer end of a range. -/
def clampInt (lo hi v : Int) : Int := if v < lo then lo else if hi < v then hi else v

/-- A value brought to the nearer end of a range. -/
def clampNat (lo hi v : Nat) : Nat := if v < lo then lo else if hi < v then hi else v

/-- A sum saturated to 24 bits (R100). -/
def saturate24 (v : Int) : Sample := BitVec.ofInt 24 (clampInt (-8388608) 8388607 v)

/-- Whether `saturate24` changes the sum (R100). -/
def overflows24 (v : Int) : Bool := v < -8388608 || 8388607 < v

/-- The exact sum of the squares of samples (R7). -/
def squareSum (samples : List Sample) : Nat :=
  samples.foldl (fun acc x => acc + x.toInt.natAbs * x.toInt.natAbs) 0

/-! ### Word forms (R159) -/

/-- A signed field. -/
def signedWord (v : Int) : Word := BitVec.ofInt 16 v

/-- An unsigned field. -/
def natWord (n : Nat) : Word := BitVec.ofNat 16 n

/-- A flag as the part writes it. -/
def flagWord (b : Bool) : Word := if b then 1 else 0

/-- A flag as the part reads it: off when zero. -/
def wordFlag (w : Word) : Bool := w != 0

/-- A gain as stored: OFF is -32768. -/
def gainWord : Gain → Word
  | .off => 0x8000
  | .code c => signedWord c

/-- A floor as stored: UNSET is -32768. -/
def floorWord : Option Int → Word
  | none => 0x8000
  | some v => signedWord v

/-- The low word of a block number. -/
def blockLow (b : BlockNo) : Word := b.extractLsb' 0 16

/-- The high word of a block number. -/
def blockHigh (b : BlockNo) : Word := b.extractLsb' 16 16

/-! ### The exchange memory (R147) -/

/-- The word at an address; 0 where none is listed. -/
def Memory.read : Memory → Nat → Word
  | [], _ => 0
  | (b, w) :: rest, a => if a = b then w else Memory.read rest a

/-- A word placed at its address in a memory in canonical form, or removed when it is 0. -/
def Memory.place : Memory → Nat → Word → Memory
  | [], a, v => if v = 0 then [] else [(a, v)]
  | (b, w) :: rest, a, v =>
    if a < b then (if v = 0 then (b, w) :: rest else (a, v) :: (b, w) :: rest)
    else if a = b then (if v = 0 then rest else (a, v) :: rest)
    else (b, w) :: Memory.place rest a v

/-- A write of one word. An address beyond the word space holds nothing. -/
def Memory.write (m : Memory) (a : Nat) (v : Word) : Memory :=
  if a < Config.memoryWords then m.place a v else m

/-- Writes in order. -/
def Memory.writeAll (m : Memory) (cells : List (Nat × Word)) : Memory :=
  cells.foldl (fun m c => m.write c.1 c.2) m

/-- The canonical form: addresses strictly rising, inside the word space, no word that an unlisted address reads. -/
abbrev Memory.wf (m : Memory) : Prop :=
  m.Pairwise (fun c d => c.1 < d.1) ∧ ∀ c ∈ m, c.1 < Config.memoryWords ∧ c.2 ≠ 0

/-! ### The word map (R148, section 9.5) -/

/-- The first word of slot `k`. -/
def slotBase (k : Fin 32) : Nat := 0x40 + 32 * k.val

/-- The first word of a bank. -/
def bankBase : BankId → Nat
  | .bankA => 0x800
  | .bankB => 0x1800

/-- The first word of a meter buffer. -/
def bufferBase : MeterBuffer → Nat
  | .buffer0 => 0x2C00
  | .buffer1 => 0x3000

/-- The first word of the survey result area. -/
def surveyBase : Nat := 0x2800

/-- The word address of CALL. -/
def callAddr : Addr := 3

/-- The word address of PORT_CONTROL. -/
def portControlAddr : Addr := 0

/-- The word address of NOTICE. -/
def noticeAddr : Addr := 4

/-- The word address of NOTICE_MASK. -/
def noticeMaskAddr : Addr := 5

/-- The regions of the word map (R148). -/
inductive Region where
  | register (number : Nat)
  | slotWord (slot : Fin 32) (word : Nat)
  | bankWord (bank : BankId) (offset : Nat)
  | surveyWord
  | bufferWord (buffer : MeterBuffer) (offset : Nat)
  | unassigned
  deriving DecidableEq, Repr

/-- The region of a word address (R148). -/
def regionOf (a : Nat) : Region :=
  if a ≤ 6 then .register a
  else if 0x40 ≤ a ∧ a ≤ 0x43F then .slotWord (Fin.ofNat 32 ((a - 0x40) / 32)) ((a - 0x40) % 32)
  else if 0x800 ≤ a ∧ a ≤ 0x17FF then .bankWord .bankA (a - 0x800)
  else if 0x1800 ≤ a ∧ a ≤ 0x27FF then .bankWord .bankB (a - 0x1800)
  else if 0x2800 ≤ a ∧ a ≤ 0x29FF then .surveyWord
  else if 0x2C00 ≤ a ∧ a ≤ 0x2FFF then .bufferWord .buffer0 (a - 0x2C00)
  else if 0x3000 ≤ a ∧ a ≤ 0x33FF then .bufferWord .buffer1 (a - 0x3000)
  else .unassigned

/-! ### Named updates of the state -/

/-- The exchange memory replaced. -/
def State.withMem (s : State) (m : Memory) : State := { s with mem := m }

/-- The port replaced. -/
def State.withPort (s : State) (p : Port) : State := { s with port := p }

/-- The sources replaced. -/
def State.withSources (s : State) (xs : List Source) : State := { s with sources := xs }

/-- The zones replaced. -/
def State.withZones (s : State) (xs : List Zone) : State := { s with zones := xs }

/-- The route list replaced. -/
def State.withRoutes (s : State) (xs : List Entry) : State := { s with routes := xs }

/-- The survey unit replaced. -/
def State.withSurvey (s : State) (v : Survey) : State := { s with survey := v }

/-- The meter writer replaced. -/
def State.withMeter (s : State) (m : Meter) : State := { s with meter := m }

/-- The part's write of one word. -/
def State.store (s : State) (a : Nat) (v : Word) : State := s.withMem (s.mem.write a v)

/-- The part's writes in order. -/
def State.storeAll (s : State) (cells : List (Nat × Word)) : State := s.withMem (s.mem.writeAll cells)

/-- The part's reading of one word. -/
def State.word (s : State) (a : Nat) : Word := s.mem.read a

/-! ### Notices (R184) -/

/-- The ten flags, in the order of their bits (section 9.5). -/
inductive Notice where
  | cue
  | call
  | meter
  | survey
  | bank
  | protect
  | link
  | routeFull
  | clip
  | gate
  deriving DecidableEq, Repr

/-- The bit of a flag in NOTICE and NOTICE_MASK. -/
def Notice.bit : Notice → Nat
  | .cue => 0
  | .call => 1
  | .meter => 2
  | .survey => 3
  | .bank => 4
  | .protect => 5
  | .link => 6
  | .routeFull => 7
  | .clip => 8
  | .gate => 9

/-- A flag's mask. -/
def Notice.mask (n : Notice) : BitVec 10 := BitVec.twoPow 10 n.bit

/-- Raising a flag sets it, whatever it was (R184). -/
def State.raise (s : State) (n : Notice) : State :=
  s.withPort { s.port with notice := s.port.notice ||| n.mask }

/-- Raising a flag where a condition holds. -/
def State.raiseIf (s : State) (c : Bool) (n : Notice) : State := if c then s.raise n else s

/-! ### Result codes and outcomes (R170, R171, R174) -/

/-- Result codes (R170). -/
inductive ResultCode where
  | ok
  | clamped
  | badKind
  | badField
  | badTarget
  | noBank
  | busy
  | stackFull
  | stackEmpty
  | notRunning
  | bankInvalid
  | reset
  | aborted
  deriving DecidableEq, Repr

/-- The code of a result (R170). -/
def ResultCode.number : ResultCode → Nat
  | .ok => 0
  | .clamped => 1
  | .badKind => 2
  | .badField => 3
  | .badTarget => 4
  | .noBank => 5
  | .busy => 6
  | .stackFull => 7
  | .stackEmpty => 8
  | .notRunning => 9
  | .bankInvalid => 10
  | .reset => 11
  | .aborted => 12

/-- DONE carries OK or CLAMPED; FAULTED carries every other code (R170). -/
def ResultCode.done : ResultCode → Bool
  | .ok => true
  | .clamped => true
  | _ => false

/-- A slot's state words (R149). -/
def slotFree : Word := 0
def slotPosted : Word := 1
def slotTaken : Word := 2
def slotDone : Word := 3
def slotFaulted : Word := 4

/-- CALL's result IN_PROGRESS (R172). -/
def inProgress : BitVec 4 := 15

/-- The outcome of a cue at its origin: into the slot, result words first and state last, raising CUE (R170); or into
CALL where the claim stands, raising CALL, and nowhere where it was cleared (R174). -/
def State.outcome (s : State) (origin : Origin) (claim : Bool) (code : ResultCode) (detail : Nat) : State :=
  match origin with
  | .slot k =>
    (s.storeAll
      [(slotBase k + 2, natWord code.number), (slotBase k + 3, natWord detail),
       (slotBase k + 4, blockLow s.block), (slotBase k + 5, blockHigh s.block),
       (slotBase k, if code.done then slotDone else slotFaulted)]).raise .cue
  | .call =>
    if claim then
      (s.withPort { s.port with callResult := BitVec.ofNat 4 code.number }).raise .call
    else s

/-! ### Members, links, entries -/

/-- All sources by number. -/
def allSources : List (Fin 16) := List.finRange 16

/-- All zones by number. -/
def allZones : List (Fin 24) := List.finRange 24

/-- The 384 pairs in pair order (R30). -/
def allPairs : List Pair := allSources.flatMap (fun i => allZones.map (fun z => { source := i, zone := z }))

/-- The place of a pair in pair order (R38). -/
def pairRank (p : Pair) : Nat := 24 * p.source.val + p.zone.val

/-- A source's state. -/
def State.source (s : State) (i : Fin 16) : Source := s.sources.getD i.val .reset

/-- A zone's state. -/
def State.zone (s : State) (z : Fin 24) : Zone := s.zones.getD z.val .reset

/-- One source changed. -/
def State.setSource (s : State) (i : Fin 16) (x : Source) : State := s.withSources (s.sources.set i.val x)

/-- One zone changed. -/
def State.setZone (s : State) (z : Fin 24) (x : Zone) : State := s.withZones (s.zones.set z.val x)

/-- Every source changed by a function of its number. -/
def State.mapSources (s : State) (f : Fin 16 → Source → Source) : State :=
  s.withSources (allSources.map (fun i => f i (s.source i)))

/-- Every zone changed by a function of its number. -/
def State.mapZones (s : State) (f : Fin 24 → Zone → Zone) : State :=
  s.withZones (allZones.map (fun z => f z (s.zone z)))

/-- Every entry changed. -/
def State.mapRoutes (s : State) (f : Entry → Entry) : State := s.withRoutes (s.routes.map f)

/-- The link of a source: S0 to S7 on IN-A, S8 to S15 on IN-B (section 1.1). -/
def linkOf (i : Fin 16) : LinkId := if i.val < 8 then .inA else .inB

/-- A link's state. -/
def State.link (s : State) : LinkId → InLink
  | .inA => s.linkA
  | .inB => s.linkB

/-- Whether the route list holds an entry for a pair. -/
def State.hasEntry (s : State) (p : Pair) : Bool := s.routes.any (fun e => e.pair == p)

/-! ### The engine state and the adopted copy (R132) -/

/-- Whether the engine is RUNNING. -/
def State.running (s : State) : Bool := s.live.isSome

/-- The adopted copy, where a bank is LIVE. -/
def State.adopted (s : State) : Option Bank := s.live.map (·.copy)

/-- A survey is in progress while the phase is not IDLE (R115). -/
def State.surveying (s : State) : Bool := s.survey.phase != .idle

/-- The engine is in PROBE, in either part (R115). -/
def SurveyPhase.probing : SurveyPhase → Bool
  | .probeSettle => true
  | .probeMeasure => true
  | _ => false

/-- A request for a rebuild, which does not lower an engine reset's (R42, R54). -/
def State.requestRebuild (s : State) : State :=
  { s with rebuild := if s.rebuild = .forced then .forced else .requested }

end Sys2Proof.Machine
end

