-- ==== Sys2Proof/Machine/Flags.lean ====
section
/-! DEFINITION. Register values the host reads and the flags they are made of: codes of the enumerations, PORT_STATUS, CALL, the attention line. -/

namespace Sys2Proof.Machine

/-! ### Codes (section 9.5) -/

/-- The code of a live bank field. -/
def liveBankCode : Option LiveBank → Nat
  | none => 0
  | some l => match l.bank with
    | .bankA => 1
    | .bankB => 2

/-- The code of a survey phase; SETTLE and MEASURE show as PROBE (R130). -/
def SurveyPhase.code : SurveyPhase → Nat
  | .idle => 0
  | .muting => 1
  | .quiet => 2
  | .probeSettle => 3
  | .probeMeasure => 3
  | .tail => 4

/-- The code of a gate state. -/
def GateState.code : GateState → Nat
  | .closed => 0
  | .opened => 1
  | .hold => 2
  | .last => 3
  | .forcedOpen => 4
  | .forcedClosed => 5
  | .lost => 6

/-- The code of a motion. -/
def Motion.code : Motion → Nat
  | .steady => 0
  | .slipping => 1
  | .awaitingFade => 2
  | .fading .. => 3

/-- The code of a lifecycle. -/
def Lifecycle.code : Lifecycle → Nat
  | .live => 0
  | .retiring => 1

/-- The code of a reject reason. -/
def RejectReason.code : RejectReason → Nat
  | .none => 0
  | .forceMode => 1
  | .duckMode => 2
  | .windowKind => 3
  | .areaSelect => 4
  | .logic => 5
  | .rowTable => 6

/-- A flag as a bit of a field. -/
def bitAt (b : Bool) (n : Nat) : Nat := if b then 2 ^ n else 0

/-! ### Registers -/

/-- PORT_CONTROL as read: INIT reads 0, ENGINE_RESET reads 1 while pending (R152). -/
def Port.controlWord (p : Port) : Word :=
  natWord (bitAt p.resetRequest 1 + bitAt p.holdIntake 2 + bitAt p.orderHigh 3 + bitAt p.width8 15)

/-- CALL as read. -/
def Port.callWord (p : Port) : Word :=
  natWord (p.callNumber.toNat + 16 * p.callResult.toNat + bitAt p.callPending 15)

/-- Intake holding: the hold decision of the block found HOLD_INTAKE set (R164). -/
def State.intakeHolding (s : State) : Bool := s.hold == .takeNone

/-- PORT_STATUS, each field from the unit that owns it (R153). -/
def State.portStatus (s : State) : Word :=
  natWord (bitAt s.running 0 + 2 * liveBankCode s.live + bitAt s.adoption.isSome 3 + 16 * s.survey.phase.code
    + 128 * s.scenes.length + bitAt s.intakeHolding 10)

/-- The attention line is active while an enabled flag is set (R185). -/
def State.attention (s : State) : Bool := s.port.notice &&& s.port.noticeMask != 0

/-- A register's value (R151). -/
def State.register (s : State) : Nat → Word
  | 0 => s.port.controlWord
  | 1 => s.portStatus
  | 2 => s.port.protectAddr.setWidth 16
  | 3 => s.port.callWord
  | 4 => s.port.notice.setWidth 16
  | 5 => s.port.noticeMask.setWidth 16
  | 6 => 0x1624
  | _ => 0

/-- What a host read of a word returns; it changes nothing (R147, R148). -/
def State.hostRead (s : State) (a : Addr) : Word :=
  match regionOf a.toNat with
  | .register n => s.register n
  | .unassigned => 0
  | _ => s.word a.toNat

/-! ### Which gates count (R10) -/

/-- The gate counts in NOM (R10, R19). -/
def GateState.counted : GateState → Bool
  | .opened => true
  | .hold => true
  | .last => true
  | .forcedOpen => true
  | _ => false

/-- The gate is other-open for its neighbours (R15). -/
def GateState.otherOpen : GateState → Bool
  | .opened => true
  | .hold => true
  | .forcedOpen => true
  | _ => false

/-- NOM as the gates stand (R19). -/
def State.countedGates (s : State) : Nat := (s.sources.filter (fun x => x.gate.counted)).length

/-- NOM counted (R19). -/
def State.countNom (s : State) : State := { s with nom := s.countedGates }

/-- The hold decision from HOLD_INTAKE and the survey phase (R164). -/
def holdDecision (holdIntake : Bool) (phase : SurveyPhase) : HoldDecision :=
  if holdIntake then .takeNone else if phase = .idle then .takeAll else .abortOnly

/-- The hold decision of a block, made at its start (R164). -/
def State.decideHold (s : State) : State := { s with hold := holdDecision s.port.holdIntake s.survey.phase }

/-- The hold decision of the present block start, made again after a command of that block start has changed the
survey phase; what it found of HOLD_INTAKE stands (R164; log 18). -/
def State.refreshHold (s : State) : State :=
  { s with hold := holdDecision s.intakeHolding s.survey.phase }

end Sys2Proof.Machine
end

