-- ==== Sys2Proof/Machine/Operands.lean ====
section
/-! DEFINITION. The forms operands take in memory: cue bodies with their clamps, and the fields of a setting bank with their validation and decoding. -/

namespace Sys2Proof.Machine

/-! ### Cue bodies (section 9.5, Cue slot) -/

/-- A word of a body. -/
def bodyWord (body : List Word) (i : Nat) : Word := body.getD i 0

/-- The kind of a body. -/
def kindOf (body : List Word) : Nat := (bodyWord body 1).toNat

/-- A bit of the present mask, word 6. -/
def present (body : List Word) (bit : Nat) : Bool := (bodyWord body 6).getLsbD bit

/-- A source mask names a source (R159). -/
def namesSource (mask : Word) (i : Fin 16) : Bool := mask.getLsbD i.val

/-- A zone mask of two words names a zone: Z16 to Z23 in bits 0..7 of the second word (R159). -/
def namesZone (low high : Word) (z : Fin 24) : Bool :=
  if z.val < 16 then low.getLsbD z.val else high.getLsbD (z.val - 16)

/-- The body copied at a take: words 1 and 6..31 (R163). -/
def copiedBody (read : Nat → Word) : List Word :=
  (List.range 32).map (fun i => if i = 1 ∨ 6 ≤ i then read i else 0)

/-! ### Enumerations and gains as written (R159) -/

/-- A force mode's code. -/
def forceOfCode : Nat → Option ForceMode
  | 0 => some .auto
  | 1 => some .opened
  | 2 => some .closed
  | _ => none

/-- A duck mode's code. -/
def duckOfCode : Nat → Option DuckMode
  | 0 => some .none
  | 1 => some .atOrAbove
  | 2 => some .equal
  | 3 => some .marked
  | _ => none

/-- A fader or level as applied: -32768 is OFF, below -192 becomes OFF, above +24 becomes +24 (R168, R134). -/
def gainOfWord (w : Word) : Gain :=
  if w.toInt < -192 then .off else if 24 < w.toInt then .code 24 else .code w.toInt

/-- Whether applying a fader or level clamps it; -32768 is OFF without a clamp (R168, R134). -/
def gainClamps (w : Word) : Bool := (w.toInt < -192 && w != 0x8000) || 24 < w.toInt

/-- Whether a value lies above the end of its range. -/
def above (w : Word) (hi : Nat) : Bool := hi < w.toNat

/-! ### The set parts of SOURCE_SET, ZONE_SET and SCENE_PUSH (R167 to R170) -/

/-- The source mix after the present source fields of a body (R168). -/
def applySourceFields (body : List Word) (m : SourceMix) : SourceMix :=
  { fader := if present body 0 then gainOfWord (bodyWord body 9) else m.fader
    mute := if present body 1 then wordFlag (bodyWord body 10) else m.mute
    force := if present body 2 then (forceOfCode (bodyWord body 11).toNat).getD m.force else m.force
    priority := if present body 3 then min 7 (bodyWord body 12).toNat else m.priority
    ratio := if present body 4 then min 7 (bodyWord body 13).toNat else m.ratio
    marker := if present body 5 then wordFlag (bodyWord body 14) else m.marker }

/-- The position after a body (R168). -/
def applyPosition (body : List Word) (p : Position) : Position :=
  if present body 6 then { x := min 2047 (bodyWord body 15).toNat, y := min 1023 (bodyWord body 16).toNat } else p

/-- The zone mix after the present zone fields of a body (R169). -/
def applyZoneFields (body : List Word) (m : ZoneMix) : ZoneMix :=
  { level := if present body 7 then gainOfWord (bodyWord body 17) else m.level
    mute := if present body 8 then wordFlag (bodyWord body 18) else m.mute
    duckMode := if present body 9 then (duckOfCode (bodyWord body 19).toNat).getD m.duckMode else m.duckMode
    duckNumber := if present body 10 then min 7 (bodyWord body 20).toNat else m.duckNumber }

/-- Clamps counted for one source: fader, priority bits, ratio bits, and position as one field (R170). -/
def sourceClamps (body : List Word) : Nat :=
  (present body 0 && gainClamps (bodyWord body 9)).toNat
  + (present body 3 && above (bodyWord body 12) 7).toNat
  + (present body 4 && above (bodyWord body 13) 7).toNat
  + (present body 6 && (above (bodyWord body 15) 2047 || above (bodyWord body 16) 1023)).toNat

/-- Clamps counted for one zone: level and duck number (R170). -/
def zoneClamps (body : List Word) : Nat :=
  (present body 7 && gainClamps (bodyWord body 17)).toNat
  + (present body 10 && above (bodyWord body 20) 7).toNat

/-- A body marks at least one source field present (R106). -/
def sourcePartPresent (body : List Word) : Bool := (List.range 7).any (present body)

/-- A body marks at least one zone field present (R106). -/
def zonePartPresent (body : List Word) : Bool := [7, 8, 9, 10].any (present body)

/-- The force mode is present and illegal (R167). -/
def badForce (body : List Word) : Bool := present body 2 && (forceOfCode (bodyWord body 11).toNat).isNone

/-- The duck mode is present and illegal (R167). -/
def badDuck (body : List Word) : Bool := present body 9 && (duckOfCode (bodyWord body 19).toNat).isNone

/-- Sources that a mask names. -/
def namedSources (mask : Word) : List (Fin 16) := allSources.filter (namesSource mask)

/-- Zones that a mask names. -/
def namedZones (low high : Word) : List (Fin 24) := allZones.filter (namesZone low high)

/-! ### The fields of a setting bank (R133, R134, section 9.5) -/

/-- What the bank unit does with a word of a bank (R137, R138). -/
inductive BankField where
  /-- Neither read nor validated. -/
  | unlisted
  /-- A flag, a WS set or a call-table word: copied as it stands. -/
  | asItStands
  | unsigned (lo hi : Nat)
  | signed (lo hi : Int)
  | gain
  | coupling
  /-- An enumeration with codes 0 up to `top`; anything else rejects the bank. -/
  | enumerated (top : Nat) (reason : RejectReason)
  deriving DecidableEq, Repr

/-- The globals in order from offset 0x010 (R133). -/
def globalFields : List BankField :=
  [.unsigned 53000 61000, .unsigned 1 16, .unsigned 8 64, .unsigned 0 16, .unsigned 8 1000, .unsigned 0 60,
   .unsigned 1 16, .unsigned 0 4000, .unsigned 0 192, .asItStands, .unsigned 0 60]
  ++ [.asItStands, .asItStands, .asItStands, .asItStands, .asItStands]
  ++ [.signed (-120) (-12), .unsigned 64 4096, .unsigned 64 4096, .unsigned 64 4096, .unsigned 0 8192]

/-- The words of a source record (R134). -/
def sourceFields : List BankField :=
  [.unsigned 0 2047, .unsigned 0 1023, .gain, .asItStands, .enumerated 2 .forceMode, .unsigned 0 7, .unsigned 0 7,
   .asItStands]

/-- The words of a window W0 or W1 (R134). -/
def windowFields : List BankField :=
  [.asItStands, .enumerated 1 .areaSelect, .enumerated 1 .windowKind, .unsigned 0 2047, .unsigned 0 2047,
   .unsigned 0 1023, .unsigned 0 1023, .enumerated 3 .rowTable]

/-- The words of a zone record (R134). -/
def zoneFields : List BankField :=
  [.unsigned 0 2047, .unsigned 0 1023, .gain, .asItStands, .unsigned 0 1023, .signed (-512) 511,
   .enumerated 3 .duckMode, .unsigned 0 7, .enumerated 1 .logic]
  ++ windowFields ++ windowFields ++ [.asItStands, .enumerated 1 .areaSelect, .asItStands]

/-- The field at an offset of a bank (section 9.5). -/
def bankField (off : Nat) : BankField :=
  if 0x010 ≤ off ∧ off ≤ 0x024 then globalFields.getD (off - 0x010) .unlisted
  else if 0x040 ≤ off ∧ off ≤ 0x0BF then sourceFields.getD ((off - 0x040) % 8) .unlisted
  else if 0x0C0 ≤ off ∧ off ≤ 0x1BF then .unsigned 0 2047
  else if 0x1C0 ≤ off ∧ off ≤ 0x1C7 then .unsigned 0 7
  else if 0x1C8 ≤ off ∧ off ≤ 0x1CF then .unsigned 0 192
  else if 0x200 ≤ off ∧ off ≤ 0x3FF then .asItStands
  else if 0x400 ≤ off ∧ off ≤ 0x6FF then zoneFields.getD ((off - 0x400) % 32) .unlisted
  else if 0x700 ≤ off ∧ off ≤ 0x87F then .coupling
  else .unlisted

/-- A field's value as it goes into the staging copy (R138, R134). -/
def BankField.clamped : BankField → Word → Word
  | .unsigned lo hi, w => natWord (clampNat lo hi w.toNat)
  | .signed lo hi, w => signedWord (clampInt lo hi w.toInt)
  | .gain, w => gainWord (gainOfWord w)
  | .coupling, w => if w = 0x7FFF then w else signedWord (clampInt (-192) 192 w.toInt)
  | .unlisted, w => w
  | .asItStands, w => w
  | .enumerated _ _, w => w

/-- The field is clamped (R138). -/
def BankField.clamps (f : BankField) (w : Word) : Bool := f.clamped w != w

/-- The reason the field rejects the bank, if it does (R137). -/
def BankField.rejects : BankField → Word → Option RejectReason
  | .enumerated top reason, w => if top < w.toNat then some reason else none
  | _, _ => none

/-- The field is one the bank unit writes into the staging copy (R137). -/
def BankField.listed : BankField → Bool
  | .unlisted => false
  | _ => true

/-! ### Decoding a validated bank -/

/-- The staging copy's word at an offset. -/
def natAt (img : Memory) (off : Nat) : Nat := (img.read off).toNat

/-- A flag at an offset. -/
def flagAt (img : Memory) (off : Nat) : Bool := wordFlag (img.read off)

/-- The globals (R133). -/
def globalsOf (img : Memory) : Globals :=
  { flight := natAt img 0x10, gainSlope := natAt img 0x11, fadeLength := natAt img 0x12, slipLimit := natAt img 0x13,
    meterPeriod := natAt img 0x14, openMargin := natAt img 0x15, maxOpen := natAt img 0x16,
    holdBlocks := natAt img 0x17, offAttenuation := natAt img 0x18, lastOn := flagAt img 0x19,
    stabilityMargin := natAt img 0x1A, in16A := flagAt img 0x1B, in16B := flagAt img 0x1C, out16A := flagAt img 0x1D,
    out16B := flagAt img 0x1E, out16C := flagAt img 0x1F, probeCode := (img.read 0x20).toInt, quiet := natAt img 0x21,
    settle := natAt img 0x22, measure := natAt img 0x23, tail := natAt img 0x24 }

/-- A source record (section 9.5). -/
def sourceRowOf (img : Memory) (i : Fin 16) : SourceRow :=
  let b := 0x40 + 8 * i.val
  { mix :=
      { fader := gainOfWord (img.read (b + 2)), mute := flagAt img (b + 3),
        force := (forceOfCode (natAt img (b + 4))).getD .auto, priority := natAt img (b + 5),
        ratio := natAt img (b + 6), marker := flagAt img (b + 7) }
    pos := { x := natAt img b, y := natAt img (b + 1) } }

/-- A window record (section 9.5). -/
def windowOf (img : Memory) (b : Nat) : Window :=
  { enable := flagAt img b, outside := natAt img (b + 1) == 1, rows := natAt img (b + 2) == 1,
    xStart := natAt img (b + 3), xEnd := natAt img (b + 4), yStart := natAt img (b + 5), yEnd := natAt img (b + 6),
    table := natAt img (b + 7) }

/-- A zone record (section 9.5). -/
def zoneRowOf (img : Memory) (z : Fin 24) : ZoneRow :=
  let b := 0x400 + 32 * z.val
  { mix :=
      { level := gainOfWord (img.read (b + 2)), mute := flagAt img (b + 3),
        duckMode := (duckOfCode (natAt img (b + 6))).getD .none, duckNumber := natAt img (b + 7) }
    speaker := { x := natAt img b, y := natAt img (b + 1) }
    precedence := natAt img (b + 4)
    trim := (img.read (b + 5)).toInt
    logicAnd := natAt img (b + 8) == 1
    w0 := windowOf img (b + 9)
    w1 := windowOf img (b + 17)
    ws := { enable := flagAt img (b + 25), outside := natAt img (b + 26) == 1, set := img.read (b + 27) } }

/-- A coupling entry: 32767 is unmeasured (R134). -/
def couplingOfWord (w : Word) : Option Int := if w = 0x7FFF then none else some w.toInt

/-- A validated staging copy as the adopted copy the engine reads (R132, R140). -/
def bankOf (img : Memory) : Bank :=
  { globals := globalsOf img
    sources := allSources.map (sourceRowOf img)
    zones := allZones.map (zoneRowOf img)
    rows := (List.range 128).map (fun i => (natAt img (0xC0 + 2 * i), natAt img (0xC1 + 2 * i)))
    priorityNumbers := (List.range 8).map (fun i => natAt img (0x1C0 + i))
    duckDepths := (List.range 8).map (fun i => natAt img (0x1C8 + i))
    calls := (List.range 16).map (fun c => copiedBody (fun i => img.read (0x200 + 32 * c + i)))
    coupling := (List.range 384).map (fun i => couplingOfWord (img.read (0x700 + i))) }

/-! ### Reading the adopted copy -/

/-- A row table's row: table `t`, row `r` (R27). -/
def Bank.row (b : Bank) (t r : Nat) : Nat × Nat := b.rows.getD (32 * t + r) (1, 0)

/-- The coupling of a pair (R87). -/
def Bank.couplingOf (b : Bank) (p : Pair) : Option Int := b.coupling.getD (pairRank p) none

/-- A zone's record. -/
def Bank.zoneRow (b : Bank) (z : Fin 24) : ZoneRow := b.zones.getD z.val (zoneRowOf [] z)

/-- A source's record. -/
def Bank.sourceRow (b : Bank) (i : Fin 16) : SourceRow := b.sources.getD i.val (sourceRowOf [] i)

/-- A call-table entry, laid out as a cue slot (R173). -/
def Bank.call (b : Bank) (number : BitVec 4) : List Word := b.calls.getD number.toNat []

end Sys2Proof.Machine
end

