-- ==== Sys2Proof/Machine/Zones.lean ====
section
/-! DEFINITION. Coverage windows and admission (R26 to R30). -/

namespace Sys2Proof.Machine

/-- A position is inside an area window: RECT by its bounds (R26), ROWS by its y bounds and the x bounds of the row of
its table at floor(y / 32) (R27). -/
def Window.inside (w : Window) (b : Bank) (p : Position) : Bool :=
  w.yStart ≤ p.y && p.y ≤ w.yEnd &&
    (if w.rows then (b.row w.table (p.y / 32)).1 ≤ p.x && p.x ≤ (b.row w.table (p.y / 32)).2
     else w.xStart ≤ p.x && p.x ≤ w.xEnd)

/-- A window's term: its inside result, inverted when its area select is OUTSIDE; none when it is disabled (R29). -/
def windowTerm (enable outside inside : Bool) : Option Bool := if enable then some (inside != outside) else none

/-- The terms of a zone's windows for a source (R29). -/
def ZoneRow.terms (row : ZoneRow) (b : Bank) (i : Fin 16) (p : Position) : List Bool :=
  [windowTerm row.w0.enable row.w0.outside (row.w0.inside b p),
   windowTerm row.w1.enable row.w1.outside (row.w1.inside b p),
   windowTerm row.ws.enable row.ws.outside (namesSource row.ws.set i)].filterMap id

/-- The pair of a source at a position and a zone is admitted (R29). -/
def Bank.admits (b : Bank) (pair : Pair) (p : Position) : Bool :=
  let row := b.zoneRow pair.zone
  let terms := row.terms b pair.source p
  if row.logicAnd then terms.all id else terms.any id

/-- The admitted set as positions and live geometry stand, in pair order; empty with no bank LIVE (R30). -/
def State.admittedNow (s : State) : List Pair :=
  match s.adopted with
  | none => []
  | some b => allPairs.filter (fun p => b.admits p (s.source p.source).pos)

end Sys2Proof.Machine
end

