-- ==== Sys2Proof/Machine/Delay.lean ====
section
/-! DEFINITION. Delay alignment: target delays, delay motion, crossfades and the fade unit arbiter: FADE_GRANT, FADE_END. -/

namespace Sys2Proof.Machine

/-! ### The target delay (R57 to R60) -/

/-- The plan distance in whole decimetres (R58). -/
def planDistance (p q : Position) : Nat :=
  let dx := (q.x : Int) - p.x
  let dy := (q.y : Int) - p.y
  floorSqrt (dx * dx + dy * dy).toNat

/-- The flight time in samples (R59). -/
def flightSamples (distance flight : Nat) : Nat := (distance * flight + 2048) / 4096

/-- The raw delay before its clamp: flight plus precedence plus trim, less the path latency (R60). -/
def rawDelay (b : Bank) (pair : Pair) (pos : Position) : Int :=
  let row := b.zoneRow pair.zone
  (flightSamples (planDistance pos row.speaker) b.globals.flight : Int) + row.precedence + row.trim - 96

/-- A computed target delay with its two flags (R60). -/
structure TargetDelay where
  delay : Nat
  floorFlag : Bool
  ceilFlag : Bool
  deriving DecidableEq, Repr

/-- The raw delay clamped to the delay line, with FLOOR and CEIL (R60). -/
def clampRaw (raw : Int) : TargetDelay :=
  if raw < 0 then { delay := 0, floorFlag := true, ceilFlag := false }
  else if 16383 < raw then { delay := 16383, floorFlag := false, ceilFlag := true }
  else { delay := raw.toNat, floorFlag := false, ceilFlag := false }

/-- The target delay of a pair as the part stands (R57). With no bank LIVE no entry exists and none is computed. -/
def State.targetDelayOf (s : State) (pair : Pair) : TargetDelay :=
  match s.adopted with
  | none => { delay := 0, floorFlag := false, ceilFlag := false }
  | some b => clampRaw (rawDelay b pair (s.source pair.source).pos)

/-! ### Placing a computed target (R62) -/

/-- The motion after a new target: a running fade keeps its destination, and the target waits as the pending one
(R62). -/
def Motion.withTarget (m : Motion) (t : Nat) : Motion :=
  match m with
  | .fading destination progress unitLength _ =>
    .fading destination progress unitLength (if t = destination then none else some t)
  | m => m

/-- The target delay after a new target: it replaces the target delay unless the entry is FADING (R62). -/
def Motion.targetAfter (m : Motion) (old t : Nat) : Nat :=
  match m with
  | .fading .. => old
  | _ => t

/-- A computed target placed in its entry, with its flags (R62). -/
def Entry.placeTarget (e : Entry) (t : TargetDelay) : Entry :=
  { e with
    motion := e.motion.withTarget t.delay
    targetDelay := e.motion.targetAfter e.targetDelay t.delay
    floorFlag := t.floorFlag
    ceilFlag := t.ceilFlag }

/-- The target delays of every entry whose source is chosen, computed and placed (R61). -/
def State.retarget (s : State) (chosen : Fin 16 → Bool) : State :=
  s.mapRoutes (fun e => if chosen e.pair.source then e.placeTarget (s.targetDelayOf e.pair) else e)

/-! ### The motion step (R63 to R67, R71, R72) -/

/-- The latest target of an entry: the pending target, the fade destination or the target delay (R64). -/
def Entry.latestTarget (e : Entry) : Nat :=
  match e.motion with
  | .fading destination _ _ pendingTarget => pendingTarget.getD destination
  | _ => e.targetDelay

/-- The silent-route rule: at rest at the latest target (R64). -/
def Entry.rest (e : Entry) : Entry :=
  { e with motion := .steady, delay := e.latestTarget, targetDelay := e.latestTarget }

/-- One sample towards a target (R66). -/
def stepTowards (delay target : Nat) : Nat := if delay < target then delay + 1 else delay - 1

/-- The motion step of a heard entry that is not FADING (R65 to R67). -/
def Entry.freeStep (e : Entry) (slipLimit : Nat) : Entry :=
  let distance := ((e.targetDelay : Int) - e.delay).natAbs
  if distance = 0 then { e with motion := .steady }
  else if distance ≤ slipLimit then { e with motion := .slipping, delay := stepTowards e.delay e.targetDelay }
  else { e with motion := .awaitingFade }

/-- The end of a fade: the new delay is reached, the unit is freed, a pending target becomes the target (R71, R72). -/
def Entry.endFade (e : Entry) : Entry :=
  match e.motion with
  | .fading destination _ _ pendingTarget =>
    { e with motion := .steady, delay := destination, targetDelay := pendingTarget.getD destination }
  | _ => e

/-- The fade's last block has ended (R71). -/
def Motion.fadeOver : Motion → Bool
  | .fading _ progress unitLength _ => unitLength ≤ progress + 1
  | _ => false

/-- The motion step of an entry (R63). -/
def Entry.motionStep (e : Entry) (slipLimit : Nat) : Entry :=
  if e.gain = .off then e.rest
  else match e.motion with
    | .fading destination progress unitLength pendingTarget =>
      if e.motion.fadeOver then e.endFade.freeStep slipLimit
      else { e with motion := .fading destination (progress + 1) unitLength pendingTarget }
    | _ => e.freeStep slipLimit

/-- The slip limit in force (R78). -/
def State.slipLimit (s : State) : Nat := (s.adopted.map (·.globals.slipLimit)).getD 0

/-- The fade length in force (R78). -/
def State.fadeLength (s : State) : Nat := (s.adopted.map (·.globals.fadeLength)).getD 0

/-- The motion steps of a block start (R63). -/
def State.motionSteps (s : State) : State := s.mapRoutes (fun e => e.motionStep s.slipLimit)

/-! ### The fade unit arbiter (R74, R75) -/

/-- The entry is FADING, and so holds a unit (R74). -/
def Motion.isFading : Motion → Bool
  | .fading .. => true
  | _ => false

/-- Units held (R74). -/
def heldUnits (routes : List Entry) : Nat := (routes.filter (fun e => e.motion.isFading)).length

/-- Units free (R74). -/
def State.freeUnits (s : State) : Nat := Config.fadeUnits - heldUnits s.routes

/-- A waiting entry granted a unit: FADING to its target delay, progress 0, the fade length recorded (R69). -/
def Entry.grant (e : Entry) (fadeLength : Nat) : Entry :=
  { e with motion := .fading e.targetDelay 0 fadeLength none }

/-- Units granted to the waiting entries in list order until either runs out (R75). -/
def grantUnits (fadeLength : Nat) : Nat → List Entry → List Entry
  | _, [] => []
  | 0, e :: rest => e :: rest
  | free + 1, e :: rest =>
    if e.motion = .awaitingFade then e.grant fadeLength :: grantUnits fadeLength free rest
    else e :: grantUnits fadeLength (free + 1) rest

/-- The grants of a block start (R75). -/
def State.grantFades (s : State) : State := s.withRoutes (grantUnits s.fadeLength s.freeUnits s.routes)

/-- FADE_GRANT (R75). -/
def execFadeGrant (s : State) : Host.Outcome State Fault Refusal := .next s.grantFades

/-- The entry's fade ends: a heard entry whose last fade block has ended (R71). -/
def Entry.atFadeEnd (e : Entry) : Bool := e.gain != .off && e.motion.fadeOver

/-- FADE_END: the end of one entry's fade and the motion step that follows it; grants are FADE_GRANT's. Not due, nothing
happens (R71, R72; log 3). -/
def execFadeEnd (pair : Pair) (s : State) : Host.Outcome State Fault Refusal :=
  .next (s.mapRoutes (fun e => if e.pair = pair ∧ e.atFadeEnd then e.endFade.freeStep s.slipLimit else e))

end Sys2Proof.Machine
end

