-- ==== Sys2Proof/Machine/Gain.lean ====
section
/-! DEFINITION. Gain composition, ducking, the survey override, the glide and linear gain (R82 to R97). -/

namespace Sys2Proof.Machine

/-! ### Ducking (R89 to R91) -/

/-- A source's priority number in a bank (R89). -/
def Bank.priorityOf (b : Bank) (x : Source) : Nat := b.priorityNumbers.getD x.mix.priority 0

/-- A source meets a zone's duck mode (R90). -/
def meetsDuckMode (mode : DuckMode) (duckNumber number : Nat) (marker : Bool) : Bool :=
  match mode with
  | .none => false
  | .atOrAbove => duckNumber ≤ number
  | .equal => number == duckNumber
  | .marked => marker

/-- A source qualifies in a zone (R90). -/
def State.qualifies (s : State) (b : Bank) (z : Fin 24) (i : Fin 16) : Bool :=
  s.routes.any (fun e => e.pair == { source := i, zone := z } && e.lifecycle == .live)
  && !(s.source i).mix.mute && (s.source i).gate.counted
  && meetsDuckMode (s.zone z).mix.duckMode (s.zone z).mix.duckNumber (b.priorityOf (s.source i)) (s.source i).mix.marker

/-- P*, the highest priority number among a zone's qualifiers, if it has any (R91). -/
def State.pStar (s : State) (b : Bank) (z : Fin 24) : Option Nat :=
  ((allSources.filter (s.qualifies b z)).map (fun i => b.priorityOf (s.source i))).max?

/-- The duck decision for a LIVE entry (R91). -/
def State.ducks (s : State) (b : Bank) (pair : Pair) : Bool :=
  match s.pStar b pair.zone with
  | none => false
  | some p => b.priorityOf (s.source pair.source) < p

/-! ### The five steps (R83 to R88) -/

/-- The NOM table (R85). -/
def nomTable : List Int := [0, 0, -6, -10, -12, -14, -16, -17, -18, -19, -20, -21, -22, -22, -23, -24, -24]

/-- The NOM term of a source (R85). -/
def nomTerm (counted : Bool) (nom : Nat) : Int := if counted then nomTable.getD nom (-24) else 0

/-- The gate term of a source (R84). -/
def gateTerm (g : GateState) (offAttenuation : Nat) : Int := if g.counted then 0 else -(offAttenuation : Int)

/-- A composed target: the gain and CEILING_LIMITED (R88). -/
structure Composed where
  gain : Gain
  ceilingLimited : Bool
  deriving DecidableEq, Repr

/-- The third to fifth steps on a sum: the bottom of the range (R86), the coupling ceiling (R87), the top (R88). -/
def limitSum (sum : Int) (coupling : Option Int) (stabilityMargin : Nat) : Composed :=
  if sum < -192 then { gain := .off, ceilingLimited := false }
  else match coupling with
    | none => { gain := .code (min sum 24), ceilingLimited := false }
    | some c =>
      if -c - stabilityMargin < -192 then { gain := .off, ceilingLimited := true }
      else if -c - stabilityMargin < sum then { gain := .code (min (-c - stabilityMargin) 24), ceilingLimited := true }
      else { gain := .code (min sum 24), ceilingLimited := false }

/-- The sum of the five terms (R84). -/
def gainSum (fader level : Int) (g : GateState) (offAttenuation nom duckDepth : Nat) (ducked : Bool) : Int :=
  fader + level + gateTerm g offAttenuation + nomTerm g.counted nom + (if ducked then -(duckDepth : Int) else 0)

/-- The composition of a pair (R83 to R88). -/
def State.composed (s : State) (b : Bank) (pair : Pair) : Composed :=
  let x := s.source pair.source
  let z := s.zone pair.zone
  if x.mix.mute || z.mix.mute || (!x.gate.counted && b.globals.offAttenuation == 192) then
    { gain := .off, ceilingLimited := false }
  else match x.mix.fader, z.mix.level with
    | .code f, .code l =>
      limitSum (gainSum f l x.gate b.globals.offAttenuation s.nom (b.duckDepths.getD x.mix.ratio 0) (s.ducks b pair))
        (b.couplingOf pair) b.globals.stabilityMargin
    | _, _ => { gain := .off, ceilingLimited := false }

/-- An entry's target gain and flags at a block start: OFF under the survey override (R93) and while RETIRING (R40),
composed otherwise (R82). -/
def State.composeEntry (s : State) (e : Entry) : Entry :=
  match s.adopted, e.lifecycle, s.surveying with
  | some b, .live, false =>
    { e with
      targetGain := (s.composed b e.pair).gain
      ceilingLimited := (s.composed b e.pair).ceilingLimited
      ducked := s.ducks b e.pair }
  | _, _, _ => { e with targetGain := .off, ceilingLimited := false, ducked := false }

/-- The compositions of a block start (R82). -/
def State.compose (s : State) : State := s.mapRoutes s.composeEntry

/-! ### The glide (R94, R95) -/

/-- One glide step of a current gain towards the target held in the block just ended (R94). -/
def glideStep (slope : Nat) : Gain → Gain → Gain
  | .off, .off => .off
  | .off, .code _ => .code (-192)
  | .code c, .off => if c ≤ -192 then .off else .code (max (c - slope) (-192))
  | .code c, .code t => if c < t then .code (min (c + slope) t) else .code (max (c - slope) t)

/-- The gain slope in force (R96). -/
def State.gainSlope (s : State) : Nat := (s.adopted.map (·.globals.gainSlope)).getD 0

/-- The glide steps of a block start (R94). -/
def State.glide (s : State) : State :=
  s.mapRoutes (fun e => { e with gain := glideStep s.gainSlope e.gain e.targetGain })

/-! ### Linear gain (R97) -/

/-- The linear gain of a current gain, 4096 for unity (R97). -/
def linearGain : Gain → Nat
  | .off => 0
  | .code c => scaledByCode 4096 c

end Sys2Proof.Machine
end

