-- ==== Sys2Proof/Machine/Gates.lean ====
section
/-! DEFINITION. Levels, noise floors and the gate machine: FLOOR_RISE, HOLD_EXPIRY, and the gate evaluation and force-mode changes of a block start. -/

namespace Sys2Proof.Machine

/-! ### Levels of the ended block (R7, R8) -/

/-- The samples of the block that has just ended: the newest 48 of the line. -/
def Source.blockSamples (x : Source) : List Sample := x.line.take Config.blockLength

/-- The level L of the ended block (R7). -/
def Source.level (x : Source) : Int := levelOf (squareSum x.blockSamples) Config.blockLength

/-- The block was a lost block for a source (R8). -/
def State.lostBlock (s : State) (i : Fin 16) : Bool := (s.link (linkOf i)).lostInBlock

/-- The level handed on at the end of the ended block (R8). -/
def State.levelOfSource (s : State) (i : Fin 16) : Int := s.meter.lastLevels.getD i.val (-192)

/-- The level meters measure the ended block and hand the levels to the meter writer, which keeps the last and the peak
(R7, R8, R179). -/
def State.measureLevels (s : State) : State :=
  let levels := allSources.map (fun i => (s.source i).level)
  s.withMeter { s.meter with lastLevels := levels, peakLevels := List.zipWith max s.meter.peakLevels levels }

/-! ### Noise floors (R9) -/

/-- The floor's rise: the counter returns to 0 and the floor goes up by one, to at most -24 (R9). -/
def Source.riseFloor (x : Source) : Source :=
  { x with rise := 0, floor := x.floor.map (fun v => if v < -24 then v + 1 else v) }

/-- The floor after a block that was not lost, with level L (R9). -/
def Source.updateFloor (x : Source) (level : Int) : Source :=
  match x.floor with
  | none => { x with floor := some (clampInt (-192) (-24) level), rise := 0 }
  | some v =>
    if level < v then { x with floor := some level, rise := 0 }
    else if 256 ≤ x.rise + 1 then x.riseFloor
    else { x with rise := x.rise + 1 }

/-- The floors after the ended block; a lost block leaves a floor as R12 has set it (R9). -/
def State.updateFloors (s : State) : State :=
  s.mapSources (fun i x => if s.lostBlock i then x else x.updateFloor (s.levelOfSource i))

/-- FLOOR_RISE: the rise of a floor whose counter would reach 256; not due, nothing happens (R9; log 3). -/
def execFloorRise (i : Fin 16) (s : State) : Host.Outcome State Fault Refusal :=
  .next (if (s.source i).floor.isSome ∧ 256 ≤ (s.source i).rise + 1 then s.setSource i (s.source i).riseFloor else s)

/-! ### The gates' own steps (R11 to R13) -/

/-- A gate between its own step and the arbiter. -/
inductive GateStep where
  /-- Settled: LOST, recovered, forced, or CLOSED without speech. -/
  | settled (g : GateState)
  /-- CLOSED with speech (R13). -/
  | candidate
  /-- OPEN after R13. -/
  | opened
  /-- HOLD after R13, with its counter. -/
  | hold (count : Nat)
  /-- LAST without speech. -/
  | last
  /-- Left HOLD, to go to LAST or CLOSED (R15). -/
  | expiring
  deriving DecidableEq, Repr

/-- The gate parameters (R10). -/
structure GateParams where
  openMargin : Nat
  maxOpen : Nat
  holdBlocks : Nat
  lastOn : Bool
  deriving DecidableEq, Repr

/-- The gate parameters of the adopted copy in force (R10, R11). -/
def gateParams (b : Bank) : GateParams :=
  { openMargin := b.globals.openMargin, maxOpen := b.globals.maxOpen, holdBlocks := b.globals.holdBlocks,
    lastOn := b.globals.lastOn }

/-- A source has speech in a block that was not lost (R10). -/
def Source.speech (x : Source) (openMargin : Nat) (level : Int) : Bool :=
  match x.floor with
  | none => false
  | some v => v + openMargin ≤ level

/-- The forced state of a force mode, if it has one (R11). -/
def ForceMode.forced : ForceMode → Option GateState
  | .auto => none
  | .opened => some .forcedOpen
  | .closed => some .forcedClosed

/-- The own step of an automatic gate that is neither lost nor recovering (R13). -/
def Source.autoStep (x : Source) (p : GateParams) (level : Int) : GateStep :=
  let speech := x.speech p.openMargin level
  match x.gate with
  | .closed => if speech then .candidate else .settled .closed
  | .opened => if speech then .opened else if p.holdBlocks = 0 then .expiring else .hold p.holdBlocks
  | .hold => if speech then .opened else if x.holdCount ≤ 1 then .expiring else .hold (x.holdCount - 1)
  | .last => if speech then .opened else .last
  | .forcedOpen => .settled .closed
  | .forcedClosed => .settled .closed
  | .lost => .settled .closed

/-- A gate's step at an evaluation: the first case of R11 that applies. `params` is absent in NO_BANK. -/
def Source.gateStep (x : Source) (params : Option GateParams) (lost : Bool) (level : Int) : GateStep :=
  if lost then .settled .lost
  else match params with
    | none => .settled .closed
    | some p => match x.mix.force.forced with
      | some g => .settled g
      | none => if x.gate = .lost then .settled .closed else x.autoStep p level

/-! ### The arbiter and the last-on decision (R14, R15) -/

/-- The step at a source's place. -/
def stepAt (steps : List GateStep) (i : Fin 16) : GateStep := steps.getD i.val (.settled .closed)

/-- The gate is held: OPEN or HOLD after R13 (R14). -/
def GateStep.held : GateStep → Bool
  | .opened => true
  | .hold _ => true
  | _ => false

/-- The place of a gate among those that `p` admits: highest level first, lower source number first on equal level
(R14). -/
def levelRank (p : Fin 16 → Bool) (level : Fin 16 → Int) (i : Fin 16) : Nat :=
  (allSources.filter (fun j => p j && (level i < level j || (level j == level i && j < i)))).length

/-- The step after the arbiter (R14): an over-full evaluation keeps the loudest, and free places go to the loudest
candidates. -/
def arbitrated (maxOpen : Nat) (steps : List GateStep) (level : Fin 16 → Int) (i : Fin 16) : GateStep :=
  let held := fun j => (stepAt steps j).held
  let candidate := fun j => stepAt steps j == .candidate
  let free := maxOpen - (allSources.filter held).length
  match stepAt steps i with
  | .opened => if levelRank held level i < maxOpen then .opened else .settled .closed
  | .hold c => if levelRank held level i < maxOpen then .hold c else .settled .closed
  | .candidate => if levelRank candidate level i < free then .opened else .settled .closed
  | st => st

/-- The gate is other-open after R13 and R14 (R15). -/
def GateStep.otherOpen : GateStep → Bool
  | .opened => true
  | .hold _ => true
  | .settled g => g.otherOpen
  | _ => false

/-- The arbiter opened a candidate (R15). -/
def anyOpened (before after : List GateStep) : Bool :=
  allSources.any (fun i => stepAt before i == .candidate && stepAt after i == .opened)

/-- Some other gate is other-open (R15). -/
def anyOtherOpen (after : List GateStep) (i : Fin 16) : Bool :=
  allSources.any (fun j => j != i && (stepAt after j).otherOpen)

/-- The gate and hold counter a step settles to (R15). -/
def settledGate (lastOn : Bool) (before after : List GateStep) (i : Fin 16) : GateState × Nat :=
  match stepAt after i with
  | .settled g => (g, 0)
  | .candidate => (.closed, 0)
  | .opened => (.opened, 0)
  | .hold c => (.hold, c)
  | .last => (if anyOpened before after || anyOtherOpen after i || !lastOn then .closed else .last, 0)
  | .expiring =>
    (if lastOn && (allSources.filter (fun j => stepAt after j == .expiring)).length == 1 && !anyOtherOpen after i
        && !anyOpened before after then .last else .closed, 0)

/-- The gates and hold counters after the arbiter and the last-on decision (R14, R15). -/
def settleGates (maxOpen : Nat) (lastOn : Bool) (steps : List GateStep) (level : Fin 16 → Int) :
    List (GateState × Nat) :=
  let after := allSources.map (arbitrated maxOpen steps level)
  allSources.map (settledGate lastOn steps after)

/-- The settled gates put into the sources. -/
def State.placeGates (s : State) (gates : List (GateState × Nat)) : State :=
  s.mapSources (fun i x =>
    let g := gates.getD i.val (x.gate, x.holdCount)
    { x with gate := g.1, holdCount := g.2 })

/-! ### The evaluation of a block start (R11, R12, R18) -/

/-- The parameters the evaluation uses; none in NO_BANK. -/
def State.evalParams (s : State) : Option GateParams := s.adopted.map gateParams

/-- Every gate's step at the evaluation. -/
def State.gateSteps (s : State) : List GateStep :=
  allSources.map (fun i => (s.source i).gateStep s.evalParams (s.lostBlock i) (s.levelOfSource i))

/-- A gate enters or leaves LOST at this evaluation, which raises GATE (R12). -/
def State.gateChangesLost (s : State) : Bool :=
  allSources.any (fun i => ((s.source i).gate == .lost) != s.lostBlock i)

/-- A lost block unsets the floor and clears the rise counter (R12). -/
def State.unsetLostFloors (s : State) : State :=
  s.mapSources (fun i x => if s.lostBlock i then { x with floor := none, rise := 0 } else x)

/-- The gate evaluation of a block start, with the parameters in force from it (R11), the floors as they stood, and then
the floor updates (R9, R12). -/
def State.evaluateGates (s : State) : State :=
  let p := s.evalParams.getD { openMargin := 0, maxOpen := 0, holdBlocks := 0, lastOn := false }
  let gates := settleGates p.maxOpen p.lastOn s.gateSteps s.levelOfSource
  let s1 := s.raiseIf s.gateChangesLost .gate
  ((s1.placeGates gates).unsetLostFloors).updateFloors

/-- The steps of gates that have already taken their own step at this block start (R16). -/
def GateState.standing (g : GateState) (holdCount : Nat) : GateStep :=
  match g with
  | .opened => .opened
  | .hold => if holdCount = 0 then .expiring else .hold holdCount
  | .last => .last
  | g => .settled g

/-- The arbiter and the last-on decision over the gates as they stand, with the parameters in force (R16). -/
def State.rearbitrate (s : State) : State :=
  match s.evalParams with
  | none => s
  | some p =>
    let steps := allSources.map (fun i => (s.source i).gate.standing (s.source i).holdCount)
    s.placeGates (settleGates p.maxOpen p.lastOn steps s.levelOfSource)

/-- Hold counters lowered to new hold blocks (R16). -/
def State.lowerHolds (s : State) (holdBlocks : Nat) : State :=
  s.mapSources (fun _ x => if x.gate = .hold then { x with holdCount := min x.holdCount holdBlocks } else x)

/-! ### Force-mode changes (R17) -/

/-- A gate set by a new force mode (R17). -/
def forcedGate (mode : ForceMode) (g : GateState) : GateState :=
  match mode, g with
  | _, .lost => .lost
  | .opened, _ => .forcedOpen
  | .closed, _ => .forcedClosed
  | .auto, .forcedOpen => .closed
  | .auto, .forcedClosed => .closed
  | .auto, g => g

/-- The force mode of a source. -/
def State.forceMode (s : State) (i : Fin 16) : ForceMode := (s.source i).mix.force

/-- A source whose force mode was `before` when its gate was evaluated: the mode it has come to acts on the gate, once,
and an unchanged mode does not (R17). -/
def Source.followForce (x : Source) (before : ForceMode) : Source :=
  if x.mix.force = before then x
  else
    let g := forcedGate x.mix.force x.gate
    { x with gate := g, holdCount := if g = .hold then x.holdCount else 0 }

/-- The force-mode changes of a block start, from the modes its evaluation used to the final ones: of several changes
to one source only the last stands, and it acts on the gate as the evaluation has left it (R11, R17, R111). -/
def State.followForces (s : State) (before : Fin 16 → ForceMode) : State :=
  s.mapSources (fun i x => x.followForce (before i))

/-- After the force-mode changes of a block start, a LAST gate goes to CLOSED if another gate is FORCED_OPEN (R17). -/
def State.releaseLast (s : State) : State :=
  if s.sources.any (fun x => x.gate == .forcedOpen) then
    s.mapSources (fun _ x => if x.gate = .last then { x with gate := .closed } else x)
  else s

/-! ### HOLD_EXPIRY -/

/-- The hold of an automatic gate ends at its next evaluation without speech (R13). -/
def State.atExpiry (s : State) (i : Fin 16) : Bool :=
  s.running && (s.source i).gate == .hold && (s.source i).mix.force == .auto && (s.source i).holdCount ≤ 1

/-- The gates as they stand, with one expiring (R15). -/
def State.stepsWithExpiry (s : State) (i : Fin 16) : List GateStep :=
  allSources.map (fun j => if j = i then .expiring else (s.source j).gate.standing (s.source j).holdCount)

/-- The expiring gate goes to LAST or CLOSED by R15, its counter 0. -/
def State.expireHold (s : State) (i : Fin 16) : State :=
  let lastOn := (s.evalParams.map (·.lastOn)).getD false
  let steps := s.stepsWithExpiry i
  let g := settledGate lastOn steps steps i
  s.setSource i { s.source i with gate := g.1, holdCount := g.2 }

/-- HOLD_EXPIRY: a HOLD gate's counter reaches 0 without speech, and R15 settles the gate; NOM is counted and the targets
are composed from it (R19, R82). Not due, nothing happens (R13, R15; log 3, log 12). -/
def execHoldExpiry (i : Fin 16) (s : State) : Host.Outcome State Fault Refusal :=
  .next (if s.atExpiry i then (s.expireHold i).countNom.compose else s)

end Sys2Proof.Machine
end

