-- ==== Sys2Proof/Machine/Routes.lean ====
section
/-! DEFINITION. The route list: rebuild, retirement, admission from the unserved list: ROUTE_REMOVAL. -/

namespace Sys2Proof.Machine

/-! ### Entries in pair order (R38, R44) -/

/-- A new entry: LIVE, silent, its delay at its target (R44). Its target gain is OFF until the composition of the block
start that creates it. -/
def State.newEntry (s : State) (p : Pair) : Entry :=
  { pair := p, lifecycle := .live, motion := .steady, delay := (s.targetDelayOf p).delay,
    targetDelay := (s.targetDelayOf p).delay, gain := .off, targetGain := .off,
    floorFlag := (s.targetDelayOf p).floorFlag, ceilFlag := (s.targetDelayOf p).ceilFlag, ceilingLimited := false,
    ducked := false }

/-- An entry put into its place in pair order (R38). -/
def insertEntry (e : Entry) : List Entry → List Entry
  | [] => [e]
  | x :: rest => if pairRank e.pair < pairRank x.pair then e :: x :: rest else x :: insertEntry e rest

/-- New entries for pairs, each in its place (R44). -/
def State.insertPairs (s : State) (ps : List Pair) : State :=
  s.withRoutes (ps.foldl (fun routes p => insertEntry (s.newEntry p) routes) s.routes)

/-! ### The rebuild (R43 to R46) -/

/-- An entry retires: its target becomes OFF and its gain flags clear (R43). -/
def Entry.retire (e : Entry) : Entry :=
  { e with lifecycle := .retiring, targetGain := .off, ceilingLimited := false, ducked := false }

/-- An entry after the first step of a rebuild: kept, revived (R46) or retired (R43). -/
def Entry.rebuilt (e : Entry) (admitted : Bool) : Entry :=
  match e.lifecycle, admitted with
  | .live, true => e
  | .retiring, true => { e with lifecycle := .live }
  | .live, false => e.retire
  | .retiring, false => e

/-- One rebuild: the admitted set, the entries, the new entries while there is room, and the unserved list; ROUTE_FULL
when the unserved list goes from empty to non-empty (R43 to R45). -/
def State.rebuildRoutes (s : State) : State :=
  let admitted := s.admittedNow
  let s1 := s.mapRoutes (fun e => e.rebuilt (admitted.contains e.pair))
  let wanting := admitted.filter (fun p => !s.hasEntry p)
  let room := Config.routeCapacity - s1.routes.length
  let unserved := wanting.drop room
  let s2 := s1.insertPairs (wanting.take room)
  State.raiseIf { s2 with admitted := admitted, unserved := unserved, rebuild := .none }
    (s.unserved.isEmpty && !unserved.isEmpty) .routeFull

/-- The rebuild of a block start, if one is due: a request waits while a survey is in progress (R50), an engine reset's
does not (R54), and with no bank LIVE none is carried out (R42). The rebuild of a survey's end waits too where a second
survey has begun at that same block start (DESIGN CHOICE, log 26). -/
def State.serveRebuild (s : State) : State :=
  match s.rebuild with
  | .none => s
  | .requested => if s.surveying then s else if s.running then s.rebuildRoutes else { s with rebuild := .none }
  | .forced => if s.running then s.rebuildRoutes else { s with rebuild := .none }

/-! ### Removal and admission (R48, R49) -/

/-- A RETIRING entry whose current gain is OFF leaves the list (R48). -/
def Entry.removable (e : Entry) : Bool := e.lifecycle == .retiring && e.gain == .off

/-- Every removable entry removed, and as many pairs admitted from the unserved list, in pair order (R48, R49). -/
def State.removeRetired (s : State) : State :=
  let k := (s.routes.filter (fun e => e.removable)).length
  let s1 := s.withRoutes (s.routes.filter (fun e => !e.removable))
  { s1.insertPairs (s.unserved.take k) with unserved := s.unserved.drop k }

/-- ROUTE_REMOVAL: the removals with their admissions, and the compositions that set the new entries' targets (R44,
R48, R49). -/
def execRouteRemoval (s : State) : Host.Outcome State Fault Refusal :=
  .next (if s.routes.any (fun e => e.removable) then s.removeRetired.compose else s)

/-! ### What a change at a block start brings with it -/

/-- The consequences the rules give a change of the mix, of the admitted set's inputs or of the survey at its block
start: LAST released (R17), NOM counted (R19), the rebuild that is due (R42), the compositions (R82), the hold decision
(R164). Removals, motion and grants have commands of their own (log 12). -/
def State.settle (s : State) : State := s.releaseLast.countNom.serveRebuild.compose.refreshHold

end Sys2Proof.Machine
end

