-- ==== Sys2Proof/Machine/Cues.lean ====
section
/-! DEFINITION. The cue intake's sweep and the cues of the operating mix: INTAKE_SWEEP, SOURCE_SET, ZONE_SET, BAD_KIND (R161 to R177). -/

namespace Sys2Proof.Machine

/-! ### The sweep (R163, R164, R173) -/

/-- The kinds of the slots and of the call table (section 9.5). -/
def kindSourceSet : Nat := 1
def kindZoneSet : Nat := 2
def kindScenePush : Nat := 3
def kindScenePop : Nat := 4
def kindSceneClear : Nat := 5
def kindBankAdopt : Nat := 6
def kindSurveyStart : Nat := 7
def kindSurveyAbort : Nat := 8

/-- The hold decision permits a kind (R164). -/
def HoldDecision.permits (h : HoldDecision) (kind : Nat) : Bool :=
  match h with
  | .takeAll => true
  | .abortOnly => kind == kindSurveyAbort
  | .takeNone => false

/-- The entry of the live call table that CALL's number selects; none with no bank LIVE (R173). -/
def State.calledBody (s : State) : Option (List Word) := s.adopted.map (fun b => b.call s.port.callNumber)

/-- The kind of a call as the hold decision reads it (R164); with no bank LIVE a call has none. -/
def State.calledKind (s : State) : Nat := (s.calledBody.map kindOf).getD 0

/-- The take of a pending call: in progress, its item at the head of the take list with the claim set (R173). -/
def State.takeCall (s : State) : State :=
  { s.withPort { s.port with callPending := false, callResult := inProgress } with
    takeList := { origin := .call, claim := true, body := s.calledBody } :: s.takeList }

/-- The examination of CALL (R173). -/
def State.examineCall (s : State) : State :=
  if s.port.callPending && s.hold.permits s.calledKind then s.takeCall else s

/-- A slot's body as a take copies it (R163). -/
def State.slotBody (s : State) (k : Fin 32) : List Word := copiedBody (fun i => s.word (slotBase k + i))

/-- The take of a posted slot: TAKEN, its item at the end of the take list (R163). -/
def State.takeSlot (s : State) (k : Fin 32) : State :=
  { s.store (slotBase k) slotTaken with
    takeList := s.takeList ++ [{ origin := .slot k, claim := false, body := some (s.slotBody k) }] }

/-- The examination of a slot (R163). -/
def State.examineSlot (s : State) (k : Fin 32) : State :=
  if s.word (slotBase k) = slotPosted ∧ s.hold.permits (s.word (slotBase k + 1)).toNat then s.takeSlot k else s

/-- The next examination of the block's sweep: CALL, then slots 0 to 31 (R163). -/
def State.examineNext (s : State) : State :=
  if s.sweepPos = 0 then { s.examineCall with sweepPos := 1 }
  else if s.sweepPos < Config.sweepLength then
    { s.examineSlot (Fin.ofNat 32 (s.sweepPos - 1)) with sweepPos := s.sweepPos + 1 }
  else s

/-- Examinations in order; after the 33rd the block has no more (R163). -/
def State.examineMany : Nat → State → State
  | 0, s => s
  | n + 1, s => State.examineMany n s.examineNext

/-- INTAKE_SWEEP: the next examinations of this block's one sweep; 33 make it whole (R163, R165; log 2). -/
def execIntakeSweep (examinations : Nat) (s : State) : Host.Outcome State Fault Refusal :=
  .next (s.examineMany (min examinations Config.sweepLength))

/-! ### Checking and applying a cue (R166, R167, R170) -/

/-- What a check decides: the result code and detail of a fault, or that the cue is carried out. -/
abbrev CueFault := Option (ResultCode × Nat)

/-- The first check that fails decides the result (R106, R116, R135, R167). -/
def firstFault : List (Bool × ResultCode × Nat) → CueFault
  | [] => none
  | (fails, code, detail) :: rest => if fails then some (code, detail) else firstFault rest

/-- A cue's checks. An item without a body, a call taken with no bank LIVE, is FAULTED NO_BANK whatever is LIVE by then
(R173). -/
def checkedBody (item : CueItem) (checks : List Word → List (Bool × ResultCode × Nat)) : CueFault :=
  match item.body with
  | none => some (.noBank, 0)
  | some body => firstFault (checks body)

/-- The body of an item that has one. -/
def cueBody (item : CueItem) : List Word := item.body.getD []

/-- A faulted cue changes nothing but its own outcome (R166). -/
def State.faulted (s : State) (item : CueItem) (f : ResultCode × Nat) : State :=
  s.outcome item.origin item.claim f.1 f.2

/-- DONE with CLAMPED and the count, or with OK (R170). -/
def State.doneClamped (s : State) (item : CueItem) (clamps : Nat) : State :=
  if clamps = 0 then s.outcome item.origin item.claim .ok 0 else s.outcome item.origin item.claim .clamped clamps

/-! ### SOURCE_SET -/

/-- The source moves with the body (R168). -/
def State.moves (s : State) (body : List Word) (mask : Word) (i : Fin 16) : Bool :=
  namesSource mask i && applyPosition body (s.source i).pos != (s.source i).pos

/-- A source takes the present fields of a body (R168). -/
def Source.takeBody (x : Source) (body : List Word) : Source :=
  { x with mix := applySourceFields body x.mix, pos := applyPosition body x.pos }

/-- The source fields of a body applied to every source a mask names; a changed position has the source's targets
recomputed and requests a rebuild (R168, R42, R61). The gates follow once the block start's changes are all made
(`State.followForces`). -/
def State.setSources (s : State) (body : List Word) (mask : Word) : State :=
  let s1 := s.mapSources (fun i x => if namesSource mask i then x.takeBody body else x)
  let s2 := s1.retarget (s.moves body mask)
  if allSources.any (s.moves body mask) then s2.requestRebuild else s2

/-- The checks of a SOURCE_SET (R167). -/
def State.sourceSetFault (s : State) (item : CueItem) : CueFault :=
  checkedBody item (fun body =>
    [(!s.running, .noBank, 0), (badForce body, .badField, 11), ((namedSources (bodyWord body 7)).isEmpty, .badTarget, 0)])

/-- A SOURCE_SET that passes its checks (R168, R170). -/
def State.carrySourceSet (s : State) (item : CueItem) : State :=
  let body := cueBody item
  let mask := bodyWord body 7
  (s.setSources body mask).doneClamped item ((namedSources mask).length * sourceClamps body)

/-- A SOURCE_SET applied (R166). -/
def State.applySourceSet (s : State) (item : CueItem) : State :=
  match s.sourceSetFault item with
  | some f => s.faulted item f
  | none => s.carrySourceSet item

/-- SOURCE_SET applied at a block start, with what it brings (R17, R168; log 12). -/
def execSourceSet (item : CueItem) (s : State) : Host.Outcome State Fault Refusal :=
  .next (match s.sourceSetFault item with
    | some f => s.faulted item f
    | none => ((s.carrySourceSet item).followForces s.forceMode).settle)

/-! ### ZONE_SET -/

/-- The zone fields of a body applied to every zone a mask names (R169). -/
def State.setZones (s : State) (body : List Word) (low high : Word) : State :=
  s.mapZones (fun z x => if namesZone low high z then { x with mix := applyZoneFields body x.mix } else x)

/-- The checks of a ZONE_SET (R167). -/
def State.zoneSetFault (s : State) (item : CueItem) : CueFault :=
  checkedBody item (fun body =>
    [(!s.running, .noBank, 0), (badDuck body, .badField, 19),
     ((namedZones (bodyWord body 7) (bodyWord body 8)).isEmpty, .badTarget, 0)])

/-- A ZONE_SET that passes its checks (R169, R170). -/
def State.carryZoneSet (s : State) (item : CueItem) : State :=
  let body := cueBody item
  let low := bodyWord body 7
  let high := bodyWord body 8
  (s.setZones body low high).doneClamped item ((namedZones low high).length * zoneClamps body)

/-- A ZONE_SET applied (R166). -/
def State.applyZoneSet (s : State) (item : CueItem) : State :=
  match s.zoneSetFault item with
  | some f => s.faulted item f
  | none => s.carryZoneSet item

/-- ZONE_SET applied at a block start, with what it brings (R169; log 12). -/
def execZoneSet (item : CueItem) (s : State) : Host.Outcome State Fault Refusal :=
  .next (match s.zoneSetFault item with
    | some f => s.faulted item f
    | none => (s.carryZoneSet item).settle)

/-! ### BAD_KIND -/

/-- The fault of a cue of an unknown kind: NO_BANK while the engine is in NO_BANK, else BAD_KIND with the kind (R166,
R173). -/
def State.badKindFault (s : State) (item : CueItem) : ResultCode × Nat :=
  (checkedBody item (fun _ => [(!s.running, .noBank, 0)])).getD (.badKind, kindOf (cueBody item))

/-- A cue of an unknown kind applied (R166). -/
def State.applyBadKind (s : State) (item : CueItem) : State := s.faulted item (s.badKindFault item)

/-- BAD_KIND (R166). -/
def execBadKind (item : CueItem) (s : State) : Host.Outcome State Fault Refusal := .next (s.applyBadKind item)

end Sys2Proof.Machine
end

