-- ==== Sys2Proof/Machine/Sums.lean ====
section
/-! DEFINITION. Taps, crossfades, the zone sum, clipping, the survey probe and the output level: what the zone unit completes at the end of a block (R31, R34, R68 to R70, R98 to R100, R121, R122). -/

namespace Sys2Proof.Machine

/-! ### Route samples (R4, R68, R70) -/

/-- The 48 taps at a delay for the block that has just ended: sample i is the one written `delay` sample periods before
sample i of the block before it (R4). The line is newest first and already holds the ended block. -/
def tapBlock (line : List Sample) (delay : Nat) : List Sample :=
  ((line.drop (Config.blockLength + delay)).take Config.blockLength).reverse

/-- The weight of the new tap in fade block k, sample i (R70). -/
def fadeWeight (unitLength k i : Nat) : Nat := 32768 * (48 * k + i + 1) / (48 * unitLength)

/-- A crossfaded route sample (R70). -/
def crossfade (old new : Int) (weight : Nat) : Int := (old * (32768 - weight) + new * weight) / 32768

/-- The 48 route samples of an entry over a source's line (R68). -/
def Entry.routeSamples (e : Entry) (line : List Sample) : List Int :=
  match e.motion with
  | .fading destination progress unitLength _ =>
    (List.zip (tapBlock line e.delay) (tapBlock line destination)).zipIdx.map
      (fun t => crossfade t.1.1.toInt t.1.2.toInt (fadeWeight unitLength progress t.2))
  | _ => (tapBlock line e.delay).map (·.toInt)

/-- A scaled sample: the product over 4096, rounded towards -∞ (R98). -/
def scaledSample (routeSample : Int) (lin : Nat) : Int := routeSample * lin / 4096

/-- The 48 scaled samples of an entry (R98). An entry at linear gain 0 gives 0 for every sample. -/
def Entry.scaledSamples (e : Entry) (line : List Sample) : List Int :=
  let lin := linearGain e.gain
  if lin = 0 then List.replicate Config.blockLength 0 else (e.routeSamples line).map (fun x => scaledSample x lin)

/-! ### The zone sum (R99, R100) -/

/-- The exact sums of a zone for the ended block, sample by sample (R99). -/
def State.zoneSums (s : State) (z : Fin 24) : List Int :=
  (s.routes.filter (fun e => e.pair.zone == z)).foldl
    (fun acc e => List.zipWith (· + ·) acc (e.scaledSamples (s.source e.pair.source).line))
    (List.replicate Config.blockLength 0)

/-! ### The probe (R122) -/

/-- The magnitude of the probe (R122). -/
def probeMagnitude (probeCode : Int) : Nat := scaledByCode 8388607 probeCode

/-- One step of the LFSR: the exclusive-or of bits 0, 2, 3 and 5 enters bit 15 (R122). -/
def lfsrStep (r : Word) : Word :=
  (r >>> 1) ||| (if (r.getLsbD 0 ^^ r.getLsbD 2 ^^ r.getLsbD 3 ^^ r.getLsbD 5) then 0x8000 else 0)

/-- The sample an LFSR value gives: bit 0 clear +A, set -A (R122). -/
def probeSample (magnitude : Nat) (r : Word) : Sample :=
  BitVec.ofInt 24 (if r.getLsbD 0 then -(magnitude : Int) else magnitude)

/-- `n` probe samples from an LFSR value (R122). -/
def probeSamples (magnitude : Nat) : Nat → Word → List Sample
  | 0, _ => []
  | n + 1, r => probeSample magnitude r :: probeSamples magnitude n (lfsrStep r)

/-- An LFSR value after `n` steps (R122). -/
def lfsrSteps : Nat → Word → Word
  | 0, r => r
  | n + 1, r => lfsrSteps n (lfsrStep r)

/-- The probe block of the ended block, for the surveyed zone in PROBE (R121). -/
def State.probeBlock (s : State) (z : Fin 24) : Option (List Sample) :=
  if s.survey.phase.probing && s.survey.zone == z then
    some (probeSamples (probeMagnitude s.survey.probeCode) Config.blockLength s.survey.lfsr)
  else none

/-! ### The end of a block in the zone unit -/

/-- A zone at the end of a block: the waiting sum completed, clipping tested on the route sum, the output level
measured (R31, R34, R100, R121). -/
def State.zoneEnd (s : State) (z : Fin 24) (x : Zone) : Zone :=
  let sums := s.zoneSums z
  let clip := sums.any overflows24
  let waiting := (s.probeBlock z).getD (sums.map saturate24)
  { x with
    waiting := waiting
    outLevel := levelOf (squareSum waiting) Config.blockLength
    clip := clip
    clipCount := if clip then min (x.clipCount + 1) 65535 else x.clipCount }

/-- A zone at the end of a block whose sum an engine reset discards: zeros, level -192, no clip (R36, R102). -/
def Zone.discardSum (x : Zone) : Zone := { x with waiting := zeroBlock, outLevel := -192, clip := false }

/-- The zones at the end of a block; CLIP for a zone that clipped, and the peak output levels gathered (R100, R179). -/
def State.endZones (s : State) : State :=
  let s1 := if s.port.resetRequest then s.mapZones (fun _ x => x.discardSum) else s.mapZones s.zoneEnd
  let s2 := s1.withMeter
    { s1.meter with zonePeaks := List.zipWith max s1.meter.zonePeaks (s1.zones.map (·.outLevel)) }
  s2.raiseIf (s2.zones.any (·.clip)) .clip

end Sys2Proof.Machine
end

