-- ==== Sys2Proof/Machine/Surveys.lean ====
section
/-! DEFINITION. The coupling survey: SURVEY_START, SURVEY_ABORT, MUTING_END, QUIET_END, SETTLE_END, MEASURE_END, SURVEY_COMPLETE (R115 to R130). -/

namespace Sys2Proof.Machine

/-! ### Starting (R116 to R118) -/

/-- The zone a SURVEY_START names, if it is present and exists (R116). -/
def surveyZone (body : List Word) : Option (Fin 24) :=
  let n := (bodyWord body 23).toNat
  if present body 0 && decide (n < 24) then some (Fin.ofNat 24 n) else none

/-- A signed window parameter: from the cue and clamped if present, else the default (R117). -/
def signedParam (body : List Word) (bit word : Nat) (lo hi default : Int) : Int :=
  if present body bit then clampInt lo hi (bodyWord body word).toInt else default

/-- An unsigned window parameter: from the cue and clamped if present, else the default (R117). -/
def natParam (body : List Word) (bit word lo hi default : Nat) : Nat :=
  if present body bit then clampNat lo hi (bodyWord body word).toNat else default

/-- Some window parameter of the cue is clamped (R117). -/
def surveyClamps (body : List Word) : Bool :=
  (present body 1 && clampInt (-120) (-12) (bodyWord body 24).toInt != (bodyWord body 24).toInt)
  || [(2, 25), (3, 26), (4, 27)].any (fun p =>
      present body p.1 && clampNat 64 4096 (bodyWord body p.2).toNat != (bodyWord body p.2).toNat)
  || (present body 5 && above (bodyWord body 28) 8192)

/-- The survey unit as a SURVEY_START leaves it (R117, R118). The sums and lost notes are cleared at the end of MUTING. -/
def Survey.started (v : Survey) (b : Bank) (item : CueItem) (body : List Word) (zone : Fin 24) : Survey :=
  { v with
    phase := .muting
    zone := zone
    probeCode := signedParam body 1 24 (-120) (-12) b.globals.probeCode
    quiet := natParam body 2 25 64 4096 b.globals.quiet
    settle := natParam body 3 26 64 4096 b.globals.settle
    measure := natParam body 4 27 64 4096 b.globals.measure
    tail := natParam body 5 28 0 8192 b.globals.tail
    counter := 0
    clampNote := surveyClamps body
    origin := item.origin
    claim := item.claim }

/-- The header of the result area as a survey starts (R118, section 9.5); the end block number stays. -/
def Survey.runningHeader (v : Survey) (block : BlockNo) : List (Nat × Word) :=
  [(surveyBase + 1, natWord v.zone.val), (surveyBase + 2, signedWord v.probeCode), (surveyBase + 3, natWord v.quiet),
   (surveyBase + 4, natWord v.settle), (surveyBase + 5, natWord v.measure), (surveyBase + 6, natWord v.tail),
   (surveyBase + 7, blockLow block), (surveyBase + 8, blockHigh block)]

/-- A result record (section 9.5). -/
def surveyRecord (i : Fin 16) (status quiet probe coupling : Word) : List (Nat × Word) :=
  let a := surveyBase + 0x10 + 4 * i.val
  [(a, status), (a + 1, quiet), (a + 2, probe), (a + 3, coupling)]

/-- Every record UNMEASURED (R118). -/
def unmeasuredRecords : List (Nat × Word) := allSources.flatMap (fun i => surveyRecord i 0 0x8000 0x8000 0x7FFF)

/-- An accepted SURVEY_START takes effect: MUTING, header RUNNING, records UNMEASURED, every target OFF (R118, R93). -/
def State.beginSurvey (s : State) (b : Bank) (item : CueItem) (body : List Word) (zone : Fin 24) : State :=
  let v := s.survey.started b item body zone
  let s1 := (s.withSurvey v).storeAll (v.runningHeader s.block ++ unmeasuredRecords ++ [(surveyBase, 1)])
  State.compose { s1 with marks := { s1.marks with surveyBegan := true } }

/-- An adoption counts as in progress for a SURVEY_START up to and including the block start of its switch-over or
rejection (R116; log 11). -/
def State.adoptionBusy (s : State) : Bool := s.adoption.isSome || s.marks.adoptionEnded

/-- The checks of a SURVEY_START (R116). -/
def State.surveyStartFault (s : State) (item : CueItem) : CueFault :=
  checkedBody item (fun body =>
    [(!s.running, .noBank, 0), ((surveyZone body).isNone, .badTarget, 0), (s.surveying, .busy, 0),
     (s.adoptionBusy, .busy, 0)])

/-- A SURVEY_START that passes its checks (R117, R118). -/
def State.carrySurveyStart (s : State) (item : CueItem) : State :=
  match s.adopted, surveyZone (cueBody item) with
  | some b, some zone => s.beginSurvey b item (cueBody item) zone
  | _, _ => s

/-- A SURVEY_START applied (R116 to R118). -/
def State.applySurveyStart (s : State) (item : CueItem) : State :=
  match s.surveyStartFault item with
  | some f => s.faulted item f
  | none => s.carrySurveyStart item

/-! ### The blocks of a survey (R120, R121, R123) -/

/-- Sums with the squares of the ended block's samples added (R120). -/
def State.addBlock (s : State) (sums : List Nat) : List Nat :=
  allSources.map (fun i => sums.getD i.val 0 + squareSum (s.source i).blockSamples)

/-- Lost notes with the ended block's (R120, R121). -/
def State.noteLost (s : State) (notes : List Bool) : List Bool :=
  allSources.map (fun i => notes.getD i.val false || s.lostBlock i)

/-- The survey unit after the block that has just ended (R120, R121, R123). The block counter stays 0 through MUTING,
whose end R119 does not count to (R115; DESIGN CHOICE, log 28). -/
def State.surveyBlockEnd (s : State) : Survey :=
  let v := s.survey
  match v.phase with
  | .idle => v
  | .muting => v
  | .quiet =>
    { v with quietSums := s.addBlock v.quietSums, lostNotes := s.noteLost v.lostNotes, counter := v.counter + 1 }
  | .probeSettle =>
    { v with lostNotes := s.noteLost v.lostNotes, counter := v.counter + 1,
             lfsr := lfsrSteps Config.blockLength v.lfsr }
  | .probeMeasure =>
    { v with probeSums := s.addBlock v.probeSums, lostNotes := s.noteLost v.lostNotes, counter := v.counter + 1,
             lfsr := lfsrSteps Config.blockLength v.lfsr }
  | .tail => { v with counter := v.counter + 1 }

/-! ### Completion (R124, R125) -/

/-- A source's record at completion (R124). -/
def Survey.resultRecord (v : Survey) (i : Fin 16) : List (Nat × Word) :=
  let quiet := levelOf (v.quietSums.getD i.val 0) (48 * v.quiet)
  let probe := levelOf (v.probeSums.getD i.val 0) (48 * v.measure)
  if v.lostNotes.getD i.val false then surveyRecord i 3 (signedWord quiet) (signedWord probe) 0x7FFF
  else surveyRecord i (if 20 ≤ probe - quiet then 1 else 2) (signedWord quiet) (signedWord probe)
    (signedWord (probe - v.probeCode))

/-- The header's end block number, then its state (R125, R127). -/
def surveyEndHeader (block : BlockNo) (state : Word) : List (Nat × Word) :=
  [(surveyBase + 9, blockLow block), (surveyBase + 0xA, blockHigh block), (surveyBase, state)]

/-- The survey completes: records, header COMPLETE, IDLE, one rebuild, the SURVEY_START's result, SURVEY (R125). That the
claim on CALL is cleared then, and that the origin and the rest stand as they stood, is the model's (DESIGN CHOICE,
log 27). -/
def State.completeSurvey (s : State) : State :=
  let v := s.survey
  let s1 := s.storeAll (allSources.flatMap v.resultRecord ++ surveyEndHeader s.block 2)
  let s2 := (s1.withSurvey { v with phase := .idle, claim := false }).requestRebuild
  (s2.outcome v.origin v.claim (if v.clampNote then .clamped else .ok) 0).raise .survey

/-! ### Ending early (R127, R128) -/

/-- The sums and lost notes discarded (R127, R128), and at an engine reset the claim on CALL cleared (R129). What the LFSR,
the window parameters, the block counter and the origin hold from then until a survey starts is not said; the model leaves
them as they stood, and clears the claim at a SURVEY_ABORT too (DESIGN CHOICE, log 27). -/
def Survey.discarded (v : Survey) : Survey :=
  { v with
    phase := .idle
    claim := false
    quietSums := List.replicate Config.sourceCount 0
    probeSums := List.replicate Config.sourceCount 0
    lostNotes := List.replicate Config.sourceCount false }

/-- The end of a survey ABORTED with a result code for its SURVEY_START; the records stay UNMEASURED (R127, R128). -/
def State.abandonSurvey (s : State) (code : ResultCode) : State :=
  let v := s.survey
  let s1 := (s.storeAll (surveyEndHeader s.block 3)).withSurvey v.discarded
  (s1.outcome v.origin v.claim code 0).raise .survey

/-- The zone that the probe of the block under way goes to, in PROBE (R121). -/
def State.probedZone (s : State) : Option (Fin 24) := if s.survey.phase.probing then some s.survey.zone else none

/-- The zone unit discards the probe block that the surveyed zone would send in the block that begins (R127; log 13 for
a survey begun at this block start). -/
def State.stopProbe (s : State) : State :=
  if s.marks.probedZone = some s.survey.zone then s.setZone s.survey.zone { s.zone s.survey.zone with waiting := zeroBlock } else s

/-- The check of a SURVEY_ABORT, which NO_BANK does not refuse (R127). -/
def State.surveyAbortFault (s : State) (item : CueItem) : CueFault :=
  checkedBody item (fun _ => [(!s.surveying, .notRunning, 0)])

/-- A SURVEY_ABORT that finds a survey in progress (R127). -/
def State.carrySurveyAbort (s : State) (item : CueItem) : State :=
  ((s.stopProbe.abandonSurvey .aborted).requestRebuild).outcome item.origin item.claim .ok 0

/-- A SURVEY_ABORT applied (R127). -/
def State.applySurveyAbort (s : State) (item : CueItem) : State :=
  match s.surveyAbortFault item with
  | some f => s.faulted item f
  | none => s.carrySurveyAbort item

/-! ### The phase changes of a block start (R119 to R123) -/

/-- Every entry's current gain is OFF (R119). -/
def State.allSilent (s : State) : Bool := s.routes.all (fun e => e.gain == .off)

/-- MUTING ends: after the block start at which the survey took effect, with every entry at OFF (R119). -/
def State.atMutingEnd (s : State) : Bool := s.survey.phase == .muting && !s.marks.surveyBegan && s.allSilent

/-- QUIET begins: sums and lost notes cleared (R119). -/
def Survey.enterQuiet (v : Survey) : Survey :=
  { v with
    phase := .quiet
    counter := 0
    quietSums := List.replicate Config.sourceCount 0
    probeSums := List.replicate Config.sourceCount 0
    lostNotes := List.replicate Config.sourceCount false }

/-- The end of MUTING, if it is due (R119). -/
def State.mutingEnd (s : State) : State := if s.atMutingEnd then s.withSurvey s.survey.enterQuiet else s

/-- The quiet blocks have ended (R120). -/
def State.atQuietEnd (s : State) : Bool := s.survey.phase == .quiet && decide (s.survey.quiet ≤ s.survey.counter)

/-- The end of QUIET, if it is due: SETTLE, counter 0, the LFSR loaded with its seed (R120, R122). -/
def State.quietEnd (s : State) : State :=
  if s.atQuietEnd then s.withSurvey { s.survey with phase := .probeSettle, counter := 0, lfsr := 0xACE1 } else s

/-- The settle blocks have ended (R121). -/
def State.atSettleEnd (s : State) : Bool := s.survey.phase == .probeSettle && decide (s.survey.settle ≤ s.survey.counter)

/-- The end of SETTLE, if it is due: MEASURE, counter 0 (R121). -/
def State.settleEnd (s : State) : State :=
  if s.atSettleEnd then s.withSurvey { s.survey with phase := .probeMeasure, counter := 0 } else s

/-- The measure blocks have ended (R121). -/
def State.atMeasureEnd (s : State) : Bool :=
  s.survey.phase == .probeMeasure && decide (s.survey.measure ≤ s.survey.counter)

/-- The end of MEASURE, if it is due: TAIL with counter 0, or completion when tail blocks is 0 (R121). -/
def State.measureEnd (s : State) : State :=
  if s.atMeasureEnd then
    if s.survey.tail = 0 then s.completeSurvey else s.withSurvey { s.survey with phase := .tail, counter := 0 }
  else s

/-- The tail blocks have ended (R123). -/
def State.atTailEnd (s : State) : Bool := s.survey.phase == .tail && decide (s.survey.tail ≤ s.survey.counter)

/-- The end of TAIL, if it is due: completion (R123, R125). -/
def State.tailEnd (s : State) : State := if s.atTailEnd then s.completeSurvey else s

/-- The survey would complete at this block start (R127, R128). -/
def State.completionDue (s : State) : Bool := s.atTailEnd || (s.atMeasureEnd && s.survey.tail == 0)

/-- The survey's own phase change at a block start, counted by the blocks that have ended (R120, R121, R123). -/
def State.advanceSurvey (s : State) : State :=
  match s.survey.phase with
  | .quiet => s.quietEnd
  | .probeSettle => s.settleEnd
  | .probeMeasure => s.measureEnd
  | .tail => s.tailEnd
  | .idle => s
  | .muting => s

/-! ### The commands -/

/-- SURVEY_START applied at a block start, with what it brings (R116 to R118; log 12). -/
def execSurveyStart (item : CueItem) (s : State) : Host.Outcome State Fault Refusal :=
  .next (match s.surveyStartFault item with
    | some f => s.faulted item f
    | none => (s.carrySurveyStart item).settle)

/-- SURVEY_ABORT applied at a block start, with what it brings (R127; log 12). -/
def execSurveyAbort (item : CueItem) (s : State) : Host.Outcome State Fault Refusal :=
  .next (match s.surveyAbortFault item with
    | some f => s.faulted item f
    | none => (s.carrySurveyAbort item).settle)

/-- MUTING_END; not due, nothing happens (R119; log 3). -/
def execMutingEnd (s : State) : Host.Outcome State Fault Refusal := .next s.mutingEnd

/-- QUIET_END; not due, nothing happens (R120; log 3). -/
def execQuietEnd (s : State) : Host.Outcome State Fault Refusal := .next s.quietEnd

/-- SETTLE_END; not due, nothing happens (R121; log 3). -/
def execSettleEnd (s : State) : Host.Outcome State Fault Refusal := .next s.settleEnd

/-- MEASURE_END, with the completion it brings when tail blocks is 0; not due, nothing happens (R121; log 3). -/
def execMeasureEnd (s : State) : Host.Outcome State Fault Refusal :=
  .next (if s.atMeasureEnd then s.measureEnd.settle else s)

/-- SURVEY_COMPLETE, with the rebuild and compositions of the survey's end; not due, nothing happens (R123, R125;
log 3). -/
def execSurveyComplete (s : State) : Host.Outcome State Fault Refusal :=
  .next (if s.atTailEnd then s.tailEnd.settle else s)

end Sys2Proof.Machine
end

