-- ==== Sys2Proof/Machine/Banks.lean ====
section
/-! DEFINITION. Setting banks and adoption: BANK_ADOPT, BANK_REJECT, SWITCH_OVER, and the parts of validation (R131 to R146). -/

namespace Sys2Proof.Machine

/-- A bank's state words (R131). -/
def bankEdit : Word := 0
def bankAdopting : Word := 1
def bankLive : Word := 2

/-! ### Asking for adoption (R135, R136) -/

/-- The bank a BANK_ADOPT's field names: 0 A, 1 B (section 9.5). -/
def bankOfCode : Nat → Option BankId
  | 0 => some .bankA
  | 1 => some .bankB
  | _ => none

/-- The bank field of a body. -/
def namedBank (body : List Word) : Option BankId := bankOfCode (bodyWord body 22).toNat

/-- The bank that is LIVE (R132). -/
def State.liveBank (s : State) : Option BankId := s.live.map (·.bank)

/-- An adoption counts as in progress for a BANK_ADOPT up to and including the block start of its switch-over or
rejection, but not after an engine reset there (R135, R144; log 11). -/
def State.adoptBusy (s : State) : Bool := s.adoption.isSome || (s.marks.adoptionEnded && !s.marks.resetHere)

/-- The checks of a BANK_ADOPT, which NO_BANK does not refuse (R135). -/
def State.bankAdoptFault (s : State) (item : CueItem) : CueFault :=
  checkedBody item (fun body =>
    [(present body 0 && (namedBank body).isNone, .badField, 22),
     (!present body 0 || namedBank body == s.liveBank, .badTarget, 0), (s.adoptBusy, .busy, 0), (s.surveying, .busy, 0)])

/-- The header words 1 to 4 of a bank (section 9.5). -/
def bankHeader (bank : BankId) (count first : Nat) (reason : RejectReason) (rejectAddr : Nat) : List (Nat × Word) :=
  [(bankBase bank + 1, natWord count), (bankBase bank + 2, natWord first), (bankBase bank + 3, natWord reason.code),
   (bankBase bank + 4, natWord rejectAddr)]

/-- An accepted adoption: ADOPTING, header cleared, staging copy empty, part 0 next (R136). -/
def State.beginAdoption (s : State) (item : CueItem) (bank : BankId) : State :=
  { s.storeAll (bankHeader bank 0 0 .none 0 ++ [(bankBase bank, bankAdopting)]) with
    adoption := some
      { bank := bank, part := 0, staging := [], clampCount := 0, firstClamp := 0, illegal := none,
        origin := item.origin, claim := item.claim } }

/-- A BANK_ADOPT that passes its checks (R136). -/
def State.carryBankAdopt (s : State) (item : CueItem) : State :=
  match namedBank (cueBody item) with
  | some bank => s.beginAdoption item bank
  | none => s

/-- A BANK_ADOPT applied (R135, R136). -/
def State.applyBankAdopt (s : State) (item : CueItem) : State :=
  match s.bankAdoptFault item with
  | some f => s.faulted item f
  | none => s.carryBankAdopt item

/-- BANK_ADOPT applied at a block start (R135, R136). -/
def execBankAdopt (item : CueItem) (s : State) : Host.Outcome State Fault Refusal := .next (s.applyBankAdopt item)

/-! ### Validation (R137, R138) -/

/-- One word of the bank examined: an illegal enumeration stops validation; a listed field goes into the staging copy as
clamped, and a clamp is counted (R137, R138). -/
def Adoption.examine (a : Adoption) (mem : Memory) (off : Nat) : Adoption :=
  let field := bankField off
  let w := mem.read (bankBase a.bank + off)
  if a.illegal.isSome || !field.listed then a
  else match field.rejects w with
    | some reason => { a with illegal := some (reason, bankBase a.bank + off) }
    | none =>
      { a with
        staging := a.staging.write off (field.clamped w)
        clampCount := if field.clamps w then a.clampCount + 1 else a.clampCount
        firstClamp := if field.clamps w && a.clampCount == 0 then bankBase a.bank + off else a.firstClamp }

/-- The part of the ended block examined in ascending address (R137). -/
def Adoption.validatePart (a : Adoption) (mem : Memory) : Adoption :=
  if a.part < 8 ∧ a.illegal = none then
    let b := (List.range 512).foldl (fun a i => a.examine mem (512 * a.part + i)) a
    { b with part := a.part + 1 }
  else a

/-- The validation of the block that has just ended, if an adoption is in progress (R137). -/
def State.validate (s : State) : State := { s with adoption := s.adoption.map (fun a => a.validatePart s.mem) }

/-! ### Rejection (R139) -/

/-- An illegal field has stopped validation (R139). -/
def State.rejectDue (s : State) : Bool :=
  match s.adoption with
  | none => false
  | some a => a.illegal.isSome

/-- The rejection of an adoption for an illegal field (R139). -/
def State.rejectBank (s : State) (a : Adoption) (reason : RejectReason) (addr : Nat) : State :=
  let s1 := s.storeAll (bankHeader a.bank a.clampCount a.firstClamp reason addr ++ [(bankBase a.bank, bankEdit)])
  let s2 : State := { s1 with adoption := none, marks := { s1.marks with adoptionEnded := true } }
  (s2.outcome a.origin a.claim .bankInvalid addr).raise .bank

/-- The rejection of a block start, if it is due (R139). -/
def State.bankReject (s : State) : State :=
  match s.adoption with
  | none => s
  | some a => match a.illegal with
    | none => s
    | some (reason, addr) => s.rejectBank a reason addr

/-- BANK_REJECT; not due, nothing happens (R139; log 3). -/
def execBankReject (s : State) : Host.Outcome State Fault Refusal := .next s.bankReject

/-! ### Switch-over (R140 to R142) -/

/-- All eight parts are validated and nothing illegal was found (R140). -/
def State.switchDue (s : State) : Bool :=
  match s.adoption with
  | none => false
  | some a => a.part == 8 && a.illegal.isNone

/-- The header words of a switch-over: the adopted bank LIVE, the bank that was LIVE in EDIT (R140). -/
def switchCells (a : Adoption) (old : Option BankId) : List (Nat × Word) :=
  bankHeader a.bank a.clampCount a.firstClamp .none 0
  ++ (match old with
      | none => []
      | some b => [(bankBase b, bankEdit)])
  ++ [(bankBase a.bank, bankLive)]

/-- The first half of a switch-over: the headers, the staging copy adopted, the engine RUNNING, hold counters lowered
(R16), the BANK_ADOPT's outcome and BANK (R140). -/
def State.installBank (s : State) (a : Adoption) : State :=
  let copy := bankOf a.staging
  let s1 := s.storeAll (switchCells a s.liveBank)
  let s2 : State :=
    { s1 with live := some { bank := a.bank, copy := copy }, adoption := none,
              marks := { s1.marks with adoptionEnded := true } }
  let s3 := s2.lowerHolds copy.globals.holdBlocks
  (s3.outcome a.origin a.claim (if a.clampCount = 0 then .ok else .clamped) a.clampCount).raise .bank

/-- The second half: the operating mix reloaded, every target recomputed (R61), a rebuild requested (R42). The reloaded
force modes act on the gates once the block start's changes are all made (R16, R17). -/
def State.reloadMix (s : State) : State :=
  match s.adopted with
  | none => s
  | some b =>
    let s1 := s.mapSources (fun i x => { x with mix := (b.sourceRow i).mix, pos := (b.sourceRow i).pos })
    let s2 := s1.mapZones (fun z x => { x with mix := (b.zoneRow z).mix })
    (s2.retarget (fun _ => true)).requestRebuild

/-- The first half of a switch-over, if it is due. -/
def State.installDue (s : State) : State :=
  match s.adoption with
  | none => s
  | some a => if s.switchDue then s.installBank a else s

/-- SWITCH_OVER: both halves with the arbiter between them under the new parameters (R14, R16), the reloaded force modes
acting on the gates (R17), and what a switch-over brings (R52, R101). Not due, nothing happens (R140; log 3, log 12). -/
def execSwitchOver (s : State) : Host.Outcome State Fault Refusal :=
  .next (if s.switchDue then (s.installDue.rearbitrate.reloadMix.followForces s.forceMode).settle else s)

/-! ### Abandonment (R144) -/

/-- An engine reset abandons an adoption in progress: staging discarded, bank in EDIT with its header as cleared, the
cue FAULTED RESET, BANK (R144). -/
def State.abandonAdoption (s : State) : State :=
  match s.adoption with
  | none => s
  | some a =>
    (State.outcome { s.store (bankBase a.bank) bankEdit with adoption := none } a.origin a.claim .reset 0).raise .bank

end Sys2Proof.Machine
end

