-- ==== Sys2Proof/Machine/Meters.lean ====
section
/-! DEFINITION. The load and the meter writer: SNAPSHOT_TIME, SNAPSHOT_WRITE (R77, R178 to R182). -/

namespace Sys2Proof.Machine

/-- The load of the block that begins (R77). -/
def State.load (s : State) : Nat :=
  4 * (s.sources.filter (fun x => x.gate != .lost)).length + 8 * Config.zoneCount + 10 * s.routes.length
  + 24 * heldUnits s.routes + (if s.surveying then 16 else 0)

/-- The load handed to the meter writer, which keeps the highest (R77, R179). -/
def State.gatherLoad (s : State) : State := s.withMeter { s.meter with maxLoad := max s.meter.maxLoad s.load }

/-- The meter period in force, 50 with no bank LIVE (R178). -/
def State.meterPeriod (s : State) : Nat := (s.adopted.map (·.globals.meterPeriod)).getD 50

/-! ### The snapshot (R180, section 9.5) -/

/-- The header words of a snapshot. -/
def State.snapshotHeader (s : State) : List (Nat × Word) :=
  [(1, blockLow s.block), (2, blockHigh s.block), (3, natWord (liveBankCode s.live)), (4, flagWord s.running),
   (5, natWord s.survey.phase.code), (6, natWord s.scenes.length), (7, natWord s.meter.maxLoad),
   (8, natWord s.meter.skip), (9, natWord s.routes.length), (10, natWord s.unserved.length)]

/-- A source's words. -/
def State.snapshotSource (s : State) (i : Fin 16) : List (Nat × Word) :=
  let a := 0x38 + 4 * i.val
  [(a, signedWord (s.meter.lastLevels.getD i.val (-192))), (a + 1, floorWord (s.source i).floor),
   (a + 2, natWord (s.source i).gate.code), (a + 3, signedWord (s.meter.peakLevels.getD i.val (-192)))]

/-- A zone's words. -/
def State.snapshotZone (s : State) (z : Fin 24) : List (Nat × Word) :=
  let a := 0x78 + 2 * z.val
  [(a, signedWord (s.meter.zonePeaks.getD z.val (-192))), (a + 1, natWord (s.zone z).clipCount)]

/-- A route record: pair, states and flags, current delay, current gain. -/
def routeRecord (e : Entry) (k : Nat) : List (Nat × Word) :=
  let a := 0xA8 + 4 * k
  [(a, natWord (e.pair.source.val + 256 * e.pair.zone.val)),
   (a + 1, natWord (e.lifecycle.code + 2 * e.motion.code + bitAt e.floorFlag 4 + bitAt e.ceilFlag 5
      + bitAt e.ceilingLimited 6 + bitAt e.ducked 7)),
   (a + 2, natWord e.delay), (a + 3, gainWord e.gain)]

/-- The snapshot's words by offset (R180); records beyond the route count are not written. -/
def State.snapshotWords (s : State) : List (Nat × Word) :=
  s.snapshotHeader ++ allSources.flatMap s.snapshotSource ++ allZones.flatMap s.snapshotZone
  ++ s.routes.zipIdx.flatMap (fun t => routeRecord t.1 t.2)

/-! ### The two buffers (R181, R182) -/

/-- A meter buffer's state words (R149). -/
def bufferEmpty : Word := 0
def bufferFilling : Word := 1
def bufferFull : Word := 2
def bufferReading : Word := 3

/-- A buffer's state word. -/
def State.bufferState (s : State) (b : MeterBuffer) : Word := s.word (bufferBase b)

/-- The buffer written the earlier of the two (R181). -/
def earlierBuffer (lastWritten : MeterBuffer) : MeterBuffer :=
  match lastWritten with
  | .buffer0 => .buffer1
  | .buffer1 => .buffer0

/-- The writer's choice, none for a skip (R181). -/
def State.chosenBuffer (s : State) : Option MeterBuffer :=
  if s.bufferState .buffer0 = bufferEmpty then some .buffer0
  else if s.bufferState .buffer1 = bufferEmpty then some .buffer1
  else if s.bufferState .buffer0 = bufferFull ∧ s.bufferState .buffer1 = bufferFull then
    some (earlierBuffer s.meter.lastWritten)
  else if s.bufferState .buffer0 = bufferFull then some .buffer0
  else if s.bufferState .buffer1 = bufferFull then some .buffer1
  else none

/-- The peaks and the maximum load started afresh (R179). -/
def Meter.fresh (m : Meter) : Meter :=
  { m with
    peakLevels := List.replicate Config.sourceCount (-192)
    zonePeaks := List.replicate Config.zoneCount (-192)
    maxLoad := 0 }

/-- A snapshot captured for a buffer, which becomes FILLING; the gathered readings start afresh (R179, R180, R182). -/
def State.captureFor (s : State) (b : MeterBuffer) : State :=
  (s.withMeter { s.meter.fresh with capture := some { buffer := b, words := s.snapshotWords } }).store (bufferBase b)
    bufferFilling

/-- A skipped snapshot time (R181). -/
def State.skipSnapshot (s : State) : State := s.withMeter { s.meter with skip := min (s.meter.skip + 1) 65535 }

/-- The block start is a snapshot time (R178). -/
def State.snapshotDue (s : State) : Bool := decide (s.meterPeriod ≤ s.meter.periodCount)

/-- The work of a snapshot time: the period count back to 0, and a capture or a skip (R178, R181). -/
def State.takeSnapshot (s : State) : State :=
  let s1 := s.withMeter { s.meter with periodCount := 0 }
  match s1.chosenBuffer with
  | some b => s1.captureFor b
  | none => s1.skipSnapshot

/-- A snapshot time, if it is one. -/
def State.snapshotTime (s : State) : State := if s.snapshotDue then s.takeSnapshot else s

/-- The captured snapshot written: its words, the state FULL last, the skip count 0, the buffer recorded, METER
(R182). -/
def State.writeCapture (s : State) (c : Capture) : State :=
  let s1 := s.storeAll (c.words.map (fun w => (bufferBase c.buffer + w.1, w.2)) ++ [(bufferBase c.buffer, bufferFull)])
  (s1.withMeter { s1.meter with skip := 0, lastWritten := c.buffer, capture := none }).raise .meter

/-- The write of a captured snapshot, if one is captured (R182). -/
def State.snapshotWrite (s : State) : State :=
  match s.meter.capture with
  | none => s
  | some c => s.writeCapture c

/-- SNAPSHOT_TIME; not due, nothing happens (R178, R181; log 3). -/
def execSnapshotTime (s : State) : Host.Outcome State Fault Refusal := .next s.snapshotTime

/-- SNAPSHOT_WRITE; with nothing captured, nothing happens (R182; log 3). -/
def execSnapshotWrite (s : State) : Host.Outcome State Fault Refusal := .next s.snapshotWrite

/-- The meter writer's part of a block start: the write of the snapshot captured at the one before, the period count,
the snapshot time (R178 to R182). -/
def State.meterStep (s : State) : State :=
  let s1 := s.gatherLoad.snapshotWrite
  (s1.withMeter { s1.meter with periodCount := s1.meter.periodCount + 1 }).snapshotTime

end Sys2Proof.Machine
end

