-- ==== Sys2Proof/Machine/ExchangePort.lean ====
section
/-! DEFINITION. The exchange port: host writes by region, guarded words, the registers, port initialise, 8-bit width, and the commands of the host (R147 to R158, R172, R176, R184, R185). -/

namespace Sys2Proof.Machine

/-! ### Dropped writes (R150) -/

/-- A dropped write raises PROTECT and latches its address if PROTECT was clear (R150). -/
def State.drop (s : State) (a : Addr) : State :=
  State.raise
    (if s.port.notice.getLsbD Notice.protect.bit then s else s.withPort { s.port with protectAddr := a }) .protect

/-- A write accepted into the exchange memory. -/
def State.accept (s : State) (a : Addr) (v : Word) : State := s.store a.toNat v

/-! ### Guarded words (R149) -/

/-- The host's legal transitions of a slot state (R149). -/
def slotTransition (present written : Word) : Bool :=
  (present == slotFree && written == slotPosted) || (present == slotPosted && written == slotFree)
  || (present == slotDone && written == slotFree) || (present == slotFaulted && written == slotFree)

/-- The host's legal transitions of a meter buffer state (R149). -/
def bufferTransition (present written : Word) : Bool :=
  (present == bufferFull && written == bufferReading) || (present == bufferReading && written == bufferEmpty)

/-- A host write to CALL, judged by its P bit (R149). -/
def State.writeCall (s : State) (v : Word) : State :=
  if v.getLsbD 15 then
    if !s.port.callPending && s.port.callResult != inProgress then
      s.withPort { s.port with callPending := true, callNumber := v.extractLsb' 0 4 }
    else s.drop callAddr
  else if s.port.callPending then s.withPort { s.port with callPending := false }
  else s.drop callAddr

/-! ### The registers (R151, R152, R155, R184, R185) -/

/-- A claim on CALL cleared in an item of the take list (R155, R176). -/
def unclaimItem (item : CueItem) : CueItem :=
  match item.origin with
  | .call => { item with claim := false }
  | .slot _ => item

/-- A port initialise (R155). -/
def State.portInit (s : State) : State :=
  { s with
    port := { s.port with
      notice := 0, callPending := false, callNumber := 0, callResult := 0, writeLatch := none, readLatch := none,
      protectAddr := 0 }
    survey := { s.survey with claim := false }
    adoption := s.adoption.map (fun a => { a with claim := false })
    takeList := s.takeList.map unclaimItem }

/-- A host write to PORT_CONTROL: HOLD_INTAKE and ORDER stored, a change of ORDER emptying the read latch, an engine
reset requested, a port initialise carried out (R152, R154, R155, R158). -/
def State.writeControl (s : State) (v : Word) : State :=
  let p := s.port
  let s1 := s.withPort
    { p with
      holdIntake := v.getLsbD 2
      orderHigh := v.getLsbD 3
      readLatch := if v.getLsbD 3 = p.orderHigh then p.readLatch else none
      resetRequest := p.resetRequest || v.getLsbD 1 }
  if v.getLsbD 0 then s1.portInit else s1

/-- A host write to NOTICE clears each flag whose bit is one (R184). -/
def State.writeNotice (s : State) (v : Word) : State :=
  s.withPort { s.port with notice := s.port.notice &&& ~~~(v.setWidth 10) }

/-- A host write to NOTICE_MASK stores the ten enables (R185). -/
def State.writeMask (s : State) (v : Word) : State := s.withPort { s.port with noticeMask := v.setWidth 10 }

/-- A host write to a register (R148, R151). -/
def State.writeRegister (s : State) (number : Nat) (a : Addr) (v : Word) : State :=
  match number with
  | 0 => s.writeControl v
  | 3 => s.writeCall v
  | 4 => s.writeNotice v
  | 5 => s.writeMask v
  | _ => s.drop a

/-! ### The region check (R148) -/

/-- A host write to a word of a cue slot: the state word by its transitions, the result words never, body words while
the slot is FREE (R148, R161). -/
def State.writeSlot (s : State) (k : Fin 32) (word : Nat) (a : Addr) (v : Word) : State :=
  let state := s.word (slotBase k)
  let legal :=
    if word = 0 then slotTransition state v
    else if 2 ≤ word ∧ word ≤ 5 then false
    else state == slotFree
  if legal then s.accept a v else s.drop a

/-- One whole word write presented to the port (R148, R149, R150). -/
def State.presentWrite (s : State) (a : Addr) (v : Word) : State :=
  match regionOf a.toNat with
  | .register n => s.writeRegister n a v
  | .slotWord k word => s.writeSlot k word a v
  | .bankWord bank off => if off ≠ 0 ∧ s.word (bankBase bank) = bankEdit then s.accept a v else s.drop a
  | .surveyWord => s.drop a
  | .bufferWord buffer off =>
    if off = 0 ∧ bufferTransition (s.bufferState buffer) v then s.accept a v else s.drop a
  | .unassigned => s.drop a

/-! ### 8-bit width (R157, R158) -/

/-- The lane that ORDER names first (R157). -/
def Port.firstLane (p : Port) : Lane := if p.orderHigh then .high else .low

/-- The other lane. -/
def otherLane : Lane → Lane
  | .low => .high
  | .high => .low

/-- A lane's byte of a word (R157). -/
def laneByte (lane : Lane) (w : Word) : Byte :=
  match lane with
  | .low => w.extractLsb' 0 8
  | .high => w.extractLsb' 8 8

/-- The word of a first-lane byte and a second-lane byte (R157). -/
def joinBytes (first : Lane) (firstByte secondByte : Byte) : Word :=
  match first with
  | .low => secondByte ++ firstByte
  | .high => firstByte ++ secondByte

/-- A byte write staged, or completing a word write, or dropped (R157). -/
def State.stageByte (s : State) (a : Addr) (lane : Lane) (byte : Byte) : State :=
  if lane = s.port.firstLane then s.withPort { s.port with writeLatch := some (a, byte) }
  else
    let emptied := s.withPort { s.port with writeLatch := none }
    match s.port.writeLatch with
    | some (held, first) =>
      if held = a then emptied.presentWrite a (joinBytes s.port.firstLane first byte) else emptied.drop a
    | none => emptied.drop a

/-- A byte read through the read latch; the byte returned stands on the data lines (R158). -/
def State.latchByte (s : State) (a : Addr) (lane : Lane) : State :=
  if lane = s.port.firstLane then
    s.withPort { s.port with readLatch := some (a, s.hostRead a), readData := laneByte lane (s.hostRead a) }
  else match s.port.readLatch with
    | some (held, w) =>
      if held = a then s.withPort { s.port with readLatch := none, readData := laneByte lane w }
      else s.withPort { s.port with readData := laneByte lane (s.hostRead a) }
    | none => s.withPort { s.port with readData := laneByte lane (s.hostRead a) }

/-- A host word write: one access in 16-bit width; in 8-bit width its two byte writes, first lane first (R157;
log 9). -/
def State.hostWrite (s : State) (a : Addr) (v : Word) : State :=
  if s.port.width8 then
    let first := s.port.firstLane
    (s.stageByte a first (laneByte first v)).stageByte a (otherLane first) (laneByte (otherLane first) v)
  else s.presentWrite a v

/-! ### The host's commands -/

/-- A slot's state word address. -/
def slotAddr (k : Fin 32) : Addr := BitVec.ofNat 14 (slotBase k)

/-- A meter buffer's state word address. -/
def bufferAddr (b : MeterBuffer) : Addr := BitVec.ofNat 14 (bufferBase b)

/-- The PORT_CONTROL word a host writes (section 9.5). -/
def controlWord (init reset hold order : Bool) : Word :=
  natWord (bitAt init 0 + bitAt reset 1 + bitAt hold 2 + bitAt order 3)

/-- HOST_WRITE (R148). -/
def execHostWrite (a : Addr) (v : Word) (s : State) : Host.Outcome State Fault Refusal := .next (s.hostWrite a v)

/-- SLOT_POST: POSTED written to a slot's state word (R161). -/
def execSlotPost (k : Fin 32) (s : State) : Host.Outcome State Fault Refusal :=
  .next (s.hostWrite (slotAddr k) slotPosted)

/-- SLOT_WITHDRAW: FREE written to the state word of a slot not yet taken (R165); the port judges the write (log 21). -/
def execSlotWithdraw (k : Fin 32) (s : State) : Host.Outcome State Fault Refusal :=
  .next (s.hostWrite (slotAddr k) slotFree)

/-- SLOT_FREE: FREE written to the state word of a slot that has ended (R161); the port judges the write (log 21). -/
def execSlotFree (k : Fin 32) (s : State) : Host.Outcome State Fault Refusal :=
  .next (s.hostWrite (slotAddr k) slotFree)

/-- BUFFER_CLAIM: READING written to a buffer's state word (R183). -/
def execBufferClaim (b : MeterBuffer) (s : State) : Host.Outcome State Fault Refusal :=
  .next (s.hostWrite (bufferAddr b) bufferReading)

/-- BUFFER_RELEASE: EMPTY written to a buffer's state word (R183). -/
def execBufferRelease (b : MeterBuffer) (s : State) : Host.Outcome State Fault Refusal :=
  .next (s.hostWrite (bufferAddr b) bufferEmpty)

/-- HOST_CALL: P = 1 and a number written to CALL (R172). -/
def execHostCall (number : BitVec 4) (s : State) : Host.Outcome State Fault Refusal :=
  .next (s.hostWrite callAddr (natWord (2 ^ 15 + number.toNat)))

/-- CALL_WITHDRAW: P = 0 written to CALL (R175). -/
def execCallWithdraw (s : State) : Host.Outcome State Fault Refusal := .next (s.hostWrite callAddr 0)

/-- PORT_INITIALISE: INIT written as one (R155). -/
def execPortInitialise (hold order : Bool) (s : State) : Host.Outcome State Fault Refusal :=
  .next (s.hostWrite portControlAddr (controlWord true false hold order))

/-- ENGINE_RESET_REQUEST: ENGINE_RESET written as one (R154). -/
def execEngineResetRequest (hold order : Bool) (s : State) : Host.Outcome State Fault Refusal :=
  .next (s.hostWrite portControlAddr (controlWord false true hold order))

/-- HOLD_INTAKE: the bit written, ORDER kept (R152, R164). -/
def execHoldIntake (hold : Bool) (s : State) : Host.Outcome State Fault Refusal :=
  .next (s.hostWrite portControlAddr (controlWord false false hold s.port.orderHigh))

/-- ORDER: the bit written, HOLD_INTAKE kept (R152). -/
def execOrder (order : Bool) (s : State) : Host.Outcome State Fault Refusal :=
  .next (s.hostWrite portControlAddr (controlWord false false s.port.holdIntake order))

/-- NOTICE_CLEAR (R184). -/
def execNoticeClear (v : Word) (s : State) : Host.Outcome State Fault Refusal := .next (s.hostWrite noticeAddr v)

/-- NOTICE_MASK_WRITE (R185). -/
def execNoticeMaskWrite (v : Word) (s : State) : Host.Outcome State Fault Refusal :=
  .next (s.hostWrite noticeMaskAddr v)

/-- BYTE_WRITE: in 8-bit width (R157). In 16-bit width every access is a whole word, so no byte access takes place
(log 9). -/
def execByteWrite (a : Addr) (lane : Lane) (byte : Byte) (s : State) : Host.Outcome State Fault Refusal :=
  .next (if s.port.width8 then s.stageByte a lane byte else s)

/-- BYTE_READ: in 8-bit width (R158). In 16-bit width every access is a whole word, so no byte access takes place
(log 9). -/
def execByteRead (a : Addr) (lane : Lane) (s : State) : Host.Outcome State Fault Refusal :=
  .next (if s.port.width8 then s.latchByte a lane else s)

end Sys2Proof.Machine
end

