-- ==== Sys2Proof/Machine/Resets.lean ====
section
/-! DEFINITION. The resets of the part: POWER_ON_RESET, ENGINE_RESET (R20, R21, R36, R54, R102, R113, R128, R144, R156, R160). -/

namespace Sys2Proof.Machine

/-- POWER_ON_RESET: every unit at its power-on values, the strap sampled (R151, R160). The queue and the count of fills
are the model's own and are kept: the free values after a reset are new ones (log 14). -/
def execPowerOnReset (strapHigh : Bool) (s : State) : Host.Outcome State Fault Refusal :=
  .next { State.reset with pending := s.pending, fillsTaken := s.fillsTaken, port := { Port.reset with width8 := strapHigh } }

/-- A gate after an engine reset: LOST if its link is, else by the reloaded force mode while a bank is LIVE (R21). -/
def resetGate (running linkLost : Bool) (mode : ForceMode) : GateState :=
  if linkLost then .lost else if running then mode.forced.getD .closed else .closed

/-- A source after an engine reset: line zero, floor UNSET, counters 0, fields and position reloaded or at rest (R4,
R21). -/
def State.resetSource (s : State) (i : Fin 16) (_x : Source) : Source :=
  let row : SourceRow := match s.adopted with
    | none => { mix := .rest, pos := { x := 0, y := 0 } }
    | some b => b.sourceRow i
  { Source.reset with
    mix := row.mix
    pos := row.pos
    gate := resetGate s.running (s.link (linkOf i)).lost row.mix.force }

/-- A zone after an engine reset: zeros for one block, fields reloaded or at rest, clip flag and counter cleared (R36,
R102). -/
def State.resetZone (s : State) (z : Fin 24) (_x : Zone) : Zone :=
  { Zone.reset with
    mix := match s.adopted with
      | none => .rest
      | some b => (b.zoneRow z).mix }

/-- The list, the unserved list, the admitted set and the stack emptied, and the reset's rebuild requested while a bank
is LIVE (R54, R113). -/
def State.emptyLists (s : State) : State :=
  { s with
    routes := [], unserved := [], admitted := [], scenes := [],
    rebuild := if s.running then .forced else .none }

/-- A survey in progress is aborted (R128). With none in progress the survey unit is left as it stands: the sums and lost
notes of a survey that has completed stay, where R129's table says discarded and gives no value (DESIGN CHOICE,
log 27). -/
def State.resetSurvey (s : State) : State := if s.surveying then s.abandonSurvey .reset else s

/-- An engine reset carried out: the request cleared, the survey and the adoption ended, the source and zone units
reset, the lists emptied (R156). Its rebuild follows the cues of its block start. -/
def State.carryReset (s : State) : State :=
  let s1 : State :=
    { s.withPort { s.port with resetRequest := false } with marks := { s.marks with resetHere := true } }
  let s2 := s1.resetSurvey.abandonAdoption
  ((s2.mapSources s2.resetSource).mapZones s2.resetZone).emptyLists

/-- ENGINE_RESET: a pending request carried out, with its rebuild and compositions; not pending, nothing happens (R154,
R156; log 3, log 12). -/
def execEngineReset (s : State) : Host.Outcome State Fault Refusal :=
  .next (if s.port.resetRequest then s.carryReset.settle else s)

end Sys2Proof.Machine
end

