-- ==== Sys2Proof/Machine/Scenes.lean ====
section
/-! DEFINITION. The scene stack: SCENE_PUSH, SCENE_POP, SCENE_CLEAR (R105 to R114). -/

namespace Sys2Proof.Machine

/-- The operating mix as it stands, without positions (R105). -/
def State.currentScene (s : State) : Scene :=
  { sources := s.sources.map (·.mix), zones := s.zones.map (·.mix) }

/-- The mask of a SCENE_PUSH's source part, word 21 (section 9.5). -/
def pushSourceMask (body : List Word) : Word := bodyWord body 21

/-- The first illegal present enumeration of a body, as its word offset (R106, R170). -/
def badFieldOffset (body : List Word) : Option Nat :=
  if badForce body then some 11 else if badDuck body then some 19 else none

/-- A present part whose mask names no member (R106). -/
def pushTargetsFail (body : List Word) : Bool :=
  (sourcePartPresent body && (namedSources (pushSourceMask body)).isEmpty)
  || (zonePartPresent body && (namedZones (bodyWord body 7) (bodyWord body 8)).isEmpty)

/-- Clamps counted by the set step of a push (R170). -/
def pushClamps (body : List Word) : Nat :=
  (namedSources (pushSourceMask body)).length * sourceClamps body
  + (namedZones (bodyWord body 7) (bodyWord body 8)).length * zoneClamps body

/-- The save, then the set step (R107). -/
def State.pushScene (s : State) (body : List Word) : State :=
  (State.setSources { s with scenes := s.currentScene :: s.scenes } body (pushSourceMask body)).setZones body
    (bodyWord body 7) (bodyWord body 8)

/-- The checks of a SCENE_PUSH (R106). -/
def State.scenePushFault (s : State) (item : CueItem) : CueFault :=
  checkedBody item (fun body =>
    [(!s.running, .noBank, 0), ((badFieldOffset body).isSome, .badField, (badFieldOffset body).getD 0),
     (pushTargetsFail body, .badTarget, 0), (decide (Config.sceneCapacity ≤ s.scenes.length), .stackFull, 0)])

/-- A SCENE_PUSH that passes its checks (R107, R170). -/
def State.carryScenePush (s : State) (item : CueItem) : State :=
  (s.pushScene (cueBody item)).doneClamped item (pushClamps (cueBody item))

/-- A SCENE_PUSH applied (R106, R107). -/
def State.applyScenePush (s : State) (item : CueItem) : State :=
  match s.scenePushFault item with
  | some f => s.faulted item f
  | none => s.carryScenePush item

/-- SCENE_PUSH applied at a block start, with what it brings (R17, R107; log 12). -/
def execScenePush (item : CueItem) (s : State) : Host.Outcome State Fault Refusal :=
  .next (match s.scenePushFault item with
    | some f => s.faulted item f
    | none => ((s.carryScenePush item).followForces s.forceMode).settle)

/-- A scene restored over every mix field it holds; positions stay (R108, R109). -/
def State.restoreScene (s : State) (scene : Scene) : State :=
  (s.mapSources (fun i x => { x with mix := scene.sources.getD i.val x.mix })).mapZones
    (fun z x => { x with mix := scene.zones.getD z.val x.mix })

/-- The checks of a SCENE_POP (R108). -/
def State.scenePopFault (s : State) (item : CueItem) : CueFault :=
  checkedBody item (fun _ => [(!s.running, .noBank, 0), (s.scenes.isEmpty, .stackEmpty, 0)])

/-- A SCENE_POP that passes its checks: the top scene restored and removed (R108). -/
def State.carryScenePop (s : State) (item : CueItem) : State :=
  match s.scenes with
  | [] => s
  | scene :: rest => State.outcome { s.restoreScene scene with scenes := rest } item.origin item.claim .ok 0

/-- A SCENE_POP applied (R108). -/
def State.applyScenePop (s : State) (item : CueItem) : State :=
  match s.scenePopFault item with
  | some f => s.faulted item f
  | none => s.carryScenePop item

/-- SCENE_POP applied at a block start, with what it brings (R17, R108, R109; log 12). -/
def execScenePop (item : CueItem) (s : State) : Host.Outcome State Fault Refusal :=
  .next (match s.scenePopFault item with
    | some f => s.faulted item f
    | none => ((s.carryScenePop item).followForces s.forceMode).settle)

/-- The checks of a SCENE_CLEAR (R110). -/
def State.sceneClearFault (s : State) (item : CueItem) : CueFault :=
  checkedBody item (fun _ => [(!s.running, .noBank, 0)])

/-- A SCENE_CLEAR applied (R110). -/
def State.applySceneClear (s : State) (item : CueItem) : State :=
  match s.sceneClearFault item with
  | some f => s.faulted item f
  | none => State.outcome { s with scenes := [] } item.origin item.claim .ok 0

/-- SCENE_CLEAR applied at a block start; it brings nothing else (R110). -/
def execSceneClear (item : CueItem) (s : State) : Host.Outcome State Fault Refusal := .next (s.applySceneClear item)

end Sys2Proof.Machine
end

