-- ==== Sys2Proof/Machine/BlockStart.lean ====
section
/-! DEFINITION. The block start as a whole: the order in which the units act at it: BLOCK_START (R166 and the rules it gathers). -/

namespace Sys2Proof.Machine

/-! ### The cues of a block start (R166) -/

/-- A taken item applied by the owner of its kind (R166). -/
def State.applyItem (s : State) (item : CueItem) : State :=
  match kindOf (cueBody item) with
  | 1 => s.applySourceSet item
  | 2 => s.applyZoneSet item
  | 3 => s.applyScenePush item
  | 4 => s.applyScenePop item
  | 5 => s.applySceneClear item
  | 6 => s.applyBankAdopt item
  | 7 => s.applySurveyStart item
  | 8 => s.applySurveyAbort item
  | _ => s.applyBadKind item

/-- The take list of the ended block applied in take order, and emptied (R166). -/
def State.applyTaken (s : State) : State := s.takeList.foldl State.applyItem { s with takeList := [] }

/-! ### The end of the ended block -/

/-- The ended block's sweep brought to its end (R163): the sweep of a block ends within that block. -/
def State.finishSweep (s : State) : State := s.examineMany (Config.sweepLength - s.sweepPos)

/-- What the units complete for the block that has just ended: levels (R7), zone sums and output levels (R31, R34), the
survey's block (R120, R121, R123), the validation of one part (R137). The marks are set for the block start. -/
def State.endBlock (s : State) : State :=
  let s1 := s.measureLevels.endZones
  let s2 : State :=
    { s1.withSurvey s1.surveyBlockEnd with marks := { Marks.clear with probedZone := s1.probedZone } }
  s2.validate

/-- The next block number, and the first frame of the outputs (R31, 00 Conventions). -/
def State.nextBlock (s : State) : State := { s with block := s.block + 1, outIndex := 0 }

/-- A link begins a block: it is a lost block at once if LOST is set (R8). -/
def InLink.beginBlock (l : InLink) : InLink := { l with lostInBlock := l.lost }

/-- The links and the sweep begin the new block, under the hold decision made from the state this block start leaves
(R8, R163, R164). -/
def State.openBlock (s : State) : State :=
  State.decideHold { s with linkA := s.linkA.beginBlock, linkB := s.linkB.beginBlock, sweepPos := 0 }

/-! ### The long works and the engine reset -/

/-- A due switch-over or rejection without the gate evaluation, ahead of an engine reset (R144). -/
def State.bankOutcome (s : State) : State := if s.switchDue then s.installDue.reloadMix else s.bankReject

/-- A block start with an engine reset: the works that are taken first, then the reset; the gates are not evaluated and
the floors not updated (R21, R128, R144). -/
def State.resetBoundary (s : State) (races : BlockRaces) : State :=
  let s1 := if races.bankBeforeReset then s.bankOutcome else s
  let s2 := if races.completionBeforeReset then s1.advanceSurvey else s1
  s2.carryReset

/-- A block start without one: the survey's own phase change, the bank's outcome, the gate evaluation under the
parameters in force from it, and the reload after it (R11, R16, R127). A completion that a SURVEY_ABORT may precede
waits for the cues. -/
def State.plainBoundary (s : State) (races : BlockRaces) : State :=
  let s1 := if s.completionDue && !races.completionBeforeAbort then s else s.advanceSurvey
  if s1.switchDue then s1.installDue.evaluateGates.reloadMix
  else s1.bankReject.evaluateGates

/-- The survey's completion where it has waited for the cues and still is due (R127). -/
def State.lateCompletion (s : State) : State := if s.completionDue then s.advanceSurvey else s

/-! ### The whole block start -/

/-- From the cues to the targets: the cues on the state the boundary leaves, the gates following the final force modes
from the `evaluated` ones, LAST released and NOM counted, one rebuild, the removals with their admissions, the
compositions (R17, R19, R42, R48, R82, R111, R166). -/
def State.changeMix (s : State) (races : BlockRaces) (evaluated : Fin 16 → ForceMode) : State :=
  let s1 := s.applyTaken
  let s2 := if races.completionBeforeAbort then s1 else s1.lateCompletion
  (s2.followForces evaluated).releaseLast.countNom.serveRebuild.removeRetired.compose

/-- The force modes the gates stand by when the cues of a block start come: after an engine reset those it has reloaded,
by which it set the gates (R21); else those that the evaluation used, before any reload (R11, R17). -/
def State.evaluatedForces (ended boundary : State) : Fin 16 → ForceMode :=
  if ended.port.resetRequest then boundary.forceMode else ended.forceMode

/-- BLOCK_START's effect: the ended block completed; the boundary's works and the evaluation; the glide towards the
targets of the ended block (R95); the cues, the force-mode changes and the new targets; the motion steps and grants
(R63, R75); the end of MUTING (R119); the load and the meter writer (R77, R178); the hold decision (R164). -/
def State.blockStart (s : State) (races : BlockRaces) : State :=
  let s1 := s.finishSweep.endBlock.nextBlock
  let s2 := if s1.port.resetRequest then s1.resetBoundary races else s1.plainBoundary races
  let s3 := s2.glide.changeMix races (s1.evaluatedForces s2)
  s3.motionSteps.grantFades.mutingEnd.meterStep.openBlock

/-- BLOCK_START (R166). -/
def execBlockStart (races : BlockRaces) (s : State) : Host.Outcome State Fault Refusal := .next (s.blockStart races)

end Sys2Proof.Machine
end

