-- ==== Sys2Proof/Machine/Links.lean ====
section
/-! DEFINITION. The input links, the delay lines and the output links: INPUT_FRAME, LINK_LOST, LINK_RECOVERY, OUTPUT_FRAME. -/

namespace Sys2Proof.Machine

/-! ### Input (R1 to R4) -/

/-- A link's input words are 16 bits wide: a global of the adopted copy, 24 bits with no bank LIVE (R1). -/
def State.inWidth16 (s : State) : LinkId → Bool
  | .inA => (s.adopted.map (·.globals.in16A)).getD false
  | .inB => (s.adopted.map (·.globals.in16B)).getD false

/-- The sample of a channel slot: the top 24 bits, or the top 16 bits as v × 256 (R1, R160). -/
def sampleOfSlot (narrow : Bool) (slot : TdmSlot) : Sample :=
  if narrow then BitVec.ofInt 24 ((slot.extractLsb' 16 16).toInt * 256) else slot.extractLsb' 8 24

/-- A link after one frame (R2, R3). -/
def InLink.afterFrame (l : InLink) (frame : LinkFrame) : InLink :=
  let l := { l with lostInBlock := l.lostInBlock || l.lost }
  match l.lost, frame with
  | false, .missing =>
    if 2 ≤ l.missing + 1 then { lost := true, missing := 2, good := 0, lostInBlock := true }
    else { l with missing := l.missing + 1 }
  | false, .good _ => { l with missing := 0 }
  | true, .missing => { l with good := 0 }
  | true, .good _ =>
    if 48 ≤ l.good + 1 then { l with lost := false, missing := 0, good := 48 } else { l with good := l.good + 1 }

/-- The sample a link delivers on a channel: as received from a good frame while not LOST, else zero (R1 to R3). -/
def InLink.delivers (l : InLink) (narrow : Bool) (frame : LinkFrame) (channel : Nat) : Sample :=
  match frame with
  | .good slots => if l.lost then 0 else sampleOfSlot narrow (slots.getD channel 0)
  | .missing => 0

/-- A link raises LINK with a frame when it goes from not LOST to LOST (R2). -/
def InLink.losesWith (l : InLink) (frame : LinkFrame) : Bool := !l.lost && (l.afterFrame frame).lost

/-- A delay line with one more sample: the newest enters, the oldest is given up (R4). -/
def lineWrite (line : List Sample) (x : Sample) : List Sample :=
  (x :: line).take (Config.lineLength + Config.lineReach)

/-- The frame of a source's link. -/
def frameOf (frameA frameB : LinkFrame) : LinkId → LinkFrame
  | .inA => frameA
  | .inB => frameB

/-- One sample period of both links: each takes one frame and hands its eight samples to its eight delay lines. -/
def State.inputPeriod (s : State) (frameA frameB : LinkFrame) : State :=
  let lost := s.linkA.losesWith frameA || s.linkB.losesWith frameB
  let s1 := s.mapSources (fun i x =>
    let l := linkOf i
    { x with line := lineWrite x.line ((s.link l).delivers (s.inWidth16 l) (frameOf frameA frameB l) (i.val % 8)) })
  State.raiseIf { s1 with linkA := s.linkA.afterFrame frameA, linkB := s.linkB.afterFrame frameB } lost .link

/-- The frames of both links, one link's and the other's. -/
def State.inputPeriodOf (s : State) (link : LinkId) (frame otherFrame : LinkFrame) : State :=
  match link with
  | .inA => s.inputPeriod frame otherFrame
  | .inB => s.inputPeriod otherFrame frame

/-- INPUT_FRAME (R1). -/
def execInputFrame (frameA frameB : LinkFrame) (s : State) : Host.Outcome State Fault Refusal :=
  .next (s.inputPeriod frameA frameB)

/-- The link's next missing frame loses it: not LOST, and one frame missing already (R2). -/
def InLink.atLoss (l : InLink) : Bool := !l.lost && 1 ≤ l.missing

/-- The link's next good frame recovers it: LOST, and 47 good frames counted (R3). -/
def InLink.atRecovery (l : InLink) : Bool := l.lost && 47 ≤ l.good

/-- LINK_LOST: the sample period whose missing frame loses the link; not due, nothing happens (R2; log 3). -/
def execLinkLost (link : LinkId) (otherFrame : LinkFrame) (s : State) : Host.Outcome State Fault Refusal :=
  .next (if (s.link link).atLoss then s.inputPeriodOf link .missing otherFrame else s)

/-- LINK_RECOVERY: the sample period whose good frame completes the count of 48; not due, nothing happens (R3; log 3). -/
def execLinkRecovery (link : LinkId) (slots : List TdmSlot) (otherFrame : LinkFrame) (s : State) :
    Host.Outcome State Fault Refusal :=
  .next (if (s.link link).atRecovery then s.inputPeriodOf link (.good slots) otherFrame else s)

/-! ### Output (R31 to R33) -/

/-- The output words of a zone's link are 16 bits wide (R32). -/
def State.outWidth16 (s : State) (z : Fin 24) : Bool :=
  match s.adopted with
  | none => false
  | some b => if z.val < 8 then b.globals.out16A else if z.val < 16 then b.globals.out16B else b.globals.out16C

/-- The 16-bit word of a 24-bit sample: add 128, shift right by 8, saturate (R33). -/
def narrowWord (v : Sample) : Word := BitVec.ofInt 16 (clampInt (-32768) 32767 ((v.toInt + 128) / 256))

/-- A 24-bit word in the top 24 bits of its slot, above a fill (R160). -/
def wideSlot (v : Sample) (fill : Word) : TdmSlot := v ++ fill.extractLsb' 0 8

/-- A 16-bit word in the top 16 bits of its slot, above a fill (R160). -/
def narrowSlot (w : Word) (fill : Word) : TdmSlot := w ++ fill

/-- The fill that a zone's slot carries in this frame: a free value, new for every slot sent (log 14). -/
def State.fillOf (s : State) (z : Fin 24) : Word := Config.slotFill (s.fillsTaken + z.val)

/-- The slot a zone's channel sends for a sample (R32, R160). -/
def State.outSlot (s : State) (z : Fin 24) (v : Sample) : TdmSlot :=
  if s.outWidth16 z then narrowSlot (narrowWord v) (s.fillOf z) else wideSlot v (s.fillOf z)

/-- The frame of one sample period on the three output links: sample `outIndex` of every waiting sum (R31). -/
def State.outputPeriod (s : State) : State :=
  { s with
    outSlots := allZones.map (fun z => s.outSlot z ((s.zone z).waiting.getD s.outIndex 0))
    fillsTaken := s.fillsTaken + Config.zoneCount
    outIndex := s.outIndex + 1 }

/-- OUTPUT_FRAME: the next frame of the block; its 48 frames sent, none is left before the next block start (R31, R32,
R160; log 4). -/
def execOutputFrame (s : State) : Host.Outcome State Fault Refusal :=
  .next (if s.outIndex < Config.blockLength then s.outputPeriod else s)

end Sys2Proof.Machine
end

