-- ==== Sys2Proof/Machine/Dispatch.lean ====
section
/-! DEFINITION. The meaning of every command: one arm per constructor of Instr. -/

namespace Sys2Proof.Machine

def exec (i : Instr) (s : State) : Host.Outcome State Fault Refusal :=
  match i with
  | .powerOnReset strap => Sys2Proof.Machine.execPowerOnReset strap s
  | .inputFrame frameA frameB => Sys2Proof.Machine.execInputFrame frameA frameB s
  | .linkLost link frame => Sys2Proof.Machine.execLinkLost link frame s
  | .linkRecovery link slots frame => Sys2Proof.Machine.execLinkRecovery link slots frame s
  | .outputFrame => Sys2Proof.Machine.execOutputFrame s
  | .blockStart races => Sys2Proof.Machine.execBlockStart races s
  | .floorRise source => Sys2Proof.Machine.execFloorRise source s
  | .holdExpiry source => Sys2Proof.Machine.execHoldExpiry source s
  | .intakeSweep n => Sys2Proof.Machine.execIntakeSweep n s
  | .sourceSet item => Sys2Proof.Machine.execSourceSet item s
  | .zoneSet item => Sys2Proof.Machine.execZoneSet item s
  | .scenePush item => Sys2Proof.Machine.execScenePush item s
  | .scenePop item => Sys2Proof.Machine.execScenePop item s
  | .sceneClear item => Sys2Proof.Machine.execSceneClear item s
  | .bankAdopt item => Sys2Proof.Machine.execBankAdopt item s
  | .surveyStart item => Sys2Proof.Machine.execSurveyStart item s
  | .surveyAbort item => Sys2Proof.Machine.execSurveyAbort item s
  | .badKind item => Sys2Proof.Machine.execBadKind item s
  | .bankReject => Sys2Proof.Machine.execBankReject s
  | .switchOver => Sys2Proof.Machine.execSwitchOver s
  | .engineReset => Sys2Proof.Machine.execEngineReset s
  | .routeRemoval => Sys2Proof.Machine.execRouteRemoval s
  | .fadeGrant => Sys2Proof.Machine.execFadeGrant s
  | .fadeEnd pair => Sys2Proof.Machine.execFadeEnd pair s
  | .mutingEnd => Sys2Proof.Machine.execMutingEnd s
  | .quietEnd => Sys2Proof.Machine.execQuietEnd s
  | .settleEnd => Sys2Proof.Machine.execSettleEnd s
  | .measureEnd => Sys2Proof.Machine.execMeasureEnd s
  | .surveyComplete => Sys2Proof.Machine.execSurveyComplete s
  | .snapshotTime => Sys2Proof.Machine.execSnapshotTime s
  | .snapshotWrite => Sys2Proof.Machine.execSnapshotWrite s
  | .hostWrite a v => Sys2Proof.Machine.execHostWrite a v s
  | .slotPost k => Sys2Proof.Machine.execSlotPost k s
  | .slotWithdraw k => Sys2Proof.Machine.execSlotWithdraw k s
  | .slotFree k => Sys2Proof.Machine.execSlotFree k s
  | .bufferClaim b => Sys2Proof.Machine.execBufferClaim b s
  | .bufferRelease b => Sys2Proof.Machine.execBufferRelease b s
  | .hostCall number => Sys2Proof.Machine.execHostCall number s
  | .callWithdraw => Sys2Proof.Machine.execCallWithdraw s
  | .portInitialise hold order => Sys2Proof.Machine.execPortInitialise hold order s
  | .engineResetRequest hold order => Sys2Proof.Machine.execEngineResetRequest hold order s
  | .holdIntake hold => Sys2Proof.Machine.execHoldIntake hold s
  | .order order => Sys2Proof.Machine.execOrder order s
  | .noticeClear v => Sys2Proof.Machine.execNoticeClear v s
  | .noticeMaskWrite v => Sys2Proof.Machine.execNoticeMaskWrite v s
  | .byteWrite a lane byte => Sys2Proof.Machine.execByteWrite a lane byte s
  | .byteRead a lane => Sys2Proof.Machine.execByteRead a lane s

end Sys2Proof.Machine
end

