-- ==== Sys2Proof/Safety.lean ====
section
/-! DEFINITION. What a safe state of the part is: the invariants that the statements about steps are made of, and the words the statements share. A step of this part has no unsafe outcome: no command faults. -/

namespace Sys2Proof.Machine

/-! ### What a step keeps -/

/-- A property of states that every step keeps. -/
def KeptByStep (inv : State → Prop) : Prop := ∀ s t, inv s → step s = .next t → inv t

/-! ### Shape -/

/-- Sixteen sources with full delay lines, twenty-four zones with 48 waiting samples (R4, R31). -/
abbrev State.shaped (s : State) : Prop :=
  s.sources.length = 16 ∧ s.zones.length = 24 ∧ (∀ x ∈ s.sources, x.line.length = 16384 + 95)
  ∧ ∀ z ∈ s.zones, z.waiting.length = 48

/-! ### Ranges -/

/-- A gain is OFF or lies in -192..+24 (00, Conventions). -/
abbrev Gain.legal (g : Gain) : Prop := ∀ c, g = .code c → -192 ≤ c ∧ c ≤ 24

/-- A delay lies in the delay line (00, Conventions). -/
abbrev delayLegal (d : Nat) : Prop := d ≤ 16383

/-- The delays of an entry, the fade destination and the pending target among them (R60). -/
abbrev Entry.delaysLegal (e : Entry) : Prop :=
  delayLegal e.delay ∧ delayLegal e.targetDelay
  ∧ ∀ destination progress unitLength pendingTarget,
      e.motion = .fading destination progress unitLength pendingTarget →
        delayLegal destination ∧ ∀ p, pendingTarget = some p → delayLegal p

/-- Every entry's delays are legal (R60). -/
abbrev State.delaysLegal (s : State) : Prop := ∀ e ∈ s.routes, e.delaysLegal

/-- Every entry's gains are legal (R94). -/
abbrev State.gainsLegal (s : State) : Prop := ∀ e ∈ s.routes, e.gain.legal ∧ e.targetGain.legal

/-- An input link's counts (R2, R3). -/
abbrev InLink.countsLegal (l : InLink) : Prop := l.missing ≤ 2 ∧ l.good ≤ 48

/-- The counters of the part stay in their ranges: link counts (R2, R3), rise counters and floors (R9), the position of
the sweep (R163), frames sent (R31), the skip count (R181), clip counters (R100), the depth of the stack (R105). -/
abbrev State.countersLegal (s : State) : Prop :=
  s.linkA.countsLegal ∧ s.linkB.countsLegal
  ∧ (∀ x ∈ s.sources, x.rise ≤ 255 ∧ ∀ v, x.floor = some v → -192 ≤ v ∧ v ≤ -24)
  ∧ s.sweepPos ≤ 33 ∧ s.outIndex ≤ 48 ∧ s.meter.skip ≤ 65535 ∧ (∀ z ∈ s.zones, z.clipCount ≤ 65535)
  ∧ s.scenes.length ≤ 4

/-! ### The route list -/

/-- Pairs in strictly ascending pair order (R38, R41). -/
abbrev pairsAscend (ps : List Pair) : Prop := ps.Pairwise (fun p q => pairRank p < pairRank q)

/-- The route list in pair order without duplicates and with at most 160 entries; the unserved list in pair order, with
no pair that has an entry, and empty unless the route list is full (R38, R41). -/
abbrev State.listsOrdered (s : State) : Prop :=
  pairsAscend (s.routes.map (·.pair)) ∧ s.routes.length ≤ 160 ∧ pairsAscend s.unserved
  ∧ (∀ e ∈ s.routes, e.pair ∉ s.unserved) ∧ (s.unserved ≠ [] → s.routes.length = 160)

/-- At most sixteen entries are FADING (R74). -/
abbrev State.fadesWithinPool (s : State) : Prop := heldUnits s.routes ≤ 16

/-- The target delay of a FADING entry is its fade destination (R62). -/
abbrev State.fadesAimed (s : State) : Prop :=
  ∀ e ∈ s.routes, ∀ destination progress unitLength pendingTarget,
    e.motion = .fading destination progress unitLength pendingTarget → e.targetDelay = destination

/-- A fade runs below the length recorded at its grant, 8 to 64 blocks (R69, R71). -/
abbrev State.fadesRun (s : State) : Prop :=
  ∀ e ∈ s.routes, ∀ destination progress unitLength pendingTarget,
    e.motion = .fading destination progress unitLength pendingTarget →
      progress < unitLength ∧ 8 ≤ unitLength ∧ unitLength ≤ 64

/-! ### Gates -/

/-- The hold counter is 0 in every state but HOLD (R10). -/
abbrev State.holdCountersRest (s : State) : Prop := ∀ x ∈ s.sources, x.gate ≠ .hold → x.holdCount = 0

/-- A gate is in LAST only when no other gate is OPEN, HOLD, LAST or FORCED_OPEN (R15). -/
abbrev State.lastAlone (s : State) : Prop :=
  ∀ i j : Fin 16, i ≠ j → (s.source i).gate = .last → (s.source j).gate.counted = false

/-- NOM is the number of sources whose gate is OPEN, HOLD, LAST or FORCED_OPEN (R19). -/
abbrev State.nomCounts (s : State) : Prop := s.sources.length = 16 ∧ s.nom = s.countedGates

/-! ### The engine state and the banks -/

/-- While the engine is in NO_BANK there are no routes, no scenes and no survey, every gate is CLOSED or LOST and NOM is
0 (R18, R55, R105, R132). -/
abbrev State.noBankIdle (s : State) : Prop :=
  s.live = none →
    s.routes = [] ∧ s.unserved = [] ∧ s.admitted = [] ∧ s.scenes = [] ∧ s.survey.phase = .idle ∧ s.nom = 0
    ∧ ∀ x ∈ s.sources, x.gate = .closed ∨ x.gate = .lost

/-- A survey and an adoption refuse each other (R141). -/
abbrev State.surveyOrAdoption (s : State) : Prop := s.surveying = false ∨ s.adoption = none

/-- The rebuild of an engine reset is carried out by the command that carries out the reset, and none is left waiting
(R54). -/
abbrev State.resetRebuilt (s : State) : Prop := s.rebuild ≠ .forced

/-- The state word that a bank ought to hold (R131). -/
def State.bankStateDue (s : State) (b : BankId) : Word :=
  if s.liveBank = some b then bankLive
  else if s.adoption.map (·.bank) = some b then bankAdopting
  else bankEdit

/-- The bank state words agree with the engine: LIVE for the bank that is live, ADOPTING for the one that is being
adopted, EDIT for any other; and no bank is both (R131). A captured snapshot fits its buffer. -/
abbrev State.bankStatesAgree (s : State) : Prop :=
  s.mem.wf ∧ s.routes.length ≤ 160 ∧ (∀ c, s.meter.capture = some c → ∀ w ∈ c.words, w.1 < 0x400)
  ∧ (∀ b, s.word (bankBase b) = s.bankStateDue b) ∧ ∀ a, s.adoption = some a → s.liveBank ≠ some a.bank

/-- Between two block starts an adoption has a part left to examine and has found nothing illegal (R137, R139, R140). -/
abbrev State.adoptionRuns (s : State) : Prop := ∀ a, s.adoption = some a → a.part < 8 ∧ a.illegal = none

/-! ### Legal settings (R5, R24, R105, R133, R134) -/

/-- A position on the plan. -/
abbrev Position.legal (p : Position) : Prop := p.x ≤ 2047 ∧ p.y ≤ 1023

/-- The source fields of the operating mix (R5). -/
abbrev SourceMix.legal (m : SourceMix) : Prop := m.fader.legal ∧ m.priority ≤ 7 ∧ m.ratio ≤ 7

/-- The zone fields of the operating mix (R24). -/
abbrev ZoneMix.legal (m : ZoneMix) : Prop := m.level.legal ∧ m.duckNumber ≤ 7

/-- A value in a range, both ends included. -/
abbrev inRange (lo hi v : Nat) : Prop := lo ≤ v ∧ v ≤ hi

/-- The globals in their ranges (R133). -/
abbrev Globals.legal (g : Globals) : Prop :=
  inRange 53000 61000 g.flight ∧ inRange 1 16 g.gainSlope ∧ inRange 8 64 g.fadeLength ∧ g.slipLimit ≤ 16
  ∧ inRange 8 1000 g.meterPeriod ∧ g.openMargin ≤ 60 ∧ inRange 1 16 g.maxOpen ∧ g.holdBlocks ≤ 4000
  ∧ g.offAttenuation ≤ 192 ∧ g.stabilityMargin ≤ 60 ∧ (-120 ≤ g.probeCode ∧ g.probeCode ≤ -12)
  ∧ inRange 64 4096 g.quiet ∧ inRange 64 4096 g.settle ∧ inRange 64 4096 g.measure ∧ g.tail ≤ 8192

/-- A window's bounds and its row table index in their ranges (R22, R134). -/
abbrev Window.legal (w : Window) : Prop :=
  w.xStart ≤ 2047 ∧ w.xEnd ≤ 2047 ∧ w.yStart ≤ 1023 ∧ w.yEnd ≤ 1023 ∧ w.table ≤ 3

/-- A zone record in its ranges (R22, R134). -/
abbrev ZoneRow.legal (r : ZoneRow) : Prop :=
  r.mix.legal ∧ r.speaker.legal ∧ r.precedence ≤ 1023 ∧ -512 ≤ r.trim ∧ r.trim ≤ 511 ∧ r.w0.legal ∧ r.w1.legal

/-- An adopted copy with all its records and tables (section 9.5). -/
abbrev Bank.whole (b : Bank) : Prop :=
  b.sources.length = 16 ∧ b.zones.length = 24 ∧ b.rows.length = 128 ∧ b.priorityNumbers.length = 8
  ∧ b.duckDepths.length = 8 ∧ b.calls.length = 16 ∧ b.coupling.length = 384

/-- An adopted copy, whole and in the ranges of its tables (R22, R133, R134). -/
abbrev Bank.legal (b : Bank) : Prop :=
  b.whole ∧ b.globals.legal ∧ (∀ r ∈ b.sources, r.mix.legal ∧ r.pos.legal) ∧ (∀ r ∈ b.zones, r.legal)
  ∧ (∀ r ∈ b.rows, r.1 ≤ 2047 ∧ r.2 ≤ 2047)
  ∧ (∀ n ∈ b.priorityNumbers, n ≤ 7) ∧ (∀ n ∈ b.duckDepths, n ≤ 192)
  ∧ ∀ c ∈ b.coupling, ∀ v, c = some v → -192 ≤ v ∧ v ≤ 192

/-- A staging copy holds legal values in every part validated so far (R137, R138). -/
abbrev Adoption.stagingLegal (a : Adoption) : Prop :=
  a.staging.wf ∧ a.part ≤ 8
  ∧ (a.illegal = none → ∀ off, off < 512 * a.part → (bankField off).listed = true →
      (bankField off).clamps (a.staging.read off) = false ∧ (bankField off).rejects (a.staging.read off) = none)

/-- The adopted copy, the staging copy, the operating mix and the scenes hold legal values (R5, R24, R105, R133,
R134). -/
abbrev State.valuesLegal (s : State) : Prop :=
  (∀ b, s.adopted = some b → b.legal) ∧ (∀ a, s.adoption = some a → a.stagingLegal)
  ∧ (∀ x ∈ s.sources, x.mix.legal ∧ x.pos.legal) ∧ (∀ z ∈ s.zones, z.mix.legal)
  ∧ ∀ c ∈ s.scenes, (∀ m ∈ c.sources, m.legal) ∧ ∀ m ∈ c.zones, m.legal

/-! ### The port -/

/-- CALL is never pending and in progress at once (R172). -/
abbrev State.callExclusive (s : State) : Prop := s.port.callPending = true → s.port.callResult ≠ inProgress

/-- In 16-bit width both latches stay empty (R157). -/
abbrev State.latchesRest (s : State) : Prop :=
  s.port.width8 = false → s.port.writeLatch = none ∧ s.port.readLatch = none

/-! ### Words the statements share -/

/-- The state as a whole word write by the host finds it: in 8-bit width the write staging latch has been emptied by the
write's second byte (R157; log 9). -/
def State.atPort (s : State) : State :=
  if s.port.width8 then { s with port := { s.port with writeLatch := none } } else s

/-- A state after a dropped write to `a`: PROTECT is set, and PROTECT_ADDR is `a` if PROTECT was clear (R150). -/
def State.droppedAt (s : State) (a : Addr) : State :=
  { s with
    port := { s.port with
      notice := s.port.notice ||| 0x020
      protectAddr := if s.port.notice.getLsbD 5 then s.port.protectAddr else a } }

/-- The port accepts a host write to a word of the exchange memory: the word map and the guarded words (R148, R149). -/
def State.hostMayWrite (s : State) (a : Nat) (v : Word) : Bool :=
  if 0x40 ≤ a ∧ a ≤ 0x43F then
    let word := (a - 0x40) % 32
    let state := s.word (a - word)
    if word = 0 then (state, v) ∈ [(0, 1), (1, 0), (3, 0), (4, 0)]
    else (word < 2 || 5 < word) && state == 0
  else if 0x800 < a ∧ a ≤ 0x17FF then s.word 0x800 == 0
  else if 0x1800 < a ∧ a ≤ 0x27FF then s.word 0x1800 == 0
  else if a = 0x2C00 ∨ a = 0x3000 then (s.word a, v) ∈ [(2, 3), (3, 0)]
  else false

/-- `t` is `s` but for one word of the exchange memory. -/
def oneWordWritten (s t : State) (a : Nat) (v : Word) : Prop :=
  (∀ b, t.word b = if b = a then v else s.word b) ∧ { t with mem := s.mem } = s

/-- A notice flag is set. -/
def State.noticed (s : State) (n : Notice) : Bool := s.port.notice.getLsbD n.bit

/-- Every notice flag but those listed stands as it was. -/
abbrev noticesElse (s t : State) (ns : List Notice) : Prop := ∀ n, n ∉ ns → t.noticed n = s.noticed n

/-- The words that an outcome writes into a slot (R170). -/
def outcomeAddrs (k : Fin 32) : List Nat :=
  [slotBase k, slotBase k + 2, slotBase k + 3, slotBase k + 4, slotBase k + 5]

/-- The outcome of a cue stands where the rules put it, and no other word of memory and no other notice has changed
than the outcome's own and those listed (R170, R174). -/
def outcomeShown (s t : State) (item : CueItem) (code : ResultCode) (detail : Nat) (others : List Notice) : Prop :=
  match item.origin with
  | .slot k =>
    t.word (slotBase k) = (if code.done then slotDone else slotFaulted)
    ∧ t.word (slotBase k + 2) = natWord code.number ∧ t.word (slotBase k + 3) = natWord detail
    ∧ t.word (slotBase k + 4) = blockLow t.block ∧ t.word (slotBase k + 5) = blockHigh t.block
    ∧ (∀ a, a ∉ outcomeAddrs k → t.word a = s.word a)
    ∧ t.noticed .cue = true ∧ noticesElse s t (.cue :: others) ∧ t.port.callResult = s.port.callResult
  | .call =>
    t.mem = s.mem
    ∧ if item.claim then
        t.port.callResult = BitVec.ofNat 4 code.number ∧ t.noticed .call = true ∧ noticesElse s t (.call :: others)
      else t.port.callResult = s.port.callResult ∧ noticesElse s t others

/-- An outcome stands in its slot with the block number at which it was written, or as CALL's result where the claim
stands (R170, R174). -/
def outcomeStands (t : State) (origin : Origin) (claim : Bool) (code : ResultCode) (detail : Nat) (block : BlockNo) :
    Prop :=
  match origin with
  | .slot k =>
    t.word (slotBase k) = (if code.done then slotDone else slotFaulted)
    ∧ t.word (slotBase k + 2) = natWord code.number ∧ t.word (slotBase k + 3) = natWord detail
    ∧ t.word (slotBase k + 4) = blockLow block ∧ t.word (slotBase k + 5) = blockHigh block ∧ t.noticed .cue = true
  | .call => claim = true → t.port.callResult = BitVec.ofNat 4 code.number ∧ t.noticed .call = true

/-! ### A gain as written (R134, R168) -/

/-- What a fader or level word becomes and the clamps it counts: -32768 is OFF; -32767..-193 becomes OFF and above +24
becomes +24, each a clamp; -192..+24 stands (R168). -/
abbrev gainTaken (w : Word) (g : Gain) (clamps : Nat) : Prop :=
  (w.toInt = -32768 → g = .off ∧ clamps = 0)
  ∧ (-32767 ≤ w.toInt → w.toInt ≤ -193 → g = .off ∧ clamps = 1)
  ∧ (-192 ≤ w.toInt → w.toInt ≤ 24 → g = .code w.toInt ∧ clamps = 0)
  ∧ (24 < w.toInt → g = .code 24 ∧ clamps = 1)

/-! ### The adoption of a block start (R137, R140, R144) -/

/-- An adoption with the 512 words of its next part examined in ascending address (R137). -/
def Adoption.examined (a : Adoption) (mem : Memory) : Adoption :=
  (List.range 512).foldl (fun c n => c.examine mem (512 * a.part + n)) a

/-- A BLOCK_START switches banks over: its ended block has validated the last part, and no engine reset is taken first
(R140, R144). -/
def State.switchesAt (s : State) (r : BlockRaces) : Bool :=
  match s.adoption with
  | none => false
  | some a => a.part == 7 && (a.examined s.mem).illegal.isNone && (!s.port.resetRequest || r.bankBeforeReset)

/-- The adopted copy in force for the block that a BLOCK_START begins (R140, R141, R144). -/
def State.copyInForce (s : State) (r : BlockRaces) : Option Bank :=
  match s.adoption with
  | none => s.adopted
  | some a => if s.switchesAt r then some (bankOf (a.examined s.mem).staging) else s.adopted

/-! ### The adopted copy, word by word (R132, R140, section 9.5) -/

/-- A window record: enable, area select, kind, x start, x end, y start, y end, row table index. -/
def windowCopied (img : Memory) (base : Nat) (w : Window) : Prop :=
  let word := fun k => img.read (base + k)
  (w.enable = true ↔ word 0 ≠ 0) ∧ (w.outside = true ↔ word 1 = 1) ∧ (w.rows = true ↔ word 2 = 1)
  ∧ w.xStart = (word 3).toNat ∧ w.xEnd = (word 4).toNat ∧ w.yStart = (word 5).toNat ∧ w.yEnd = (word 6).toNat
  ∧ w.table = (word 7).toNat

/-- A source record: x, y, fader, mute, force mode, priority bits, ratio bits, marker. -/
def sourceCopied (img : Memory) (base : Nat) (r : SourceRow) : Prop :=
  let word := fun k => img.read (base + k)
  r.pos = { x := (word 0).toNat, y := (word 1).toNat } ∧ (∃ clamps, gainTaken (word 2) r.mix.fader clamps)
  ∧ (r.mix.mute = true ↔ word 3 ≠ 0)
  ∧ (word 4 = 0 → r.mix.force = .auto) ∧ (word 4 = 1 → r.mix.force = .opened) ∧ (word 4 = 2 → r.mix.force = .closed)
  ∧ r.mix.priority = (word 5).toNat ∧ r.mix.ratio = (word 6).toNat ∧ (r.mix.marker = true ↔ word 7 ≠ 0)

/-- A zone record: speaker, level, mute, precedence, trim, duck mode, duck number, logic, W0, W1, WS. -/
def zoneCopied (img : Memory) (base : Nat) (r : ZoneRow) : Prop :=
  let word := fun k => img.read (base + k)
  r.speaker = { x := (word 0).toNat, y := (word 1).toNat } ∧ (∃ clamps, gainTaken (word 2) r.mix.level clamps)
  ∧ (r.mix.mute = true ↔ word 3 ≠ 0) ∧ r.precedence = (word 4).toNat ∧ r.trim = (word 5).toInt
  ∧ (word 6 = 0 → r.mix.duckMode = .none) ∧ (word 6 = 1 → r.mix.duckMode = .atOrAbove)
  ∧ (word 6 = 2 → r.mix.duckMode = .equal) ∧ (word 6 = 3 → r.mix.duckMode = .marked)
  ∧ r.mix.duckNumber = (word 7).toNat ∧ (r.logicAnd = true ↔ word 8 = 1)
  ∧ windowCopied img (base + 9) r.w0 ∧ windowCopied img (base + 17) r.w1
  ∧ (r.ws.enable = true ↔ word 25 ≠ 0) ∧ (r.ws.outside = true ↔ word 26 = 1) ∧ r.ws.set = word 27

/-- The globals, one word each from offset 0x010. -/
def globalsCopied (img : Memory) (g : Globals) : Prop :=
  let num := fun off => (img.read off).toNat
  g.flight = num 0x010 ∧ g.gainSlope = num 0x011 ∧ g.fadeLength = num 0x012 ∧ g.slipLimit = num 0x013
  ∧ g.meterPeriod = num 0x014 ∧ g.openMargin = num 0x015 ∧ g.maxOpen = num 0x016 ∧ g.holdBlocks = num 0x017
  ∧ g.offAttenuation = num 0x018 ∧ (g.lastOn = true ↔ num 0x019 ≠ 0) ∧ g.stabilityMargin = num 0x01A
  ∧ (g.in16A = true ↔ num 0x01B ≠ 0) ∧ (g.in16B = true ↔ num 0x01C ≠ 0) ∧ (g.out16A = true ↔ num 0x01D ≠ 0)
  ∧ (g.out16B = true ↔ num 0x01E ≠ 0) ∧ (g.out16C = true ↔ num 0x01F ≠ 0) ∧ g.probeCode = (img.read 0x020).toInt
  ∧ g.quiet = num 0x021 ∧ g.settle = num 0x022 ∧ g.measure = num 0x023 ∧ g.tail = num 0x024

/-- An adopted copy whose every field is read from its offset in the staging copy: globals, source table, row tables,
priority numbers, duck depths, call table without the words that no entry reads, zone table, coupling table. -/
def bankCopied (img : Memory) (b : Bank) : Prop :=
  b.whole ∧ globalsCopied img b.globals
  ∧ (∀ i : Fin 16, b.sources[i.val]? = some (b.sourceRow i) ∧ sourceCopied img (0x040 + 8 * i.val) (b.sourceRow i))
  ∧ (∀ (t : Fin 4) (r : Fin 32), b.rows[32 * t.val + r.val]? = some (b.row t.val r.val)
      ∧ b.row t.val r.val
        = ((img.read (0x0C0 + 64 * t.val + 2 * r.val)).toNat, (img.read (0x0C1 + 64 * t.val + 2 * r.val)).toNat))
  ∧ (∀ i : Fin 8, b.priorityNumbers[i.val]? = some (img.read (0x1C0 + i.val)).toNat
      ∧ b.duckDepths[i.val]? = some (img.read (0x1C8 + i.val)).toNat)
  ∧ (∀ (c : BitVec 4) (k : Nat), k < 32 → k = 1 ∨ 6 ≤ k →
      bodyWord (b.call c) k = img.read (0x200 + 32 * c.toNat + k))
  ∧ (∀ z : Fin 24, b.zones[z.val]? = some (b.zoneRow z) ∧ zoneCopied img (0x400 + 32 * z.val) (b.zoneRow z))
  ∧ ∀ p : Pair, let w := img.read (0x700 + 24 * p.source.val + p.zone.val)
      b.couplingOf p = if w = 0x7FFF then none else some w.toInt

/-! ### The set parts of a cue, word by word (R159, R168 to R170, section 9.5) -/

/-- What a word of priority bits, ratio bits or a duck number becomes: above 7 it becomes 7, a clamp (R168, R169). -/
abbrev numberTaken (w : Word) (n clamps : Nat) : Prop :=
  (w.toNat ≤ 7 → n = w.toNat ∧ clamps = 0) ∧ (7 < w.toNat → n = 7 ∧ clamps = 1)

/-- The table of R168: each field whose present bit is set takes its word, a legal force mode as written, and every other
field stays. Fader, priority bits, ratio bits and position, x and y as one field, count their clamps (R170). -/
def sourceTakes (body : List Word) (m m' : SourceMix) (p p' : Position) (clamps : Nat) : Prop :=
  let w := fun k => body.getD k (0 : Word)
  let marked := fun bit => (w 6).getLsbD bit
  ∃ fader priority ratio position : Nat, clamps = fader + priority + ratio + position
    ∧ (marked 0 = false → m'.fader = m.fader ∧ fader = 0)
    ∧ (marked 0 = true → gainTaken (w 9) m'.fader fader)
    ∧ (marked 1 = false → m'.mute = m.mute) ∧ (marked 1 = true → (m'.mute = true ↔ w 10 ≠ 0))
    ∧ (marked 2 = false → m'.force = m.force)
    ∧ (marked 2 = true → (w 11 = 0 → m'.force = .auto) ∧ (w 11 = 1 → m'.force = .opened)
        ∧ (w 11 = 2 → m'.force = .closed))
    ∧ (marked 3 = false → m'.priority = m.priority ∧ priority = 0)
    ∧ (marked 3 = true → numberTaken (w 12) m'.priority priority)
    ∧ (marked 4 = false → m'.ratio = m.ratio ∧ ratio = 0)
    ∧ (marked 4 = true → numberTaken (w 13) m'.ratio ratio)
    ∧ (marked 5 = false → m'.marker = m.marker) ∧ (marked 5 = true → (m'.marker = true ↔ w 14 ≠ 0))
    ∧ (marked 6 = false → p' = p ∧ position = 0)
    ∧ (marked 6 = true → p' = { x := min 2047 (w 15).toNat, y := min 1023 (w 16).toNat }
        ∧ position = if 2047 < (w 15).toNat ∨ 1023 < (w 16).toNat then 1 else 0)

/-- The table of R169: each field whose present bit is set takes its word, a legal duck mode as written, and every other
field stays. Level and duck number count their clamps (R170). -/
def zoneTakes (body : List Word) (m m' : ZoneMix) (clamps : Nat) : Prop :=
  let w := fun k => body.getD k (0 : Word)
  let marked := fun bit => (w 6).getLsbD bit
  ∃ level number : Nat, clamps = level + number
    ∧ (marked 7 = false → m'.level = m.level ∧ level = 0)
    ∧ (marked 7 = true → gainTaken (w 17) m'.level level)
    ∧ (marked 8 = false → m'.mute = m.mute) ∧ (marked 8 = true → (m'.mute = true ↔ w 18 ≠ 0))
    ∧ (marked 9 = false → m'.duckMode = m.duckMode)
    ∧ (marked 9 = true → (w 19 = 0 → m'.duckMode = .none) ∧ (w 19 = 1 → m'.duckMode = .atOrAbove)
        ∧ (w 19 = 2 → m'.duckMode = .equal) ∧ (w 19 = 3 → m'.duckMode = .marked))
    ∧ (marked 10 = false → m'.duckNumber = m.duckNumber ∧ number = 0)
    ∧ (marked 10 = true → numberTaken (w 20) m'.duckNumber number)

/-- The words of a body, the bits of its present mask, and the source fields, positions, clamp counts and masks that the
statements about cues name are those of the tables. -/
def sourceFieldsByTable : Prop :=
  (∀ (body : List Word) (k : Nat), bodyWord body k = body.getD k 0 ∧ present body k = (body.getD 6 0).getLsbD k)
  ∧ (∀ (body : List Word) (m : SourceMix) (p : Position),
    sourceTakes body m (applySourceFields body m) p (applyPosition body p) (sourceClamps body))
  ∧ ∀ (mask : Word) (i : Fin 16), namesSource mask i = mask.getLsbD i.val

/-- The zone fields, clamp counts and masks that the statements about cues name are those of the tables; Z16 to Z23 are
bits 0 to 7 of the second word of a mask (R159). -/
def zoneFieldsByTable : Prop :=
  (∀ (body : List Word) (m : ZoneMix), zoneTakes body m (applyZoneFields body m) (zoneClamps body))
  ∧ ∀ (low high : Word) (z : Fin 24),
      namesZone low high z = if z.val < 16 then low.getLsbD z.val else high.getLsbD (z.val - 16)

/-- The port but for the notices and CALL's result. -/
abbrev portElse (s t : State) : Prop :=
  { t.port with notice := s.port.notice, callResult := s.port.callResult } = s.port

/-! ### The route list after a change (R40, R42 to R50, R75, R82, R93) -/

/-- Every LIVE entry's target gain and flags are those composed from the state, or OFF and clear while a survey is in
progress; a RETIRING entry's are OFF and clear (R40, R82, R93). -/
def targetsComposed (t : State) : Prop :=
  ∀ e ∈ t.routes, ∀ b, t.adopted = some b →
    (e.lifecycle = .live → t.surveying = false →
      e.targetGain = (t.composed b e.pair).gain ∧ e.ceilingLimited = (t.composed b e.pair).ceilingLimited
      ∧ e.ducked = t.ducks b e.pair)
    ∧ (t.surveying = true ∨ e.lifecycle = .retiring →
      e.targetGain = .off ∧ e.ceilingLimited = false ∧ e.ducked = false)

/-- A new entry: LIVE, silent and at rest at its target delay, with its flags (R44). -/
def entersSilent (t : State) (e : Entry) : Prop :=
  e.lifecycle = .live ∧ e.gain = .off ∧ e.motion = .steady ∧ e.delay = (t.targetDelayOf e.pair).delay
  ∧ e.targetDelay = e.delay ∧ e.floorFlag = (t.targetDelayOf e.pair).floorFlag
  ∧ e.ceilFlag = (t.targetDelayOf e.pair).ceilFlag

/-- An entry that a cue or an event leaves where it was, whatever becomes of its lifecycle and its targets of gain. -/
def entryStands (e e' : Entry) : Prop :=
  e' = { e with lifecycle := e'.lifecycle, targetGain := e'.targetGain, ceilingLimited := e'.ceilingLimited,
                ducked := e'.ducked }

/-- The list without a rebuild: its entries with their lifecycles, the admitted set and the unserved list as they
were. -/
def listKept (s t : State) : Prop :=
  t.admitted = s.admitted ∧ t.unserved = s.unserved ∧ t.noticed .routeFull = s.noticed .routeFull
  ∧ t.routes.map (fun e => (e.pair, e.lifecycle)) = s.routes.map (fun e => (e.pair, e.lifecycle))

/-- The list after a rebuild: the entries that stood, LIVE where admitted; new entries while there is room; the other
admitted pairs unserved; ROUTE_FULL where the unserved list fills (R43 to R46). -/
def listRebuilt (s t : State) : Prop :=
  let wanting := t.admitted.filter (fun p => s.routes.all (fun e => e.pair != p))
  let room := 160 - s.routes.length
  t.admitted = t.admittedNow ∧ t.rebuild = .none ∧ t.unserved = wanting.drop room
  ∧ (∀ e ∈ s.routes, ∃ e' ∈ t.routes, e'.pair = e.pair ∧ (e'.lifecycle = .live ↔ e.pair ∈ t.admitted))
  ∧ (∀ e' ∈ t.routes, (∃ e ∈ s.routes, e.pair = e'.pair) ∨ (e'.pair ∈ wanting.take room ∧ entersSilent t e'))
  ∧ (∀ p ∈ wanting.take room, ∃ e' ∈ t.routes, e'.pair = p)
  ∧ (t.noticed .routeFull = true ↔ s.noticed .routeFull = true ∨ (s.unserved = [] ∧ t.unserved ≠ []))

/-- What a command sent alone brings with it (log 12, log 18): the rebuild that it asks for or that was asked for, unless a
survey in progress defers it; NOM, the compositions and the hold decision (R19, R42, R50, R54, R82, R164). -/
def settledFrom (s t : State) (asks : Bool) : Prop :=
  let due := asks || s.rebuild != .none
  let deferred := t.surveying && s.rebuild != .forced
  (due = false → listKept s t ∧ t.rebuild = .none)
  ∧ (due = true → deferred = true → listKept s t ∧ t.rebuild = .requested)
  ∧ (due = true → deferred = false → listRebuilt s t)
  ∧ t.nom = t.countedGates ∧ targetsComposed t
  ∧ t.hold = (if s.hold = .takeNone then .takeNone else if t.survey.phase = .idle then .takeAll else .abortOnly)

/-- The fade unit grants between two forms of a list: the free units go to the waiting entries in list order, and each
entry granted becomes FADING to its target delay with progress 0 and the fade length in force; every other entry stays
(R69, R75). -/
def fadesGranted (fadeLength : Nat) (before after : List Entry) : Prop :=
  after.length = before.length
  ∧ ∀ (n : Nat) (e : Entry), before[n]? = some e →
      after[n]? = some
        (if e.motion = .awaitingFade
            ∧ ((before.take n).filter (fun x => x.motion = .awaitingFade)).length
                < 16 - (before.filter (fun x => x.motion.isFading)).length then
          { e with motion := .fading e.targetDelay 0 fadeLength none }
        else e)

/-! ### The cues of a block start (R166) -/

/-- The command that a taken item is, by its kind; an item without a body, a call taken with no bank LIVE, has none
(R166, R173, section 9.5). -/
def cueCommand (item : CueItem) : Instr :=
  match item.body with
  | none => .badKind item
  | some body => match (body.getD 1 0).toNat with
    | 1 => .sourceSet item
    | 2 => .zoneSet item
    | 3 => .scenePush item
    | 4 => .scenePop item
    | 5 => .sceneClear item
    | 6 => .bankAdopt item
    | 7 => .surveyStart item
    | 8 => .surveyAbort item
    | _ => .badKind item

/-- One item of a take list applied: `u'` is what the item's own command makes of `u`, but for what that command sent
alone brings with it (log 12): the gates, NOM, the rebuild and its lists, the compositions and the hold decision, which a
block start settles once after its last cue. -/
def cueApplied (item : CueItem) (u u' : State) : Prop :=
  ∃ v, exec (cueCommand item) u = .next v
    ∧ (∀ i, u'.source i = { v.source i with gate := (u.source i).gate, holdCount := (u.source i).holdCount })
    ∧ { v.port with notice := u'.port.notice } = u'.port ∧ noticesElse v u' [.routeFull]
    ∧ u'.noticed .routeFull = u.noticed .routeFull
    ∧ u'.routes.map (fun e => (e.pair, e.lifecycle)) = u.routes.map (fun e => (e.pair, e.lifecycle))
    ∧ (∀ e ∈ u'.routes, ∃ e' ∈ v.routes, entryStands e e')
    ∧ (let asks := (∃ i, (u'.source i).pos ≠ (u.source i).pos) ∨ (u.surveying = true ∧ u'.surveying = false)
       (asks → u'.rebuild = if u.rebuild = .forced then .forced else .requested) ∧ (¬asks → u'.rebuild = u.rebuild))
    ∧ { v with sources := u'.sources, nom := u.nom, routes := u'.routes, admitted := u.admitted,
               unserved := u.unserved, rebuild := u'.rebuild, hold := u.hold, port := u'.port } = u'

/-- The items of a take list applied one after another, in take order (R166). -/
def cuesApplied : List CueItem → State → State → Prop
  | [], u, w => w = u
  | item :: rest, u, w => ∃ u', cueApplied item u u' ∧ cuesApplied rest u' w

/-- A survey whose last block has ended: TAIL, or MEASURE with tail blocks 0 (R121, R123). -/
def Survey.over (v : Survey) : Bool :=
  (v.phase == .tail && decide (v.tail ≤ v.counter))
  || (v.phase == .probeMeasure && decide (v.measure ≤ v.counter) && v.tail == 0)

end Sys2Proof.Machine
end

