-- ==== Sys2Proof/Certificates/Slice0/Obligations.lean ====
section
/-! DEFINITION. The statements about the part, each a Prop for the provers. -/

open Sys2Proof Sys2Proof.Machine

/-! ### The queue -/

/-- A step runs the command at the front of the queue on the state with the queue's rest; with no command waiting the
part idles (the model's choice, log 5). -/
def Obligations.StepTakesFrontCommand : Prop :=
  (∀ (c : Instr) (rest : List Instr) (s : State),
      step { s with pending := c :: rest } = exec c { s with pending := rest })
  ∧ ∀ s : State, s.pending = [] → step s = .next s

/-- A command's effect leaves the queue (the queue is the model's own). -/
def Obligations.ExecKeepsQueue : Prop :=
  ∀ (c : Instr) (s : State), ∃ t, exec c s = .next t ∧ t.pending = s.pending

/-! ### Power-on reset (R20, R35, R55, R80, R102, R105, R115, R131, R145, R151, R160, R177, R178) -/

/-- POWER_ON_RESET leaves every unit at its power-on values, samples the strap and leaves the queue; from any state. Of
each line's zeros 16,384 are R4's and 95 the older samples that log 6 holds beside them. That the maximum load is 0 is the
model's choice: R80 gives a load from the first block on, R178 gives no number, and the model does not gather the load of
block 0 (log 17). -/
def Obligations.PowerOnResetLeaves : Prop :=
  ∀ (strapHigh : Bool) (s : State), ∃ t, exec (.powerOnReset strapHigh) s = .next t
    ∧ t.pending = s.pending ∧ t.block = 0 ∧ t.mem = []
    ∧ t.linkA.lost = true ∧ t.linkA.missing = 0 ∧ t.linkA.good = 0
    ∧ t.linkB.lost = true ∧ t.linkB.missing = 0 ∧ t.linkB.good = 0
    ∧ (∀ i, (t.source i).line = List.replicate (16384 + 95) 0
        ∧ (t.source i).mix
            = { fader := .off, mute := true, force := .auto, priority := 0, ratio := 0, marker := false }
        ∧ (t.source i).pos = { x := 0, y := 0 } ∧ (t.source i).floor = none ∧ (t.source i).rise = 0
        ∧ (t.source i).gate = .closed ∧ (t.source i).holdCount = 0)
    ∧ (∀ z, t.zone z
        = { mix := { level := .off, mute := true, duckMode := .none, duckNumber := 0 },
            waiting := List.replicate 48 0, outLevel := -192, clip := false, clipCount := 0 })
    ∧ t.nom = 0 ∧ t.routes = [] ∧ t.unserved = [] ∧ t.admitted = [] ∧ t.freeUnits = 16 ∧ t.scenes = []
    ∧ t.survey.phase = .idle ∧ t.survey.claim = false ∧ t.live = none ∧ t.adoption = none ∧ t.takeList = []
    ∧ t.rebuild = .none ∧ t.outIndex = 0 ∧ t.sweepPos = 0 ∧ t.hold = .takeAll
    ∧ t.meterPeriod = 50 ∧ t.meter.periodCount = 0 ∧ t.meter.skip = 0 ∧ t.meter.capture = none ∧ t.meter.maxLoad = 0
    ∧ (∀ i : Fin 16, t.meter.lastLevels[i.val]? = some (-192) ∧ t.meter.peakLevels[i.val]? = some (-192))
    ∧ (∀ z : Fin 24, t.meter.zonePeaks[z.val]? = some (-192))
    ∧ t.port.resetRequest = false ∧ t.port.writeLatch = none ∧ t.port.readLatch = none ∧ t.attention = false
    ∧ ∀ a : Addr, t.hostRead a = if a = 6 then 0x1624 else if a = 0 ∧ strapHigh = true then 0x8000 else 0

/-- The state right after reset meets every invariant that the statements about steps keep. -/
def Obligations.ResetMeetsInvariants : Prop :=
  State.reset.mem.wf ∧ State.reset.shaped ∧ State.reset.delaysLegal ∧ State.reset.gainsLegal
  ∧ State.reset.countersLegal ∧ State.reset.listsOrdered ∧ State.reset.fadesWithinPool ∧ State.reset.fadesAimed
  ∧ State.reset.fadesRun ∧ State.reset.holdCountersRest ∧ State.reset.lastAlone ∧ State.reset.nomCounts
  ∧ State.reset.noBankIdle ∧ State.reset.surveyOrAdoption ∧ State.reset.resetRebuilt ∧ State.reset.bankStatesAgree
  ∧ State.reset.valuesLegal ∧ State.reset.callExclusive ∧ State.reset.latchesRest ∧ State.reset.adoptionRuns

/-! ### The links (R1 to R4, R31 to R33) -/

/-- INPUT_FRAME: every source's line takes one new sample: zero from a missing frame or a LOST link, else the word of its
channel, its top 24 bits or its top 16 bits times 256 by the link's width (R1, R160); the links count by R2 and R3; LINK
is raised by a link that becomes LOST; nothing else changes. S0 to S7 are the channels of IN-A, S8 to S15 those of IN-B; a
link's width is its flag in the adopted copy, 24 bits with no bank LIVE. The line keeps R4's 16,384 samples and the 95 older
ones of log 6; that the word stands in the top bits of its slot is R160's, read as log 14 says. -/
def Obligations.InputFrameDelivers : Prop :=
  ∀ (a b : LinkFrame) (s : State), ∃ t, exec (.inputFrame a b) s = .next t
    ∧ (∀ i : Fin 16,
        let inA : Bool := i.val < 8
        let narrow := match s.adopted with
          | none => false
          | some b => if inA then b.globals.in16A else b.globals.in16B
        linkOf i = (if inA then .inA else .inB)
        ∧ ∃ x : Sample,
        t.source i = { s.source i with line := (x :: (s.source i).line).take (16384 + 95) }
        ∧ (match if inA then a else b with
            | .missing => x = 0
            | .good slots =>
              if (if inA then s.linkA else s.linkB).lost then x = 0
              else if narrow then
                x.toInt = 256 * ((slots.getD (i.val % 8) 0).extractLsb' 16 16).toInt
              else x = (slots.getD (i.val % 8) 0).extractLsb' 8 24))
    ∧ t.linkA = s.linkA.afterFrame a ∧ t.linkB = s.linkB.afterFrame b
    ∧ t.port = { s.port with
        notice := if s.linkA.losesWith a || s.linkB.losesWith b then s.port.notice ||| 0x040 else s.port.notice }
    ∧ { t with sources := s.sources, linkA := s.linkA, linkB := s.linkB, port := s.port } = s

/-- LINK_LOST and LINK_RECOVERY: the second missing frame in a row sets LOST, clears the good count, raises LINK and
delivers zero; the 48th good frame in a row clears LOST and the missing count and still delivers zero. LOST at any frame of a
block, also at the frame that sets it or clears it, marks the block as lost for the eight sources of the link, whatever the
frames that follow bring (R8). The lines keep 16,384 samples and the 95 older ones of log 6. -/
def Obligations.LinkEventsLoseAndRecover : Prop :=
  (∀ (l : LinkId) (f : LinkFrame) (s : State), (s.link l).lost = false → (s.link l).missing = 1 →
    ∃ t, exec (.linkLost l f) s = .next t ∧ (t.link l).lost = true ∧ (t.link l).good = 0 ∧ t.noticed .link = true
      ∧ (∀ i : Fin 16, linkOf i = l → (t.source i).line = (0 :: (s.source i).line).take (16384 + 95))
      ∧ ∀ l', l' ≠ l → t.link l' = (s.link l').afterFrame f)
  ∧ (∀ (l : LinkId) (slots : List TdmSlot) (f : LinkFrame) (s : State), (s.link l).lost = true →
    (s.link l).good = 47 →
    ∃ t, exec (.linkRecovery l slots f) s = .next t ∧ (t.link l).lost = false ∧ (t.link l).missing = 0
      ∧ (∀ i : Fin 16, linkOf i = l → (t.source i).line = (0 :: (s.source i).line).take (16384 + 95))
      ∧ ∀ l', l' ≠ l → t.link l' = (s.link l').afterFrame f)
  ∧ (∀ (l : InLink) (f : LinkFrame),
      (l.afterFrame f).lostInBlock = (l.lostInBlock || l.lost || (l.afterFrame f).lost))
  ∧ (∀ (s : State) (i : Fin 16), s.lostBlock i = if i.val < 8 then s.linkA.lostInBlock else s.linkB.lostInBlock)
  ∧ ∀ l : InLink,
      (l.lost = false → l.missing = 0 → (l.afterFrame .missing).lost = false ∧ (l.afterFrame .missing).missing = 1)
      ∧ (l.lost = true → (l.afterFrame .missing).lost = true ∧ (l.afterFrame .missing).good = 0)
      ∧ ∀ slots, (l.lost = false → (l.afterFrame (.good slots)).lost = false ∧ (l.afterFrame (.good slots)).missing = 0)
        ∧ (l.lost = true → l.good < 47 →
            (l.afterFrame (.good slots)).lost = true ∧ (l.afterFrame (.good slots)).good = l.good + 1)

/-- OUTPUT_FRAME: while a frame of the block is left, the 24 channels carry sample `outIndex` of the waiting sums, as it
stands in the top 24 bits of its slot or as a 16-bit word in the top 16; a 16-bit word is the sample plus 128, shifted
right arithmetically by 8 places, which is the floor of the division by 256, saturated; only the top saturates; the
conversion sets no clip flag and touches no waiting sum, output level or clip counter; nothing else changes. The width is the
adopted copy's flag for OUT-A (Z0 to Z7), OUT-B (Z8 to Z15) or OUT-C (Z16 to Z23), 24 bits with no bank LIVE (R32). What fills a
slot below its word is a free value (R160; log 14), and the statement holds for every fill. -/
def Obligations.OutputFramesSendRoundedWords : Prop :=
  (∀ s : State, s.outIndex < 48 → ∃ t, exec .outputFrame s = .next t ∧ t.outIndex = s.outIndex + 1
    ∧ (∀ z : Fin 24, ∀ v : Sample, v = (s.zone z).waiting.getD s.outIndex 0 →
        let narrow := match s.adopted with
          | none => false
          | some b => if z.val < 8 then b.globals.out16A else if z.val < 16 then b.globals.out16B else b.globals.out16C
        ∃ slot : TdmSlot, t.outSlots[z.val]? = some slot
          ∧ (narrow = false → slot.extractLsb' 8 24 = v)
          ∧ (narrow = true → (slot.extractLsb' 16 16).toInt = min 32767 ((v.toInt + 128) / 256)))
    ∧ { t with outSlots := s.outSlots, fillsTaken := s.fillsTaken, outIndex := s.outIndex } = s)
  ∧ ((∀ v : Sample, (narrowWord v).toInt = max (-32768) (min 32767 ((v.toInt + 128) / 256))
    ∧ -32768 ≤ (v.toInt + 128) / 256
    ∧ (32767 < (v.toInt + 128) / 256 ↔ 8388480 ≤ v.toInt))
  ∧ ∀ s t : State, exec .outputFrame s = .next t → t.zones = s.zones ∧ t.port = s.port)

/-! ### The block start (R7 to R19, R31, R82, R93, R164, R166) -/

/-- BLOCK_START: the next block begins with its number, its first output frame, an empty take list and a fresh sweep; any
engine reset request is served; NOM counts the gates; the hold decision is made from HOLD_INTAKE and the phase; the levels
handed on are those of the block that has ended. Where no engine reset is served, the gate of a source whose block was
lost goes to LOST with its counters 0 and its floor UNSET, raising GATE if it was not LOST; any other gate leaves LOST, raising
GATE again if it was LOST, is CLOSED in NO_BANK, and its source's floor follows the level of the ended block. While a bank is
LIVE from it on, the SOURCE_SET and ZONE_SET cues of the take list are applied one after another in take order, so that of
several changes of one field the last stands, to the mix as it stood or, after an engine reset or a switch-over, to the mix
reloaded from the adopted copy then in force; what each cue makes of a field, a position and a mask is spelled out by the
tables of R168 and R169, with the clamps of R170 (R7, R9, R12, R18, R19, R31, R141, R156, R159, R163, R164, R166, R168, R169).
Which copy is in force is judged with the last part examined at the end of its block, as log 16 says, and with the order of
a switch-over and a reset as BLOCK_START gives it (log 1). -/
def Obligations.BlockStartBeginsBlock : Prop :=
  (∀ (r : BlockRaces) (s : State), ∃ t, exec (.blockStart r) s = .next t
    ∧ t.block = s.block + 1 ∧ t.outIndex = 0 ∧ t.takeList = [] ∧ t.sweepPos = 0 ∧ t.port.resetRequest = false
    ∧ t.nom = (t.sources.filter (fun x => x.gate.counted)).length
    ∧ t.hold = (if t.port.holdIntake then .takeNone else if t.survey.phase = .idle then .takeAll else .abortOnly)
    ∧ (∀ i : Fin 16, t.meter.lastLevels[i.val]?
        = some (levelOf (squareSum ((s.source i).line.take 48)) 48))
    ∧ t.linkA = { s.linkA with lostInBlock := s.linkA.lost } ∧ t.linkB = { s.linkB with lostInBlock := s.linkB.lost }
    ∧ t.outSlots = s.outSlots)
  ∧ (∀ (r : BlockRaces) (s : State) (i : Fin 16), s.port.resetRequest = false → s.lostBlock i = true →
    ∃ t, exec (.blockStart r) s = .next t ∧ (t.source i).gate = .lost ∧ (t.source i).holdCount = 0
      ∧ (t.source i).floor = none ∧ (t.source i).rise = 0
      ∧ ((s.source i).gate ≠ .lost → t.noticed .gate = true))
  ∧ (∀ (r : BlockRaces) (s : State) (i : Fin 16), s.port.resetRequest = false → s.lostBlock i = false →
    let level := levelOf (squareSum ((s.source i).line.take 48)) 48
    ∃ t, exec (.blockStart r) s = .next t
      ∧ (t.source i).gate ≠ .lost ∧ ((s.source i).gate = .lost → t.noticed .gate = true)
      ∧ (t.running = false → (t.source i).gate = .closed)
      ∧ ((s.source i).floor = none →
          (t.source i).floor = some (max (-192) (min (-24) level)) ∧ (t.source i).rise = 0)
      ∧ ∀ v, (s.source i).floor = some v →
          (level < v → (t.source i).floor = some level ∧ (t.source i).rise = 0)
          ∧ (v ≤ level → (s.source i).rise < 255 →
              (t.source i).floor = some v ∧ (t.source i).rise = (s.source i).rise + 1)
          ∧ (v ≤ level → 255 ≤ (s.source i).rise →
              (t.source i).floor = some (if v < -24 then v + 1 else v) ∧ (t.source i).rise = 0))
  ∧ (∀ (r : BlockRaces) (s : State) (b : Bank), s.adoptionRuns → s.copyInForce r = some b → s.sweepPos = 33 →
    (∀ item ∈ s.takeList, ∃ body, item.body = some body
      ∧ (bodyWord body 1 = 1 ∧ (present body 2 = true → (bodyWord body 11).toNat ≤ 2) ∧ bodyWord body 7 ≠ 0
        ∨ bodyWord body 1 = 2 ∧ (present body 9 = true → (bodyWord body 19).toNat ≤ 3)
          ∧ (bodyWord body 7 ≠ 0 ∨ (bodyWord body 8).toNat % 256 ≠ 0))) →
    let bodies := s.takeList.filterMap (·.body)
    let sets := fun (body : List Word) (i : Fin 16) =>
      bodyWord body 1 = 1 ∧ namesSource (bodyWord body 7) i = true
    let setsZone := fun (body : List Word) (z : Fin 24) =>
      bodyWord body 1 = 2 ∧ namesZone (bodyWord body 7) (bodyWord body 8) z = true
    let reloaded := s.port.resetRequest || s.switchesAt r
    let sourceRow := fun i => if reloaded then b.sourceRow i else { mix := (s.source i).mix, pos := (s.source i).pos }
    let zoneMix := fun z => if reloaded then (b.zoneRow z).mix else (s.zone z).mix
    ∃ t, exec (.blockStart r) s = .next t
      ∧ (∀ i, (t.source i).mix
            = bodies.foldl (fun m body => if sets body i then applySourceFields body m else m) (sourceRow i).mix
          ∧ (t.source i).pos
            = bodies.foldl (fun p body => if sets body i then applyPosition body p else p) (sourceRow i).pos)
      ∧ ∀ z, (t.zone z).mix
          = bodies.foldl (fun m body => if setsZone body z then applyZoneFields body m else m) (zoneMix z))
  ∧ sourceFieldsByTable ∧ zoneFieldsByTable

/-- The level of a sum of squares over `n` samples is 20 log10 of the mean square over 2^46, rounded with halves towards
+∞ and clamped to -192..0; a sum of zero reads -192; the sum is the exact sum of the squares of the samples (R7). -/
def Obligations.LevelIsRoundedDecibels : Prop :=
  (∀ sum n : Nat, 0 < n →
    levelOf 0 n = -192
    ∧ (0 < sum → levelOf sum n
        = max (-192) (min 0 ⌊20 * Real.logb 10 ((sum : ℝ) / n / 2 ^ 46) + 1 / 2⌋)))
  ∧ ∀ samples : List Sample, (squareSum samples : Int) = (samples.map (fun x => x.toInt ^ 2)).sum

/-- After a block start every LIVE entry's target gain and flags are those composed from the state that block start leaves,
or OFF and clear while a survey is in progress; a RETIRING entry's are OFF and clear (R40, R82, R93). At a block start
with no reset and no cue, every entry that stays has taken its motion step after its glide step: at rest at its latest
target if its current gain is OFF; one more fade block, or the end of the fade and a free step; else a free step: STEADY, one
sample of slip within the slip limit, or waiting for a fade unit. Then the free units go to the waiting entries in list order
(R63 to R67, R69, R71, R72, R75). At a switch-over the latest target is the one computed anew, pending behind a running fade, and the slip limit and fade
length are those of the new bank (R61, R62, R78, R141); that the bank's last part is examined at the end of its block is the
model's (log 16). -/
def Obligations.BlockStartComposesTargets : Prop :=
  (∀ (r : BlockRaces) (s : State), ∃ t, exec (.blockStart r) s = .next t ∧ targetsComposed t)
  ∧ (∀ (r : BlockRaces) (s : State), s.port.resetRequest = false → s.adoptionRuns → s.sweepPos = 33 →
    s.takeList = [] → s.listsOrdered →
    ∃ t, exec (.blockStart r) s = .next t ∧ ∃ stepped : List Entry, fadesGranted t.fadeLength stepped t.routes
      ∧ ∀ e ∈ s.routes, ∀ e' ∈ stepped, e'.pair = e.pair →
      let switched := s.switchesAt r
      let renewed := (t.targetDelayOf e.pair).delay
      let freeStep := fun (delay target : Nat) =>
        e'.targetDelay = target
        ∧ (delay = target → e'.motion = .steady ∧ e'.delay = target)
        ∧ (delay ≠ target → ((target : Int) - delay).natAbs ≤ t.slipLimit →
            e'.motion = .slipping ∧ (e'.delay : Int) = delay + (if delay < target then 1 else -1))
        ∧ (t.slipLimit < ((target : Int) - delay).natAbs →
            e'.delay = delay ∧ e'.motion = .awaitingFade)
      (e'.gain = .off → e'.motion = .steady ∧ e'.delay = e'.targetDelay
        ∧ e'.targetDelay = (if switched then renewed else match e.motion with
            | .fading destination _ _ pendingTarget => pendingTarget.getD destination
            | _ => e.targetDelay))
      ∧ (e'.gain ≠ .off → e.motion.isFading = false →
          freeStep e.delay (if switched then renewed else e.targetDelay))
      ∧ ∀ destination k n pendingTarget, e.motion = .fading destination k n pendingTarget → e'.gain ≠ .off →
          let waiting := if switched then (if renewed = destination then none else some renewed) else pendingTarget
          (k + 1 < n → e'.motion = .fading destination (k + 1) n waiting ∧ e'.delay = e.delay
            ∧ e'.targetDelay = e.targetDelay)
          ∧ (n ≤ k + 1 → freeStep destination (waiting.getD destination)))

/-- FLOOR_RISE: a set floor whose counter would reach 256 rises by one half-dB, to at most -24, and the counter returns to
0; nothing else changes (R9). -/
def Obligations.FloorRiseRaisesFloor : Prop :=
  ∀ (i : Fin 16) (v : Int) (s : State), s.sources.length = 16 → (s.source i).floor = some v →
    (s.source i).rise = 255 →
    ∃ t, exec (.floorRise i) s = .next t
      ∧ t.source i = { s.source i with floor := some (if v < -24 then v + 1 else v), rise := 0 }
      ∧ (∀ j, j ≠ i → t.source j = s.source j) ∧ { t with sources := s.sources } = s

/-- HOLD_EXPIRY: an automatic gate whose hold runs out goes to LAST if last-on enable is on and every other gate is
CLOSED, FORCED_CLOSED or LOST, and to CLOSED if last-on enable is off or another gate is OPEN, HOLD or FORCED_OPEN; its
counter is 0, NOM is counted, the targets are composed from it, and nothing else changes (R13, R15, R19, R82; log 12). OPEN,
HOLD, LAST and FORCED_OPEN are the gates counted (R10). -/
def Obligations.HoldExpirySettlesGate : Prop :=
  (∀ g : GateState, g.counted = true ↔ g = .opened ∨ g = .hold ∨ g = .last ∨ g = .forcedOpen)
  ∧ ∀ (i : Fin 16) (b : Bank) (s : State), s.sources.length = 16 → s.adopted = some b → (s.source i).gate = .hold →
    (s.source i).mix.force = .auto → (s.source i).holdCount = 1 →
    ∃ t, exec (.holdExpiry i) s = .next t ∧ (t.source i).holdCount = 0
      ∧ ((t.source i).gate = .last ∨ (t.source i).gate = .closed)
      ∧ (b.globals.lastOn = true → (∀ j, j ≠ i → (s.source j).gate.counted = false) → (t.source i).gate = .last)
      ∧ ((b.globals.lastOn = false ∨ ∃ j, j ≠ i ∧ (s.source j).gate ∈ [GateState.opened, .hold, .forcedOpen]) →
          (t.source i).gate = .closed)
      ∧ (∀ j, j ≠ i → t.source j = s.source j) ∧ t.nom = t.countedGates
      ∧ targetsComposed t
      ∧ t.routes.map (fun e => (e.pair, e.lifecycle, e.motion, e.delay, e.targetDelay, e.gain, e.floorFlag, e.ceilFlag))
        = s.routes.map (fun e => (e.pair, e.lifecycle, e.motion, e.delay, e.targetDelay, e.gain, e.floorFlag, e.ceilFlag))
      ∧ { t with sources := s.sources, nom := s.nom, routes := s.routes } = s

/-- The arbiter: as many candidates open as there are free places, the loudest first, the lower number first on equal level;
every held gate stays while they fit, and an over-full evaluation keeps the loudest max open of them; after a block start
the gates in OPEN, HOLD and LAST together do not exceed max open (R14). At a block start with no reset from which a bank is
LIVE, each gate takes its own step (R11 to R13), then the arbiter's, then R15's for LAST and expiring gates; the force mode
that the block start's reload and cues leave, if it differs from the one evaluated, acts once on the gate so left; and a
LAST gate beside a FORCED_OPEN one closes (R17, R111). At a switch-over the evaluation uses the new bank's parameters, the
force modes as they stood before the reload, and hold counters lowered to the new hold blocks before the gate's own step
(R16, R141); that the bank's last part is examined at the end of its block is the model's (log 16). -/
def Obligations.ArbiterKeepsPlaces : Prop :=
  (∀ (maxOpen : Nat) (steps : List GateStep) (level : Fin 16 → Int),
    let after := fun i => arbitrated maxOpen steps level i
    (∀ (own : Fin 16 → GateStep) (i : Fin 16), stepAt (allSources.map own) i = own i)
    ∧ (∀ st : GateStep, st.held = true ↔ st = .opened ∨ ∃ count, st = .hold count)
    ∧ (allSources.filter (fun i => (after i).held)).length ≤ maxOpen
    ∧ ((allSources.filter (fun i => (stepAt steps i).held)).length ≤ maxOpen →
        ∀ i, (stepAt steps i).held = true → after i = stepAt steps i)
    ∧ (∀ i j, stepAt steps i = .candidate → stepAt steps j = .candidate → after i = .opened → after j ≠ .opened →
        level j < level i ∨ (level j = level i ∧ i < j))
    ∧ (∀ i, (stepAt steps i).held = false → stepAt steps i ≠ .candidate → after i = stepAt steps i)
    ∧ (let heldBefore := (allSources.filter (fun i => (stepAt steps i).held)).length
       (allSources.filter (fun i => stepAt steps i = .candidate ∧ after i = .opened)).length
          = min (maxOpen - heldBefore) (allSources.filter (fun i => stepAt steps i = .candidate)).length
       ∧ (allSources.filter (fun i => (stepAt steps i).held ∧ after i = stepAt steps i)).length
          = min maxOpen heldBefore)
    ∧ (∀ i, stepAt steps i = .candidate → after i ≠ .opened → after i = .settled .closed)
    ∧ (∀ i, (stepAt steps i).held = true → after i ≠ stepAt steps i → after i = .settled .closed)
    ∧ ∀ i j, (stepAt steps i).held = true → (stepAt steps j).held = true → after i = stepAt steps i →
        after j ≠ stepAt steps j → level j < level i ∨ (level j = level i ∧ i < j))
  ∧ (∀ (r : BlockRaces) (s t : State) (b : Bank), s.lastAlone → exec (.blockStart r) s = .next t → t.adopted = some b →
    1 ≤ b.globals.maxOpen →
    (t.sources.filter (fun x => x.gate = .opened ∨ x.gate = .hold ∨ x.gate = .last)).length ≤ b.globals.maxOpen)
  ∧ (∀ (r : BlockRaces) (s : State) (b : Bank), s.port.resetRequest = false → s.adoptionRuns →
    s.copyInForce r = some b →
    let level := fun i => levelOf (squareSum ((s.source i).line.take 48)) 48
    let speech : Fin 16 → Bool := fun i => match (s.source i).floor with
      | none => false
      | some v => decide (v + b.globals.openMargin ≤ level i)
    let held := fun i =>
      if s.switchesAt r then min (s.source i).holdCount b.globals.holdBlocks else (s.source i).holdCount
    let own : Fin 16 → GateStep := fun i =>
      let x := s.source i
      if s.lostBlock i then .settled .lost
      else match x.mix.force, x.gate, speech i with
        | .opened, _, _ => .settled .forcedOpen
        | .closed, _, _ => .settled .forcedClosed
        | .auto, .closed, true => .candidate
        | .auto, .opened, true => .opened
        | .auto, .hold, true => .opened
        | .auto, .last, true => .opened
        | .auto, .opened, false => if b.globals.holdBlocks = 0 then .expiring else .hold b.globals.holdBlocks
        | .auto, .hold, false => if held i ≤ 1 then .expiring else .hold (held i - 1)
        | .auto, .last, false => .last
        | .auto, _, _ => .settled .closed
    let placed := fun i => arbitrated b.globals.maxOpen (allSources.map own) level i
    let opened : Bool := allSources.any (fun j => own j = .candidate ∧ placed j = .opened)
    let otherOpen : Fin 16 → Bool := fun i => allSources.any (fun j =>
      j ≠ i ∧ ((placed j).held = true ∨ placed j = .settled .forcedOpen))
    let alone : Fin 16 → Bool := fun i => allSources.all (fun j => j = i ∨ placed j ≠ .expiring)
    let evaluated : Fin 16 → GateState × Nat := fun i => match placed i with
      | .settled g => (g, 0)
      | .candidate => (.closed, 0)
      | .opened => (.opened, 0)
      | .hold c => (.hold, c)
      | .last => (if b.globals.lastOn && !opened && !otherOpen i then .last else .closed, 0)
      | .expiring => (if b.globals.lastOn && !opened && !otherOpen i && alone i then .last else .closed, 0)
    ∃ t, exec (.blockStart r) s = .next t ∧
      (let forced : Fin 16 → GateState := fun i =>
         if (t.source i).mix.force = (s.source i).mix.force then (evaluated i).1
         else match (t.source i).mix.force, (evaluated i).1 with
           | _, .lost => .lost
           | .opened, _ => .forcedOpen
           | .closed, _ => .forcedClosed
           | .auto, .forcedOpen => .closed
           | .auto, .forcedClosed => .closed
           | .auto, g => g
       ∀ i, (t.source i).gate = (if forced i = .last ∧ ∃ j, forced j = .forcedOpen then .closed else forced i)
         ∧ (t.source i).holdCount = if forced i = .hold then (evaluated i).2 else 0))

/-! ### Delay alignment (R57 to R75) -/

/-- The plan distance is the greatest whole number whose square does not exceed dx² + dy², 0..2288 on the plan; the flight is
floor((distance × F + 2048) / 4096), 0..34074; the target delay of a pair is flight plus precedence plus trim less 96,
clamped to 0..16383 with FLOOR below 0 and CEIL above 16383 (R57 to R60). -/
def Obligations.TargetDelayIsExact : Prop :=
  ((∀ p q : Position, p.legal → q.legal →
    let d := planDistance p q
    let sum := ((q.x : Int) - p.x) ^ 2 + ((q.y : Int) - p.y) ^ 2
    (d : Int) ^ 2 ≤ sum ∧ sum < ((d : Int) + 1) ^ 2 ∧ d ≤ 2288)
  ∧ planDistance { x := 0, y := 0 } { x := 2047, y := 1023 } = 2288
  ∧ (∀ p, p.legal → planDistance p p = 0)
  ∧ (∀ distance f : Nat, flightSamples distance f = (distance * f + 2048) / 4096)
  ∧ (∀ f, flightSamples 0 f = 0) ∧ ∀ distance f : Nat, distance ≤ 2288 → f ≤ 61000 → flightSamples distance f ≤ 34074)
  ∧ (∀ (s : State) (b : Bank) (pair : Pair), s.adopted = some b →
    let zone := b.zoneRow pair.zone
    let raw : Int := flightSamples (planDistance (s.source pair.source).pos zone.speaker) b.globals.flight
      + zone.precedence + zone.trim - 96
    let t := s.targetDelayOf pair
    (raw < 0 → t.delay = 0 ∧ t.floorFlag = true ∧ t.ceilFlag = false)
    ∧ (0 ≤ raw → raw ≤ 16383 → (t.delay : Int) = raw ∧ t.floorFlag = false ∧ t.ceilFlag = false)
    ∧ (16383 < raw → t.delay = 16383 ∧ t.floorFlag = false ∧ t.ceilFlag = true))

/-- The route samples of the block that has just ended: a single tap at the current delay, or the crossfade of the taps at
the current delay and the fade destination, its weight reaching 32768 at the last sample of the last fade block; a
crossfaded sample lies between its two taps (R4, R68, R70). That they are read at the end of the block, when the line already
holds its 48 samples, is the model's (log 10), and so is the line of 16,384 samples with the 95 older ones that its taps read
(log 6). -/
def Obligations.RouteSamplesReadTaps : Prop :=
  ∀ (e : Entry) (line : List Sample) (i : Nat), line.length = 16384 + 95 → e.delaysLegal → i < 48 →
    let tap := fun d => (line.getD (48 + d + (47 - i)) 0).toInt
    (e.motion.isFading = false → (e.routeSamples line)[i]? = some (tap e.delay))
    ∧ ∀ destination k unitLength pendingTarget, e.motion = .fading destination k unitLength pendingTarget →
        k < unitLength →
        let w := 32768 * (48 * k + i + 1) / (48 * unitLength)
        let y := (tap e.delay * (32768 - w) + tap destination * w) / 32768
        (e.routeSamples line)[i]? = some y ∧ min (tap e.delay) (tap destination) ≤ y
        ∧ y ≤ max (tap e.delay) (tap destination)
        ∧ (k + 1 = unitLength → i = 47 → w = 32768 ∧ y = tap destination)

/-- FADE_GRANT: the free units go to the waiting entries in list order, and each entry granted becomes FADING to its target
delay with progress 0 and the fade length in force. FADE_END: a heard entry whose last fade block has ended reads its fade
destination, takes the pending target if one is held, and takes the motion step of a free entry: STEADY at the target, one
sample of slip within the slip limit, AWAITING_FADE beyond it. Every other entry, and everything else, stays (R65 to R67,
R69, R71, R72, R75). That FADE_END sent before the last fade block changes nothing is the model's choice (log 3). The slip limit and the fade length
are the adopted copy's (R78); with no bank LIVE, where no entry stands, the model answers 0. -/
def Obligations.FadesAreGrantedAndEnd : Prop :=
  (∀ s : State, ∃ t, exec .fadeGrant s = .next t ∧ { t with routes := s.routes } = s
    ∧ fadesGranted s.fadeLength s.routes t.routes)
  ∧ (∀ s : State, s.adopted = none → s.slipLimit = 0 ∧ s.fadeLength = 0)
  ∧ (∀ (s : State) (b : Bank), s.adopted = some b →
      s.slipLimit = b.globals.slipLimit ∧ s.fadeLength = b.globals.fadeLength)
  ∧ (∀ (pair : Pair) (s : State), ∃ t, exec (.fadeEnd pair) s = .next t ∧ { t with routes := s.routes } = s
    ∧ ∀ (n : Nat) (e : Entry), s.routes[n]? = some e → ∃ e', t.routes[n]? = some e'
      ∧ (e.pair ≠ pair ∨ e.motion.isFading = false ∨ e.gain = .off → e' = e)
      ∧ ∀ destination progress unitLength pendingTarget,
          e.motion = .fading destination progress unitLength pendingTarget → e.pair = pair → e.gain ≠ .off →
          (progress + 1 < unitLength → e' = e)
          ∧ (progress + 1 = unitLength →
              let target := pendingTarget.getD destination
              e' = { e with motion := e'.motion, delay := e'.delay, targetDelay := target }
              ∧ (target = destination → e'.motion = .steady ∧ e'.delay = destination)
              ∧ (target ≠ destination → ((target : Int) - destination).natAbs ≤ s.slipLimit →
                  e'.motion = .slipping
                  ∧ (e'.delay : Int) = destination + (if destination < target then 1 else -1))
              ∧ (s.slipLimit < ((target : Int) - destination).natAbs →
                  e'.motion = .awaitingFade ∧ e'.delay = destination)))

/-! ### Gain (R82 to R100) -/

/-- The composition of a pair follows its five steps: silence, the sum of the five terms, the bottom of the range, the
coupling ceiling, the top of the range (R83 to R88), with the NOM table of R85 written out; beyond its 17 values, which no
NOM reaches, the model answers the last (log 20). -/
def Obligations.CompositionFollowsSteps : Prop :=
  ∀ (s : State) (b : Bank) (pair : Pair),
    let x := s.source pair.source
    let z := s.zone pair.zone
    let c := s.composed b pair
    ((x.mix.mute = true ∨ z.mix.mute = true ∨ x.mix.fader = .off ∨ z.mix.level = .off
        ∨ (x.gate.counted = false ∧ b.globals.offAttenuation = 192)) → c.gain = .off ∧ c.ceilingLimited = false)
    ∧ ∀ fader level : Int, x.mix.mute = false → z.mix.mute = false → x.mix.fader = .code fader →
        z.mix.level = .code level → (x.gate.counted = true ∨ b.globals.offAttenuation ≠ 192) →
        let sum := fader + level + (if x.gate.counted then 0 else -(b.globals.offAttenuation : Int))
          + (if x.gate.counted then
              ([0, 0, -6, -10, -12, -14, -16, -17, -18, -19, -20, -21, -22, -22, -23, -24, -24] : List Int).getD s.nom (-24)
            else 0)
          + (if s.ducks b pair then -((b.duckDepths.getD x.mix.ratio 0 : Nat) : Int) else 0)
        (sum < -192 → c.gain = .off ∧ c.ceilingLimited = false)
        ∧ (-192 ≤ sum → b.couplingOf pair = none → c.gain = .code (min sum 24) ∧ c.ceilingLimited = false)
        ∧ ∀ coupling, -192 ≤ sum → b.couplingOf pair = some coupling →
            let ceiling := -coupling - b.globals.stabilityMargin
            (ceiling < -192 → c.gain = .off ∧ c.ceilingLimited = true)
            ∧ (-192 ≤ ceiling → sum ≤ ceiling → c.gain = .code (min sum 24) ∧ c.ceilingLimited = false)
            ∧ (-192 ≤ ceiling → ceiling < sum → c.gain = .code (min ceiling 24) ∧ c.ceilingLimited = true)

/-- An entry's source is ducked in a zone exactly when some source qualifies there with a higher priority number; a source
qualifies with a LIVE entry, not muted, its gate counted in NOM, and meeting the zone's duck mode (R90, R91). A source's priority
number is the entry of the adopted copy's table at its priority bits (R89). -/
def Obligations.DuckedBelowHighestQualifier : Prop :=
  ∀ (s : State) (b : Bank) (pair : Pair),
    (∀ (x : Source) (n : Nat), b.priorityNumbers[x.mix.priority]? = some n → b.priorityOf x = n)
    ∧ (s.ducks b pair = true ↔
      ∃ j : Fin 16, s.qualifies b pair.zone j = true
        ∧ b.priorityOf (s.source pair.source) < b.priorityOf (s.source j))
    ∧ ∀ j : Fin 16, s.qualifies b pair.zone j = true ↔
        (∃ e ∈ s.routes, e.pair = { source := j, zone := pair.zone } ∧ e.lifecycle = .live)
        ∧ (s.source j).mix.mute = false ∧ (s.source j).gate.counted = true
        ∧ (((s.zone pair.zone).mix.duckMode = .atOrAbove
              ∧ (s.zone pair.zone).mix.duckNumber ≤ b.priorityOf (s.source j))
          ∨ ((s.zone pair.zone).mix.duckMode = .equal
              ∧ (s.zone pair.zone).mix.duckNumber = b.priorityOf (s.source j))
          ∨ ((s.zone pair.zone).mix.duckMode = .marked ∧ (s.source j).mix.marker = true))

/-- The glide step rises from OFF at -192, falls to OFF only from -192, and otherwise moves by the slope without passing the
target; at a block start that serves no engine reset every entry that stays in the list takes one glide step towards the
target it held in the ended block, by the slope in force from that block start, which at a switch-over is the new bank's
(R94, R95, R96, R101). -/
def Obligations.GlideStepsOnceABlock : Prop :=
  (∀ slope : Nat,
    glideStep slope .off .off = .off
    ∧ (∀ t, glideStep slope .off (.code t) = .code (-192))
    ∧ glideStep slope (.code (-192)) .off = .off
    ∧ (∀ c, -192 < c → glideStep slope (.code c) .off = .code (max (c - slope) (-192)))
    ∧ (∀ c t, c < t → glideStep slope (.code c) (.code t) = .code (min (c + slope) t))
    ∧ (∀ c t, t < c → glideStep slope (.code c) (.code t) = .code (max (c - slope) t))
    ∧ ∀ c, glideStep slope (.code c) (.code c) = .code c)
  ∧ (∀ (r : BlockRaces) (s : State), s.port.resetRequest = false → s.listsOrdered →
    ∃ t, exec (.blockStart r) s = .next t ∧ (s.adoption = none → t.adopted = s.adopted)
      ∧ ∀ b, t.adopted = some b → ∀ e ∈ s.routes, ∀ e' ∈ t.routes, e'.pair = e.pair →
        e'.gain = glideStep b.globals.gainSlope e.gain e.targetGain)

/-- lin(c) is 4096 × 10^(c/40) rounded to the nearest integer, lin(OFF) is 0; the values rise with c and lie in 0..16306;
no code gives a value half-way between two integers (R97). -/
def Obligations.LinearGainIsRounded : Prop :=
  linearGain .off = 0
  ∧ (∀ c : Int, -192 ≤ c → c ≤ 24 →
      |(linearGain (.code c) : ℝ) - 4096 * (10 : ℝ) ^ ((c : ℝ) / 40)| < 1 / 2 ∧ linearGain (.code c) ≤ 16306)
  ∧ ∀ c d : Int, -192 ≤ c → c ≤ d → d ≤ 24 → linearGain (.code c) ≤ linearGain (.code d)

/-- A sample of a zone's exact sum is the sum, over the zone's entries, of the route sample times the linear gain over 4096,
rounded towards -∞ (R98, R99). It stays inside ±534,315,008, the bound of sixteen entries at +24, far inside the accumulator
of 40 bits, and its saturation brings it to the nearer end of the 24-bit range (R100). That the sum is formed at the end of
the block is the model's (log 10), and so is the line of 16,384 samples with the 95 older ones that its taps read (log 6).
At a block start the waiting sum of a zone is its saturated sum, or in the surveyed zone the probe block of the ended block,
and the output level is that of this sum or of this probe block. Where a SURVEY_ABORT at that block start discards the probe
block and zeros wait in its place, the output level is still the probe block's: that is the model's choice (log 13, third
item), since R34 and R127 do not say it. The clip flag says that the exact sum overflowed and the clip counter counts it, to
at most 65535; CLIP is raised if any zone clipped; an engine reset leaves zeros instead (R31, R34, R36, R100, R102,
R121). -/
def Obligations.ZoneSumsFitAccumulator : Prop :=
  (∀ (s : State) (z : Fin 24), s.listsOrdered → s.gainsLegal → s.fadesRun →
      ∀ v ∈ s.zoneSums z, -534315008 ≤ v ∧ v ≤ 534315008)
  ∧ (∀ v : Int, (saturate24 v).toInt = max (-8388608) (min 8388607 v)
      ∧ (overflows24 v = true ↔ (saturate24 v).toInt ≠ v))
  ∧ (∀ (s : State) (z : Fin 24) (i : Nat), (∀ x ∈ s.sources, x.line.length = 16384 + 95) → s.sources.length = 16 →
      s.delaysLegal → i < 48 →
      (s.zoneSums z)[i]? = some ((s.routes.filter (fun e => e.pair.zone = z)).map (fun e =>
        ((e.routeSamples (s.source e.pair.source).line).getD i 0 * (linearGain e.gain : Int) / 4096 : Int))).sum)
  ∧ (∀ (r : BlockRaces) (s : State) (z : Fin 24), s.port.resetRequest = false →
      let probing := (s.survey.phase = .probeSettle ∨ s.survey.phase = .probeMeasure) ∧ s.survey.zone = z
      let probe := probeSamples (probeMagnitude s.survey.probeCode) 48 s.survey.lfsr
      let sum := (s.zoneSums z).map saturate24
      let clipped := ∃ v ∈ s.zoneSums z, v < -8388608 ∨ 8388607 < v
      ∃ t, exec (.blockStart r) s = .next t
        ∧ (¬probing → (t.zone z).waiting = sum ∧ (t.zone z).outLevel = levelOf (squareSum sum) 48)
        ∧ (probing → (t.zone z).outLevel = levelOf (squareSum probe) 48
            ∧ ((t.zone z).waiting = probe ∨ (t.zone z).waiting = List.replicate 48 0)
            ∧ (s.sweepPos = 33 → s.takeList = [] → (t.zone z).waiting = probe))
        ∧ (clipped → (t.zone z).clip = true ∧ (t.zone z).clipCount = min ((s.zone z).clipCount + 1) 65535
            ∧ t.noticed .clip = true)
        ∧ (¬clipped → (t.zone z).clip = false ∧ (t.zone z).clipCount = (s.zone z).clipCount))
  ∧ (∀ (r : BlockRaces) (s : State), s.port.resetRequest = true → ∃ t, exec (.blockStart r) s = .next t ∧
      ∀ z, (t.zone z).waiting = List.replicate 48 0 ∧ (t.zone z).outLevel = -192 ∧ (t.zone z).clip = false
        ∧ (t.zone z).clipCount = 0)

/-! ### The route list (R38 to R56, R77) -/

/-- A rebuild: the admitted set becomes the pairs that the windows admit; every entry stays, LIVE if its pair is admitted
and RETIRING with target OFF otherwise; admitted pairs without an entry become LIVE entries at OFF with their delay at
their target while there is room, the lowest in pair order first; the rest are the unserved list; ROUTE_FULL marks a list
that fills (R43 to R46). A position is inside a RECT window by its bounds and inside a ROWS window by its y bounds and the
bounds of the row at floor(y / 32); a pair is admitted when one enabled window gives a true term, or under logic AND when
every enabled one does, the term being the inside result, inverted for area select OUTSIDE; the admitted set is the pairs
admitted where the sources stand, and empty with no bank LIVE (R26 to R30). -/
def Obligations.RebuildBringsListIntoLine : Prop :=
  (∀ (w : Window) (b : Bank) (p : Position), w.inside b p = true ↔
    w.yStart ≤ p.y ∧ p.y ≤ w.yEnd
    ∧ if w.rows then (b.row w.table (p.y / 32)).1 ≤ p.x ∧ p.x ≤ (b.row w.table (p.y / 32)).2
      else w.xStart ≤ p.x ∧ p.x ≤ w.xEnd)
  ∧ (∀ (b : Bank) (pair : Pair) (p : Position),
    let zone := b.zoneRow pair.zone
    let terms : List (Bool × Bool × Bool) :=
      [(zone.w0.enable, zone.w0.outside, zone.w0.inside b p), (zone.w1.enable, zone.w1.outside, zone.w1.inside b p),
       (zone.ws.enable, zone.ws.outside, zone.ws.set.getLsbD pair.source.val)]
    b.admits pair p = true ↔
      if zone.logicAnd then ∀ w ∈ terms, w.1 = true → w.2.2 ≠ w.2.1 else ∃ w ∈ terms, w.1 = true ∧ w.2.2 ≠ w.2.1)
  ∧ (∀ p : Pair, pairRank p = 24 * p.source.val + p.zone.val)
  ∧ (∀ s : State, pairsAscend s.admittedNow
    ∧ ∀ pair, pair ∈ s.admittedNow ↔ ∃ b, s.adopted = some b ∧ b.admits pair (s.source pair.source).pos = true)
  ∧ ∀ s : State, s.listsOrdered →
    let t := s.rebuildRoutes
    t.admitted = s.admittedNow
    ∧ (∀ e ∈ s.routes, ∃ e' ∈ t.routes, e'.pair = e.pair ∧ e'.gain = e.gain ∧ e'.delay = e.delay
        ∧ e'.motion = e.motion
        ∧ (e.pair ∈ s.admittedNow → e'.lifecycle = .live)
        ∧ (e.pair ∉ s.admittedNow → e'.lifecycle = .retiring ∧ (e.lifecycle = .live → e'.targetGain = .off)))
    ∧ (∀ e' ∈ t.routes, (∃ e ∈ s.routes, e.pair = e'.pair)
        ∨ (e'.pair ∈ s.admittedNow ∧ e'.lifecycle = .live ∧ e'.gain = .off ∧ e'.motion = .steady
            ∧ e'.delay = (s.targetDelayOf e'.pair).delay ∧ e'.targetDelay = e'.delay))
    ∧ (∀ p, p ∈ s.admittedNow → (∃ e ∈ t.routes, e.pair = p) ∨ p ∈ t.unserved)
    ∧ (∀ p ∈ t.unserved, p ∈ s.admittedNow) ∧ t.listsOrdered
    ∧ (∀ e' ∈ t.routes, (∀ e ∈ s.routes, e.pair ≠ e'.pair) → ∀ p ∈ t.unserved, pairRank e'.pair < pairRank p)
    ∧ (t.noticed .routeFull = true ↔ s.noticed .routeFull = true ∨ (s.unserved = [] ∧ t.unserved ≠ []))

/-- ROUTE_REMOVAL: every RETIRING entry at OFF leaves; as many pairs are admitted from the front of the unserved list as
LIVE entries at OFF with their delay at their target; the targets are composed, and every other entry and everything else
stays (R44, R48, R49, R82). The list of a BLOCK_START with no reset and no cue, from which a bank is LIVE: a rebuild is
carried out at a switch-over, at a survey's end, or where one was asked for, unless a survey in progress defers it; then the
entries of the ended block are LIVE where admitted, and the admitted pairs without an entry wait in pair order for the room
left. Every RETIRING entry at OFF after its glide step leaves, each with a pair admitted in its place; all others stay. New
entries are LIVE, silent and at rest at their target; ROUTE_FULL marks a rebuild whose unserved list fills (R42 to R52).
That the bank's last part is examined at the end of its block is the model's (log 16), and so is whether a due completion
comes before the cues (log 1). -/
def Obligations.RouteRemovalAdmitsUnserved : Prop :=
  (∀ s : State, (∃ e ∈ s.routes, e.lifecycle = .retiring ∧ e.gain = .off) →
    ∃ t, exec .routeRemoval s = .next t
      ∧ (let k := (s.routes.filter (fun e => e.lifecycle = .retiring ∧ e.gain = .off)).length
         t.unserved = s.unserved.drop k
         ∧ t.routes.length = s.routes.length - k + min k s.unserved.length
         ∧ (∀ e ∈ t.routes, ¬(e.lifecycle = .retiring ∧ e.gain = .off))
         ∧ (∀ e ∈ s.routes, ¬(e.lifecycle = .retiring ∧ e.gain = .off) →
              ∃ e' ∈ t.routes, e' = { e with
                targetGain := e'.targetGain, ceilingLimited := e'.ceilingLimited, ducked := e'.ducked })
         ∧ ∀ p ∈ s.unserved.take k, ∃ e ∈ t.routes, e.pair = p ∧ entersSilent t e)
      ∧ targetsComposed t ∧ { t with routes := s.routes, unserved := s.unserved } = s)
  ∧ ∀ (r : BlockRaces) (b : Bank) (s : State), s.port.resetRequest = false → s.adoptionRuns → s.sweepPos = 33 →
    s.takeList = [] → s.rebuild ≠ .forced → s.listsOrdered → s.copyInForce r = some b →
    ∃ t, exec (.blockStart r) s = .next t
      ∧ (let asked : Bool := s.switchesAt r || s.rebuild == .requested
         let rebuilt : Bool := !t.surveying && (asked || s.surveying)
         let gain := fun e : Entry => glideStep b.globals.gainSlope e.gain e.targetGain
         let live := fun e : Entry => if rebuilt then e.pair ∈ t.admitted else e.lifecycle = .live
         let stays := fun e : Entry => live e ∨ gain e ≠ .off
         let wanting := if rebuilt then t.admitted.filter (fun p => s.routes.all (fun e => e.pair != p)) else s.unserved
         let room := if rebuilt then 160 - s.routes.length else 0
         let places := room + (s.routes.filter (fun e => ¬stays e)).length
         (if rebuilt then t.admitted = t.admittedNow else t.admitted = s.admitted)
         ∧ t.rebuild = (if !rebuilt && asked then .requested else .none)
         ∧ pairsAscend (t.routes.map (·.pair)) ∧ t.unserved = wanting.drop places
         ∧ (∀ p, (∃ e ∈ t.routes, e.pair = p) ↔ (∃ e ∈ s.routes, e.pair = p ∧ stays e) ∨ p ∈ wanting.take places)
         ∧ (∀ e ∈ s.routes, ∀ e' ∈ t.routes, e'.pair = e.pair → (e'.lifecycle = .live ↔ live e))
         ∧ (∀ e' ∈ t.routes, (∀ e ∈ s.routes, e.pair ≠ e'.pair) → entersSilent t e')
         ∧ (t.noticed .routeFull = true ↔
             s.noticed .routeFull = true ∨ (rebuilt = true ∧ s.unserved = [] ∧ wanting.drop room ≠ [])))

/-- The load counts the sources not LOST, the zones, the entries, the fades and a survey in progress by the cost table,
and lies in 192..2256 (R77). -/
def Obligations.LoadWithinBudget : Prop :=
  ∀ s : State,
    s.load = 4 * (s.sources.filter (fun x => x.gate ≠ .lost)).length + 8 * 24 + 10 * s.routes.length
      + 24 * (s.routes.filter (fun e => e.motion.isFading)).length + (if s.survey.phase = .idle then 0 else 16)
    ∧ 192 ≤ s.load
    ∧ (s.sources.length = 16 → s.listsOrdered → s.fadesWithinPool → s.load ≤ 2256)

/-! ### Cues (R105 to R118, R127, R135, R136, R163 to R174) -/

/-- An outcome is written into its slot, result words and state, and raises CUE; or into CALL where the claim stands,
raising CALL; or nowhere; and changes nothing else. The thirteen results have the codes 0 to 12 in the order of R170's table,
and OK and CLAMPED alone are DONE (R170, R174). At a block start the items of the take list are applied one after another in
take order, each as the command of its kind applies it, with its outcome under the new block number: from the mix that the
boundary leaves (reloaded by a reset or switch-over, or as it stood), an empty stack after a reset, the survey and the
adoption as their blocks have left them. What they leave stands after the block start: the mix, the stack, the zones, the
adoption, the survey, the words below the meter buffers, CALL and the notices. Gates, routes and targets are settled once
after them, by the statements about block starts (R111, R113, R144, R156, R166). A completion that BLOCK_START puts after a
SURVEY_ABORT (log 1) follows the cues, if the survey still runs (R127). Cue commands sent alone are those of log 12 and log 22;
the last part of a bank is examined at the end of its block (log 16), and what an ended survey keeps is log 27's. -/
def Obligations.OutcomeIsWritten : Prop :=
  (∀ (s : State) (item : CueItem) (code : ResultCode) (detail : Nat), s.mem.wf →
    let t := s.outcome item.origin item.claim code detail
    outcomeShown s t item code detail [] ∧ portElse s t ∧ { t with mem := s.mem, port := s.port } = s)
  ∧ [ResultCode.ok, .clamped, .badKind, .badField, .badTarget, .noBank, .busy, .stackFull, .stackEmpty, .notRunning,
      .bankInvalid, .reset, .aborted].map ResultCode.number = List.range 13
  ∧ (∀ code : ResultCode, code.done = true ↔ code = .ok ∨ code = .clamped)
  ∧ (∀ k : Fin 32, slotBase k = 0x40 + 32 * k.val)
  ∧ (∀ (n : Nat) (v : Int) (b : BlockNo), natWord n = BitVec.ofNat 16 n ∧ signedWord v = BitVec.ofInt 16 v
      ∧ blockLow b = b.extractLsb' 0 16 ∧ blockHigh b = b.extractLsb' 16 16)
  ∧ ∀ (r : BlockRaces) (s : State), s.mem.wf → s.adoptionRuns → s.sweepPos = 33 →
    let reset := s.port.resetRequest
    let reloaded := reset || s.switchesAt r
    let mixOf := fun i => if reloaded then (match s.copyInForce r with
        | none => ({ mix := SourceMix.rest, pos := { x := 0, y := 0 } } : SourceRow)
        | some b => b.sourceRow i) else { mix := (s.source i).mix, pos := (s.source i).pos }
    let zoneMixOf := fun z => if reloaded then (match s.copyInForce r with
        | none => ZoneMix.rest
        | some b => (b.zoneRow z).mix) else (s.zone z).mix
    let v := s.survey
    let ended := Survey.over { v with counter := v.counter + 1 }
    let probing : Bool := v.phase = .probeSettle ∨ v.phase = .probeMeasure
    let rejected : Bool := match s.adoption with
      | none => false
      | some a => (a.examined s.mem).illegal.isSome && (!reset || r.bankBeforeReset)
    ∃ t u w, exec (.blockStart r) s = .next t ∧ cuesApplied s.takeList u w
      -- what the first cue finds
      ∧ u.block = s.block + 1 ∧ u.adopted = s.copyInForce r ∧ u.takeList = [] ∧ u.port.resetRequest = false
      ∧ u.liveBank = (if s.switchesAt r then s.adoption.map (·.bank) else s.liveBank)
      ∧ (∀ i, (u.source i).mix = (mixOf i).mix ∧ (u.source i).pos = (mixOf i).pos)
      ∧ (∀ z, (u.zone z).mix = zoneMixOf z)
      ∧ u.scenes = (if reset then [] else s.scenes)
      ∧ u.marks = { adoptionEnded := s.switchesAt r || rejected, resetHere := reset,
                    probedZone := if probing then some v.zone else none, surveyBegan := false }
      ∧ (∀ a, s.adoption = some a → u.adoption
          = if reset || s.switchesAt r || rejected then none else some { a.examined s.mem with part := a.part + 1 })
      ∧ (s.adoption = none → u.adoption = none)
      ∧ (reset = true ∨ v.phase = .idle ∨ (ended = true ∧ r.completionBeforeAbort = true) → u.survey.phase = .idle)
      ∧ (reset = false → v.phase ≠ .idle → (ended = false ∨ r.completionBeforeAbort = false) →
          u.survey.phase ≠ .idle ∧ u.survey.zone = v.zone ∧ u.survey.origin = v.origin ∧ u.survey.claim = v.claim
          ∧ u.survey.clampNote = v.clampNote)
      ∧ (u.adoption.isSome = s.adoption.isSome → u.surveying = s.surveying →
          (∀ a, u.word a = s.word a) ∧ noticesElse s u [.clip, .gate]
          ∧ u.port = { s.port with resetRequest := false, notice := u.port.notice })
      -- what the last cue leaves
      ∧ (∀ i, (t.source i).mix = (w.source i).mix ∧ (t.source i).pos = (w.source i).pos)
      ∧ t.zones = w.zones ∧ t.scenes = w.scenes ∧ t.live = w.live ∧ t.adoption = w.adoption
      ∧ (r.completionBeforeAbort = true ∨ w.survey.over = false →
          (w.survey.phase ≠ .muting ∨ w.marks.surveyBegan = true → t.survey = w.survey)
          ∧ (∀ a, a < 0x2C00 → t.word a = w.word a) ∧ noticesElse w t [.routeFull, .meter]
          ∧ t.port = { w.port with notice := t.port.notice })
      ∧ (r.completionBeforeAbort = false → w.survey.over = true →
          t.survey = { w.survey with phase := .idle, claim := false } ∧ t.word 0x2800 = 2
          ∧ t.noticed .survey = true
          ∧ outcomeStands t w.survey.origin w.survey.claim (if w.survey.clampNote then .clamped else .ok) 0 (s.block + 1))

/-- The checks of the cues in their order: a cue that fails one changes nothing but its own outcome, with the result and
detail of the first check that fails; a call taken with no bank LIVE is FAULTED NO_BANK whatever its kind; an adoption that
ended at this block start is counted as in progress as log 11 says (R106, R108, R110, R116, R127, R135, R166, R167,
R173). -/
def Obligations.CueChecksFault : Prop :=
  ∀ (s : State) (item : CueItem),
    let faults := fun (c : Instr) (code : ResultCode) (detail : Nat) =>
      exec c s = .next (s.outcome item.origin item.claim code detail)
    (∀ body, namedBank body = if bodyWord body 22 = 0 then some .bankA else if bodyWord body 22 = 1 then some .bankB
      else none)
    ∧ (item.body = none → ∀ c ∈ [Instr.sourceSet item, .zoneSet item, .scenePush item, .scenePop item,
        .sceneClear item, .bankAdopt item, .surveyStart item, .surveyAbort item, .badKind item], faults c .noBank 0)
    ∧ ∀ body, item.body = some body →
        (s.running = false → ∀ c ∈ [Instr.sourceSet item, .zoneSet item, .scenePush item, .scenePop item,
            .sceneClear item, .surveyStart item, .badKind item], faults c .noBank 0)
        ∧ (s.running = true →
            (present body 2 = true → 2 < (bodyWord body 11).toNat →
              faults (.sourceSet item) .badField 11 ∧ faults (.scenePush item) .badField 11)
            ∧ ((present body 2 = true → (bodyWord body 11).toNat ≤ 2) → bodyWord body 7 = 0 →
                faults (.sourceSet item) .badTarget 0)
            ∧ (present body 9 = true → 3 < (bodyWord body 19).toNat →
                faults (.zoneSet item) .badField 19
                ∧ ((present body 2 = true → (bodyWord body 11).toNat ≤ 2) → faults (.scenePush item) .badField 19))
            ∧ ((present body 9 = true → (bodyWord body 19).toNat ≤ 3) → bodyWord body 7 = 0 →
                (bodyWord body 8).toNat % 256 = 0 → faults (.zoneSet item) .badTarget 0)
            ∧ ((present body 2 = true → (bodyWord body 11).toNat ≤ 2) →
                (present body 9 = true → (bodyWord body 19).toNat ≤ 3) →
                let sourceMissed := (∃ b, b < 7 ∧ present body b = true) ∧ bodyWord body 21 = 0
                let zoneMissed := (∃ b, 7 ≤ b ∧ b ≤ 10 ∧ present body b = true)
                  ∧ bodyWord body 7 = 0 ∧ (bodyWord body 8).toNat % 256 = 0
                (sourceMissed ∨ zoneMissed → faults (.scenePush item) .badTarget 0)
                ∧ (¬sourceMissed → ¬zoneMissed → 4 ≤ s.scenes.length → faults (.scenePush item) .stackFull 0))
            ∧ (s.scenes = [] → faults (.scenePop item) .stackEmpty 0)
            ∧ ((present body 0 = false ∨ 23 < (bodyWord body 23).toNat) → faults (.surveyStart item) .badTarget 0)
            ∧ (present body 0 = true → (bodyWord body 23).toNat ≤ 23 →
                (s.surveying = true ∨ s.adoption ≠ none ∨ s.marks.adoptionEnded = true) →
                faults (.surveyStart item) .busy 0)
            ∧ faults (.badKind item) .badKind (bodyWord body 1).toNat)
        ∧ (present body 0 = true → 1 < (bodyWord body 22).toNat → faults (.bankAdopt item) .badField 22)
        ∧ (present body 0 = false → faults (.bankAdopt item) .badTarget 0)
        ∧ (∀ bank, present body 0 = true → namedBank body = some bank → s.liveBank = some bank →
            faults (.bankAdopt item) .badTarget 0)
        ∧ (∀ bank, present body 0 = true → namedBank body = some bank → s.liveBank ≠ some bank →
            (s.adoption ≠ none ∨ (s.marks.adoptionEnded = true ∧ s.marks.resetHere = false) ∨ s.surveying = true) →
            faults (.bankAdopt item) .busy 0)
        ∧ (s.surveying = false → faults (.surveyAbort item) .notRunning 0)

/-- INTAKE_SWEEP: the next examinations of the block's sweep of 33, from whatever place it has reached: CALL first, then the
slots in ascending order. A pending call and every POSTED slot among those examined is taken, its body copied: the call goes
to the head of the take list, the slots to its end in ascending order; a taken slot reads TAKEN and CALL reads IN_PROGRESS;
under a hold nothing is taken, and during a survey only SURVEY_ABORT. Everything else stays (R163, R164, R173). BLOCK_START
does what it does after the sweep has been finished: it finishes a sweep that commands have left unfinished (log 2). -/
def Obligations.IntakeSweepTakesPosted : Prop :=
  (∀ (n : Nat) (s : State), s.mem.wf → s.sweepPos ≤ 33 →
    let examined := fun (place : Nat) => s.sweepPos ≤ place ∧ place < s.sweepPos + n
    let kindTaken := fun (kind : Nat) => s.hold = .takeAll ∨ (s.hold = .abortOnly ∧ kind = 8)
    let callTaken := examined 0 ∧ s.port.callPending = true ∧ kindTaken s.calledKind
    let slotTaken := fun (k : Fin 32) =>
      examined (k.val + 1) ∧ s.word (slotBase k) = 1 ∧ kindTaken (s.word (slotBase k + 1)).toNat
    let itemOf := fun (k : Fin 32) => ({ origin := .slot k, claim := false, body := some (s.slotBody k) } : CueItem)
    ∃ t, exec (.intakeSweep n) s = .next t ∧ t.sweepPos = min 33 (s.sweepPos + n)
      ∧ (callTaken → t.port = { s.port with callPending := false, callResult := 15 })
      ∧ (¬callTaken → t.port = s.port)
      ∧ (∀ k, slotTaken k → t.word (slotBase k) = 2) ∧ (∀ k, ¬slotTaken k → t.word (slotBase k) = s.word (slotBase k))
      ∧ (∀ a, (∀ k, a ≠ slotBase k) → t.word a = s.word a)
      ∧ t.takeList = (if callTaken then [{ origin := .call, claim := true, body := s.calledBody }] else [])
          ++ s.takeList ++ ((List.finRange 32).filter (fun k => slotTaken k)).map itemOf
      ∧ { t with mem := s.mem, port := s.port, takeList := s.takeList, sweepPos := s.sweepPos } = s)
  ∧ (∀ s : State, s.calledBody = s.adopted.map (fun b => b.call s.port.callNumber)
    ∧ s.calledKind = (match s.calledBody with
        | none => 0
        | some body => (bodyWord body 1).toNat)
    ∧ ∀ (k : Fin 32) (w : Nat), w < 32 → w = 1 ∨ 6 ≤ w → bodyWord (s.slotBody k) w = s.word (slotBase k + w))
  ∧ ∀ (r : BlockRaces) (s : State), s.sweepPos ≤ 33 →
    ∃ t, exec (.intakeSweep 33) s = .next t ∧ exec (.blockStart r) s = exec (.blockStart r) t

/-- SOURCE_SET: every named source takes the present fields, clamped, and no other source does; a changed force mode acts
on its gate, and a LAST gate gives way to a FORCED_OPEN one; NOM is counted; the outcome is OK, or CLAMPED with the count
over the named sources; a moved source has the target delays of its entries computed and placed again, and the list
rebuilt at once, or after the survey in progress; the targets are composed (R17, R42, R50, R61, R62, R82, R168, R170). Sent
alone it serves a rebuild asked for before it too, and brings NOM, the compositions and the hold decision (log 12, log 18).
What a present field becomes, and
which values count a clamp, are spelled out by the table of R168: a fader of -32768 OFF without a clamp, -32767..-193 OFF
and above +24 +24 with one, bits above 7 to 7, a position to 2047 and 1023 as one clamp, flags on when not zero. -/
def Obligations.SourceSetAppliesFields : Prop :=
  sourceFieldsByTable
  ∧ (∀ (mode : ForceMode) (g : GateState), forcedGate mode g = match mode, g with
      | _, .lost => .lost
      | .opened, _ => .forcedOpen
      | .closed, _ => .forcedClosed
      | .auto, .forcedOpen => .closed
      | .auto, .forcedClosed => .closed
      | .auto, g => g)
  ∧ ∀ (item : CueItem) (body : List Word) (s : State), s.mem.wf → s.running = true → item.body = some body →
    (present body 2 = true → (bodyWord body 11).toNat ≤ 2) → bodyWord body 7 ≠ 0 →
    let mix := fun i => if namesSource (bodyWord body 7) i then applySourceFields body (s.source i).mix
      else (s.source i).mix
    let pos := fun i => if namesSource (bodyWord body 7) i then applyPosition body (s.source i).pos
      else (s.source i).pos
    let gate := fun i => if (mix i).force = (s.source i).mix.force then (s.source i).gate
      else forcedGate (mix i).force (s.source i).gate
    let clamps := (allSources.filter (fun i => namesSource (bodyWord body 7) i)).length * sourceClamps body
    ∃ t, exec (.sourceSet item) s = .next t
      ∧ (∀ i, t.source i = { s.source i with
          mix := mix i, pos := pos i
          gate := if gate i = .last ∧ ∃ j, gate j = .forcedOpen then .closed else gate i
          holdCount := if (mix i).force = (s.source i).mix.force ∨ gate i = .hold then (s.source i).holdCount else 0 })
      ∧ t.nom = t.countedGates
      ∧ outcomeShown s t item (if clamps = 0 then .ok else .clamped) clamps [.routeFull]
      ∧ settledFrom s t (allSources.any (fun i => pos i ≠ (s.source i).pos))
      ∧ ((∀ i, pos i = (s.source i).pos) → s.rebuild = .none →
          t.routes.map (fun e => (e.pair, e.lifecycle, e.motion, e.delay, e.targetDelay, e.gain))
            = s.routes.map (fun e => (e.pair, e.lifecycle, e.motion, e.delay, e.targetDelay, e.gain)))
      ∧ (∀ e ∈ s.routes, ∃ e' ∈ t.routes, e'.pair = e.pair ∧ e'.delay = e.delay ∧ e'.gain = e.gain
          ∧ (pos e.pair.source = (s.source e.pair.source).pos →
              e'.motion = e.motion ∧ e'.targetDelay = e.targetDelay ∧ e'.floorFlag = e.floorFlag
              ∧ e'.ceilFlag = e.ceilFlag)
          ∧ (pos e.pair.source ≠ (s.source e.pair.source).pos →
              let target := t.targetDelayOf e.pair
              e'.floorFlag = target.floorFlag ∧ e'.ceilFlag = target.ceilFlag
              ∧ (e.motion.isFading = false → e'.targetDelay = target.delay ∧ e'.motion = e.motion)
              ∧ ∀ destination k n pendingTarget, e.motion = .fading destination k n pendingTarget →
                  e'.targetDelay = e.targetDelay
                  ∧ e'.motion = .fading destination k n (if target.delay = destination then none else some target.delay)))
      ∧ portElse s t
      ∧ { t with sources := s.sources, nom := s.nom, routes := s.routes, admitted := s.admitted,
                 unserved := s.unserved, rebuild := s.rebuild, hold := s.hold, mem := s.mem, port := s.port } = s

/-- ZONE_SET: every named zone takes the present fields, clamped, and no other zone does; the outcome is OK, or CLAMPED
with the count over the named zones; no admission and no delay changes, and the targets are composed (R82). Sent alone it
serves a rebuild asked for before it, and brings NOM, the compositions and the hold decision (log 12, log 18). What a present field becomes, and which values count
a clamp, are spelled out by the table of R169: a level as R168's fader, a duck number above 7 to 7, a mute on when not zero,
a duck mode as written (R159, R169, R170). -/
def Obligations.ZoneSetAppliesFields : Prop :=
  zoneFieldsByTable
  ∧ ∀ (item : CueItem) (body : List Word) (s : State), s.mem.wf → s.running = true → item.body = some body →
    (present body 9 = true → (bodyWord body 19).toNat ≤ 3) →
    (bodyWord body 7 ≠ 0 ∨ (bodyWord body 8).toNat % 256 ≠ 0) → s.nomCounts → s.lastAlone →
    let named := fun z => namesZone (bodyWord body 7) (bodyWord body 8) z
    let clamps := (allZones.filter (fun z => named z)).length * zoneClamps body
    ∃ t, exec (.zoneSet item) s = .next t
      ∧ (∀ z, t.zone z = { s.zone z with
          mix := if named z then applyZoneFields body (s.zone z).mix else (s.zone z).mix })
      ∧ outcomeShown s t item (if clamps = 0 then .ok else .clamped) clamps [.routeFull]
      ∧ (∀ i, t.source i = s.source i) ∧ t.nom = s.nom ∧ settledFrom s t false
      ∧ (s.rebuild = .none →
          t.routes.map (fun e => (e.pair, e.lifecycle, e.motion, e.delay, e.targetDelay, e.gain))
            = s.routes.map (fun e => (e.pair, e.lifecycle, e.motion, e.delay, e.targetDelay, e.gain)))
      ∧ (∀ e ∈ s.routes, ∃ e' ∈ t.routes, entryStands e e') ∧ portElse s t
      ∧ { t with zones := s.zones, sources := s.sources, nom := s.nom, routes := s.routes, admitted := s.admitted,
                 unserved := s.unserved, rebuild := s.rebuild, hold := s.hold, mem := s.mem, port := s.port } = s

/-- SCENE_PUSH: the operating mix as it stood goes on top of the stack, and then the parts are set as SOURCE_SET and
ZONE_SET would set them: a changed force mode acts on its gate and a LAST gate gives way to a FORCED_OPEN one, and a moved
source has its target delays placed again and the list rebuilt, at once or after the survey in progress; the targets are
composed; fields and clamps are those of the tables of R168 and R169, spelled out (R17, R42, R50, R61, R82, R107, R168 to
R170). Sent alone it serves a rebuild asked for before it too, and brings NOM, the compositions and the hold decision
(log 12, log 18). -/
def Obligations.ScenePushSavesThenSets : Prop :=
  sourceFieldsByTable ∧ zoneFieldsByTable
  ∧ ∀ (item : CueItem) (body : List Word) (s : State), s.mem.wf → s.running = true → item.body = some body →
    (present body 2 = true → (bodyWord body 11).toNat ≤ 2) → (present body 9 = true → (bodyWord body 19).toNat ≤ 3) →
    ((∃ b, b < 7 ∧ present body b = true) → bodyWord body 21 ≠ 0) →
    ((∃ b, 7 ≤ b ∧ b ≤ 10 ∧ present body b = true) →
      bodyWord body 7 ≠ 0 ∨ (bodyWord body 8).toNat % 256 ≠ 0) → s.scenes.length < 4 →
    let namedS := fun i => namesSource (bodyWord body 21) i
    let mix := fun i => if namedS i then applySourceFields body (s.source i).mix else (s.source i).mix
    let pos := fun i => if namedS i then applyPosition body (s.source i).pos else (s.source i).pos
    let gate := fun i => if (mix i).force = (s.source i).mix.force then (s.source i).gate
      else forcedGate (mix i).force (s.source i).gate
    let namedZ := fun z => namesZone (bodyWord body 7) (bodyWord body 8) z
    let clamps := (allSources.filter (fun i => namedS i)).length * sourceClamps body
      + (allZones.filter (fun z => namedZ z)).length * zoneClamps body
    ∃ t, exec (.scenePush item) s = .next t
      ∧ t.scenes = { sources := s.sources.map (·.mix), zones := s.zones.map (·.mix) } :: s.scenes
      ∧ (∀ i, t.source i = { s.source i with
          mix := mix i, pos := pos i
          gate := if gate i = .last ∧ ∃ j, gate j = .forcedOpen then .closed else gate i
          holdCount := if (mix i).force = (s.source i).mix.force ∨ gate i = .hold then (s.source i).holdCount else 0 })
      ∧ settledFrom s t (allSources.any (fun i => pos i ≠ (s.source i).pos))
      ∧ (((∀ i, pos i = (s.source i).pos) → s.rebuild = .none →
            t.routes.map (fun e => (e.pair, e.lifecycle, e.motion, e.delay, e.targetDelay, e.gain))
              = s.routes.map (fun e => (e.pair, e.lifecycle, e.motion, e.delay, e.targetDelay, e.gain)))
        ∧ (∀ e ∈ s.routes, ∃ e' ∈ t.routes, e'.pair = e.pair ∧ e'.delay = e.delay ∧ e'.gain = e.gain
            ∧ (pos e.pair.source = (s.source e.pair.source).pos →
                e'.motion = e.motion ∧ e'.targetDelay = e.targetDelay ∧ e'.floorFlag = e.floorFlag
                ∧ e'.ceilFlag = e.ceilFlag)
            ∧ (pos e.pair.source ≠ (s.source e.pair.source).pos →
                let target := t.targetDelayOf e.pair
                e'.floorFlag = target.floorFlag ∧ e'.ceilFlag = target.ceilFlag
                ∧ (e.motion.isFading = false → e'.targetDelay = target.delay ∧ e'.motion = e.motion)
                ∧ ∀ destination k n pendingTarget, e.motion = .fading destination k n pendingTarget →
                    e'.targetDelay = e.targetDelay
                    ∧ e'.motion = .fading destination k n (if target.delay = destination then none else some target.delay))))
      ∧ (∀ z, t.zone z = { s.zone z with
          mix := if namedZ z then applyZoneFields body (s.zone z).mix else (s.zone z).mix })
      ∧ t.nom = t.countedGates
      ∧ outcomeShown s t item (if clamps = 0 then .ok else .clamped) clamps [.routeFull] ∧ portElse s t
      ∧ { t with scenes := s.scenes, zones := s.zones, sources := s.sources, nom := s.nom, routes := s.routes,
                 admitted := s.admitted, unserved := s.unserved, rebuild := s.rebuild, hold := s.hold,
                 mem := s.mem, port := s.port } = s

/-- SCENE_POP: the top scene replaces every mix field it holds and leaves the stack; positions stay; a force mode it
changes acts on its gate, and its hold counter stays only where the gate stays in HOLD; a LAST gate goes to CLOSED exactly
if a gate is then FORCED_OPEN; no admission and no delay changes, and the targets are composed (R17, R82, R108, R109). Sent
alone it serves a rebuild asked for before it, and brings NOM, the compositions and the hold decision (log 12, log 18). -/
def Obligations.ScenePopRestoresMix : Prop :=
  ∀ (item : CueItem) (body : List Word) (scene : Scene) (rest : List Scene) (s : State), s.mem.wf →
    s.running = true → item.body = some body → s.scenes = scene :: rest → scene.sources.length = 16 →
    scene.zones.length = 24 →
    let mix := fun i : Fin 16 => scene.sources.getD i.val (s.source i).mix
    let gate := fun i => if (mix i).force = (s.source i).mix.force then (s.source i).gate
      else forcedGate (mix i).force (s.source i).gate
    ∃ t, exec (.scenePop item) s = .next t ∧ t.scenes = rest
      ∧ (∀ i, t.source i = { s.source i with
          mix := mix i
          gate := if gate i = .last ∧ ∃ j, gate j = .forcedOpen then .closed else gate i
          holdCount := if (mix i).force = (s.source i).mix.force ∨ gate i = .hold then (s.source i).holdCount else 0 })
      ∧ (∀ (z : Fin 24) (m : ZoneMix), scene.zones[z.val]? = some m → t.zone z = { s.zone z with mix := m })
      ∧ t.nom = t.countedGates ∧ outcomeShown s t item .ok 0 [.routeFull] ∧ settledFrom s t false
      ∧ (s.rebuild = .none →
          t.routes.map (fun e => (e.pair, e.lifecycle, e.motion, e.delay, e.targetDelay, e.gain))
            = s.routes.map (fun e => (e.pair, e.lifecycle, e.motion, e.delay, e.targetDelay, e.gain)))
      ∧ (∀ e ∈ s.routes, ∃ e' ∈ t.routes, entryStands e e') ∧ portElse s t
      ∧ { t with scenes := s.scenes, zones := s.zones, sources := s.sources, nom := s.nom, routes := s.routes,
                 admitted := s.admitted, unserved := s.unserved, rebuild := s.rebuild, hold := s.hold, mem := s.mem,
                 port := s.port } = s

/-- SCENE_CLEAR: in NO_BANK it is FAULTED NO_BANK; otherwise every scene is discarded and it is DONE with OK, on an empty
stack too; the operating mix, the gates and the routes are not touched, and its body beyond its kind is not read. -/
def Obligations.SceneClearEmptiesStack : Prop :=
  ∀ (item : CueItem) (body : List Word) (s : State), s.mem.wf → item.body = some body →
    ∃ t, exec (.sceneClear item) s = .next t
      ∧ (s.running = false → t.scenes = s.scenes ∧ outcomeShown s t item .noBank 0 [])
      ∧ (s.running = true → t.scenes = [] ∧ outcomeShown s t item .ok 0 [])
      ∧ (∀ body', exec (.sceneClear { item with body := some body' }) s = exec (.sceneClear item) s)
      ∧ portElse s t ∧ { t with scenes := s.scenes, mem := s.mem, port := s.port } = s

/-- BANK_ADOPT: an accepted cue writes the bank ADOPTING with its header cleared, empties the staging copy and begins
validation with part 0; the cue has no outcome yet, and nothing else changes (R136). -/
def Obligations.BankAdoptBeginsAdoption : Prop :=
  ∀ (item : CueItem) (body : List Word) (bank : BankId) (s : State), s.mem.wf → item.body = some body →
    present body 0 = true → bodyWord body 22 = (if bank = .bankA then 0 else 1) → s.liveBank ≠ some bank →
    s.adoption = none → s.marks.adoptionEnded = false → s.surveying = false →
    ∃ t, exec (.bankAdopt item) s = .next t
      ∧ t.adoption = some { bank := bank, part := 0, staging := [], clampCount := 0, firstClamp := 0,
                            illegal := none, origin := item.origin, claim := item.claim }
      ∧ (∀ a, t.word a = if a = bankBase bank then 1
          else if bankBase bank < a ∧ a ≤ bankBase bank + 4 then 0 else s.word a)
      ∧ { t with mem := s.mem, adoption := s.adoption } = s

/-- SURVEY_START: an accepted cue takes each parameter from the cue, clamped, or from the live bank's defaults, sets the
clamp note exactly if a value of the cue lies outside its range, enters MUTING with the counter at 0, writes the header
RUNNING and every record UNMEASURED, and leaves its own outcome for the end; every entry's target gain becomes OFF, and a
rebuild asked for before it waits for the survey's end (R50, R93, R117, R118). Sent alone it also releases a LAST gate beside
a FORCED_OPEN one, counts NOM and has the hold decision made again (log 12, log 18). -/
def Obligations.SurveyStartEntersMuting : Prop :=
  ∀ (item : CueItem) (body : List Word) (b : Bank) (s : State), s.mem.wf → s.adopted = some b →
    item.body = some body → present body 0 = true → (bodyWord body 23).toNat ≤ 23 → s.surveying = false →
    s.adoption = none → s.marks.adoptionEnded = false → s.rebuild ≠ .forced →
    ∃ t, exec (.surveyStart item) s = .next t ∧ t.survey.phase = .muting ∧ t.survey.counter = 0
      ∧ t.survey.zone.val = (bodyWord body 23).toNat ∧ t.survey.origin = item.origin ∧ t.survey.claim = item.claim
      ∧ t.survey.probeCode
          = (if present body 1 then max (-120) (min (-12) (bodyWord body 24).toInt) else b.globals.probeCode)
      ∧ t.survey.quiet = (if present body 2 then max 64 (min 4096 (bodyWord body 25).toNat) else b.globals.quiet)
      ∧ t.survey.settle = (if present body 3 then max 64 (min 4096 (bodyWord body 26).toNat) else b.globals.settle)
      ∧ t.survey.measure = (if present body 4 then max 64 (min 4096 (bodyWord body 27).toNat) else b.globals.measure)
      ∧ t.survey.tail = (if present body 5 then min 8192 (bodyWord body 28).toNat else b.globals.tail)
      ∧ (t.survey.clampNote = true ↔
          (present body 1 = true ∧ ¬(-120 ≤ (bodyWord body 24).toInt ∧ (bodyWord body 24).toInt ≤ -12))
          ∨ (∃ p ∈ [(2, 25), (3, 26), (4, 27)], present body p.1 = true
              ∧ ¬(64 ≤ (bodyWord body p.2).toNat ∧ (bodyWord body p.2).toNat ≤ 4096))
          ∨ (present body 5 = true ∧ 8192 < (bodyWord body 28).toNat))
      ∧ t.word 0x2800 = 1 ∧ t.word 0x2801 = bodyWord body 23 ∧ t.word 0x2802 = signedWord t.survey.probeCode
      ∧ t.word 0x2803 = natWord t.survey.quiet ∧ t.word 0x2804 = natWord t.survey.settle
      ∧ t.word 0x2805 = natWord t.survey.measure ∧ t.word 0x2806 = natWord t.survey.tail
      ∧ t.word 0x2807 = blockLow s.block ∧ t.word 0x2808 = blockHigh s.block
      ∧ (∀ i : Fin 16, t.word (0x2810 + 4 * i.val) = 0 ∧ t.word (0x2811 + 4 * i.val) = 0x8000
          ∧ t.word (0x2812 + 4 * i.val) = 0x8000 ∧ t.word (0x2813 + 4 * i.val) = 0x7FFF)
      ∧ (∀ a, a < 0x2800 ∨ a = 0x2809 ∨ a = 0x280A ∨ 0x2850 ≤ a → t.word a = s.word a)
      ∧ (∀ e ∈ t.routes, e.targetGain = .off ∧ e.ceilingLimited = false ∧ e.ducked = false)
      ∧ t.routes.map (fun e => (e.pair, e.lifecycle, e.motion, e.delay, e.targetDelay, e.gain))
        = s.routes.map (fun e => (e.pair, e.lifecycle, e.motion, e.delay, e.targetDelay, e.gain))
      ∧ t.port = s.port ∧ t.admitted = s.admitted ∧ t.unserved = s.unserved ∧ t.zones = s.zones
      ∧ settledFrom s t false ∧ (∀ e ∈ s.routes, ∃ e' ∈ t.routes, entryStands e e')
      ∧ (s.sources.length = 16 → ∀ i, t.source i = { s.source i with
          gate := if (s.source i).gate = .last ∧ ∃ j, (s.source j).gate = .forcedOpen then .closed
            else (s.source i).gate })
      ∧ { t with mem := s.mem, survey := s.survey, sources := s.sources, nom := s.nom, routes := s.routes,
                 hold := s.hold, marks := s.marks } = s
      ∧ t.marks = { s.marks with surveyBegan := true }

/-- SURVEY_ABORT: a survey in progress ends at once: the phase is IDLE, the header ABORTED with the end block number, the
records and the mix stay, the probe is not sent in the block that begins, the SURVEY_START's result is ABORTED and the
abort's own is OK, SURVEY is raised, and the list is rebuilt. Both cues may be of one origin: where both came by CALL and a
port initialise has cleared the survey's claim, CALL gets the abort's own result alone (R176). Every other word of memory
and every other notice stays (R51, R127, R170, R174). Which probe block is discarded where the survey began at the block
start after another survey's PROBE block, only one of the same zone, is the model's choice (log 13, fourth item), and so are
the claim it clears and what else an ended survey keeps (log 27), and what the command sent alone brings (log 12, log 18). -/
def Obligations.SurveyAbortEndsSurvey : Prop :=
  ∀ (item : CueItem) (body : List Word) (s : State), s.mem.wf → item.body = some body → s.surveying = true →
    s.running = true → s.zones.length = 24 →
    ∃ t, exec (.surveyAbort item) s = .next t ∧ t.survey.phase = .idle ∧ t.survey.claim = false
      ∧ t.word 0x2800 = 3 ∧ t.word 0x2809 = blockLow s.block ∧ t.word 0x280A = blockHigh s.block
      ∧ (∀ a, a ∉ [0x2800, 0x2809, 0x280A] →
          (∀ k, item.origin = .slot k ∨ s.survey.origin = .slot k → a ∉ outcomeAddrs k) → t.word a = s.word a)
      ∧ (s.marks.probedZone = some s.survey.zone →
          t.zone s.survey.zone = { s.zone s.survey.zone with waiting := List.replicate 48 0 }
          ∧ ∀ z, z ≠ s.survey.zone → t.zone z = s.zone z)
      ∧ (s.marks.probedZone ≠ some s.survey.zone → t.zones = s.zones)
      ∧ (∀ i, (t.source i).mix = (s.source i).mix ∧ (t.source i).pos = (s.source i).pos)
      ∧ t.noticed .survey = true ∧ settledFrom s t true ∧ (∀ e ∈ s.routes, ∃ e' ∈ t.routes, entryStands e e')
      ∧ (∀ k, item.origin = .slot k →
          t.word (slotBase k) = 3 ∧ t.word (slotBase k + 2) = 0 ∧ t.word (slotBase k + 3) = 0
          ∧ t.word (slotBase k + 4) = blockLow s.block ∧ t.word (slotBase k + 5) = blockHigh s.block
          ∧ t.noticed .cue = true)
      ∧ (∀ k, s.survey.origin = .slot k → item.origin ≠ .slot k →
          t.word (slotBase k) = 4 ∧ t.word (slotBase k + 2) = 12 ∧ t.word (slotBase k + 3) = 0
          ∧ t.word (slotBase k + 4) = blockLow s.block ∧ t.word (slotBase k + 5) = blockHigh s.block
          ∧ t.noticed .cue = true)
      ∧ t.port.callResult
        = (if item.origin = .call ∧ item.claim = true then 0
          else if s.survey.origin = .call ∧ s.survey.claim = true then 12 else s.port.callResult)
      ∧ (item.origin = .call ∧ item.claim = true ∨ s.survey.origin = .call ∧ s.survey.claim = true →
          t.noticed .call = true)
      ∧ noticesElse s t [.survey, .cue, .call, .routeFull] ∧ portElse s t
      ∧ { t with mem := s.mem, port := s.port, sources := s.sources, zones := s.zones, nom := s.nom,
                 routes := s.routes, admitted := s.admitted, unserved := s.unserved, rebuild := s.rebuild,
                 hold := s.hold, survey := s.survey } = s

/-! ### Survey phases (R119 to R125) -/

/-- MUTING_END, QUIET_END, SETTLE_END, and MEASURE_END with tail blocks above 0: each phase goes on to the next with the
block counter at 0; QUIET begins with sums and lost notes cleared, PROBE with the LFSR at its seed. Of the first three
nothing else changes; MEASURE_END sent alone also brings what log 12 and log 18 say (LAST released, NOM counted, targets
composed, the hold decision), and leaves memory, the port, the zones and the rest of the entries (R119 to R122). At a block
start with no reset and no cue the block that has ended is added to the survey: its squares to the quiet or the probe sums,
its lost blocks to the lost notes, one to the block counter, 48 steps to the LFSR in PROBE; and the phase goes on where its
window has ended (R119 to R123). The counter stays 0 through MUTING (log 28); what an ended survey keeps of itself, and that
its claim is cleared, is the model's choice (log 27). -/
def Obligations.SurveyPhasesAdvance : Prop :=
  (∀ s : State,
    (s.survey.phase = .muting → s.marks.surveyBegan = false → (∀ e ∈ s.routes, e.gain = .off) →
      ∃ t, exec .mutingEnd s = .next t ∧ t.survey = { s.survey with
          phase := .quiet, counter := 0, quietSums := List.replicate 16 0, probeSums := List.replicate 16 0,
          lostNotes := List.replicate 16 false }
        ∧ { t with survey := s.survey } = s)
    ∧ (s.survey.phase = .quiet → s.survey.counter = s.survey.quiet →
      ∃ t, exec .quietEnd s = .next t
        ∧ t.survey = { s.survey with phase := .probeSettle, counter := 0, lfsr := 0xACE1 }
        ∧ { t with survey := s.survey } = s)
    ∧ (s.survey.phase = .probeSettle → s.survey.counter = s.survey.settle →
      ∃ t, exec .settleEnd s = .next t ∧ t.survey = { s.survey with phase := .probeMeasure, counter := 0 }
        ∧ { t with survey := s.survey } = s)
    ∧ (s.survey.phase = .probeMeasure → s.survey.counter = s.survey.measure → s.survey.tail ≠ 0 → s.rebuild = .none →
      ∃ t, exec .measureEnd s = .next t ∧ t.survey = { s.survey with phase := .tail, counter := 0 }
        ∧ settledFrom s t false ∧ t.mem = s.mem ∧ t.port = s.port ∧ t.zones = s.zones ∧ t.admitted = s.admitted
        ∧ t.unserved = s.unserved
        ∧ t.routes.map (fun e => (e.pair, e.lifecycle, e.motion, e.delay, e.targetDelay, e.gain))
          = s.routes.map (fun e => (e.pair, e.lifecycle, e.motion, e.delay, e.targetDelay, e.gain))))
  ∧ ∀ (r : BlockRaces) (s : State), s.port.resetRequest = false → s.sweepPos = 33 → s.takeList = [] →
    let v := s.survey
    let heard := fun sums : List Nat =>
      allSources.map (fun i => sums.getD i.val 0 + squareSum ((s.source i).line.take 48))
    let notes := allSources.map (fun i => v.lostNotes.getD i.val false || (s.link (linkOf i)).lostInBlock)
    let quiet := { v with quietSums := heard v.quietSums, lostNotes := notes, counter := v.counter + 1 }
    let settle := { v with lostNotes := notes, counter := v.counter + 1, lfsr := lfsrSteps 48 v.lfsr }
    let measure := { settle with probeSums := heard v.probeSums }
    ∃ t, exec (.blockStart r) s = .next t
      ∧ (v.phase = .idle → t.survey = v)
      ∧ (v.phase = .muting → (∃ e ∈ t.routes, e.gain ≠ .off) → t.survey = v)
      ∧ (v.phase = .muting → (∀ e ∈ t.routes, e.gain = .off) → t.survey = { v with
          phase := .quiet, counter := 0, quietSums := List.replicate 16 0, probeSums := List.replicate 16 0,
          lostNotes := List.replicate 16 false })
      ∧ (v.phase = .quiet → v.counter + 1 < v.quiet → t.survey = quiet)
      ∧ (v.phase = .quiet → v.quiet ≤ v.counter + 1 →
          t.survey = { quiet with phase := .probeSettle, counter := 0, lfsr := 0xACE1 })
      ∧ (v.phase = .probeSettle → v.counter + 1 < v.settle → t.survey = settle)
      ∧ (v.phase = .probeSettle → v.settle ≤ v.counter + 1 → 0 < v.measure →
          t.survey = { settle with phase := .probeMeasure, counter := 0 })
      ∧ (v.phase = .probeMeasure → v.counter + 1 < v.measure → t.survey = measure)
      ∧ (v.phase = .probeMeasure → v.measure ≤ v.counter + 1 → v.tail ≠ 0 →
          t.survey = { measure with phase := .tail, counter := 0 })
      ∧ (v.phase = .probeMeasure → v.measure ≤ v.counter + 1 → v.tail = 0 →
          t.survey = { measure with phase := .idle, claim := false })
      ∧ (v.phase = .tail → v.counter + 1 < v.tail → t.survey = { v with counter := v.counter + 1 })
      ∧ (v.phase = .tail → v.tail ≤ v.counter + 1 →
          t.survey = { v with counter := v.counter + 1, phase := .idle, claim := false })

/-- A survey completes, by SURVEY_COMPLETE at the end of TAIL or by MEASURE_END when tail blocks is 0: each record has its
levels over the whole windows, its status and its coupling; the header reads COMPLETE; the phase is IDLE; the list is
rebuilt; the SURVEY_START has its result, CLAMPED if the clamp note is set; SURVEY is raised (R51, R121, R123 to R125). That
its claim on CALL is cleared then is the model's choice (log 27), and so is what the command sent alone brings (log 12,
log 18). -/
def Obligations.SurveyCompletes : Prop :=
  ∀ (c : Instr) (s : State), s.mem.wf → s.running = true →
    (c = .surveyComplete ∧ s.survey.phase = .tail ∧ s.survey.counter = s.survey.tail
      ∨ c = .measureEnd ∧ s.survey.phase = .probeMeasure ∧ s.survey.counter = s.survey.measure
        ∧ s.survey.tail = 0) →
    let quiet := fun i : Fin 16 => levelOf (s.survey.quietSums.getD i.val 0) (48 * s.survey.quiet)
    let probe := fun i : Fin 16 => levelOf (s.survey.probeSums.getD i.val 0) (48 * s.survey.measure)
    ∃ t, exec c s = .next t ∧ t.survey.phase = .idle ∧ t.survey.claim = false
      ∧ t.word 0x2800 = 2 ∧ t.word 0x2809 = blockLow s.block ∧ t.word 0x280A = blockHigh s.block
      ∧ (∀ a, 0x2800 < a → a < 0x2809 → t.word a = s.word a)
      ∧ (∀ i : Fin 16, t.word (0x2811 + 4 * i.val) = signedWord (quiet i)
          ∧ t.word (0x2812 + 4 * i.val) = signedWord (probe i)
          ∧ (s.survey.lostNotes.getD i.val false = true →
              t.word (0x2810 + 4 * i.val) = 3 ∧ t.word (0x2813 + 4 * i.val) = 0x7FFF)
          ∧ (s.survey.lostNotes.getD i.val false = false →
              t.word (0x2810 + 4 * i.val) = (if 20 ≤ probe i - quiet i then 1 else 2)
              ∧ t.word (0x2813 + 4 * i.val) = signedWord (probe i - s.survey.probeCode)))
      ∧ t.noticed .survey = true ∧ settledFrom s t true ∧ (∀ e ∈ s.routes, ∃ e' ∈ t.routes, entryStands e e')
      ∧ (∀ k, s.survey.origin = .slot k → t.word (slotBase k) = 3
          ∧ t.word (slotBase k + 2) = (if s.survey.clampNote then 1 else 0) ∧ t.word (slotBase k + 3) = 0
          ∧ t.word (slotBase k + 4) = blockLow s.block ∧ t.word (slotBase k + 5) = blockHigh s.block
          ∧ t.noticed .cue = true)
      ∧ (s.survey.origin = .call → s.survey.claim = true →
          t.port.callResult = (if s.survey.clampNote then 1 else 0) ∧ t.noticed .call = true)
      ∧ (s.survey.origin = .call → s.survey.claim = false → t.port.callResult = s.port.callResult)

/-- A probe sample is +A or -A by bit 0 of the LFSR, A being 8,388,607 × 10^(probe code / 40) rounded; each step moves
every bit down one place and enters the exclusive-or of bits 0, 2, 3 and 5 in bit 15; the register never holds all zeros;
several steps are taken one after another (R122). -/
def Obligations.ProbeFollowsRegister : Prop :=
  (∀ c : Int, -120 ≤ c → c ≤ -12 →
    |(probeMagnitude c : ℝ) - 8388607 * (10 : ℝ) ^ ((c : ℝ) / 40)| ≤ 1 / 2 ∧ probeMagnitude c ≤ 4204263)
  ∧ (∀ (r : Word) (j : Nat), j < 15 → (lfsrStep r).getLsbD j = r.getLsbD (j + 1))
  ∧ (∀ r : Word, (lfsrStep r).getLsbD 15
      = (r.getLsbD 0 ^^ r.getLsbD 2 ^^ r.getLsbD 3 ^^ r.getLsbD 5))
  ∧ (∀ r : Word, r ≠ 0 → lfsrStep r ≠ 0)
  ∧ (∀ (r : Word) (n : Nat), lfsrSteps 0 r = r ∧ lfsrSteps (n + 1) r = lfsrStep (lfsrSteps n r))
  ∧ ∀ (a : Nat) (r : Word) (n i : Nat), a ≤ 8388607 → i < n →
      ((probeSamples a n r).getD i 0).toInt = (if (lfsrSteps i r).getLsbD 0 then -(a : Int) else a)

/-! ### Banks (R131 to R146) -/

/-- BANK_REJECT: an adoption that has found an illegal field ends: the bank is in EDIT with its clamp count, reason and
address, the BANK_ADOPT is FAULTED BANK_INVALID with the address, BANK is raised, and the engine stays as it was
(R139). -/
def Obligations.BankRejectReopensBank : Prop :=
  ∀ (a : Adoption) (reason : RejectReason) (addr : Nat) (s : State), s.mem.wf → s.adoption = some a →
    a.illegal = some (reason, addr) →
    ∃ t, exec .bankReject s = .next t ∧ t.adoption = none ∧ t.word (bankBase a.bank) = 0
      ∧ t.word (bankBase a.bank + 1) = natWord a.clampCount ∧ t.word (bankBase a.bank + 2) = natWord a.firstClamp
      ∧ t.word (bankBase a.bank + 3) = natWord reason.code ∧ t.word (bankBase a.bank + 4) = natWord addr
      ∧ (∀ w, bankBase a.bank + 4 < w → t.word w = s.word w) ∧ t.noticed .bank = true
      ∧ (∀ k, a.origin = .slot k → t.word (slotBase k) = 4 ∧ t.word (slotBase k + 2) = 10
          ∧ t.word (slotBase k + 3) = natWord addr ∧ t.word (slotBase k + 4) = blockLow s.block
          ∧ t.word (slotBase k + 5) = blockHigh s.block ∧ t.noticed .cue = true)
      ∧ (a.origin = .call → a.claim = true → t.port.callResult = 10 ∧ t.noticed .call = true)
      ∧ (a.origin = .call → a.claim = false → t.port.callResult = s.port.callResult)
      ∧ { t with mem := s.mem, port := s.port, adoption := s.adoption, marks := s.marks } = s

/-- SWITCH_OVER: an adoption whose eight parts are validated makes its bank LIVE with its clamp count, returns the bank
that was LIVE to EDIT, adopts the staging copy, reloads every mix field and position, rebuilds the list, composes, ends
the BANK_ADOPT with OK or CLAMPED, and raises BANK; the scene stack stays (R112, R140 to R142). Hold counters are lowered to
the new hold blocks, and the arbiter and last-on act on the gates with the new parameters (R14 to R16); the reloaded force
modes then act, and a LAST gate beside a FORCED_OPEN one closes (R17). Every entry has its target delay computed and placed
anew, and keeps its delay and gain (R61, R62). Every other word of memory, every other notice and everything else stays.
Every field of the adopted copy is read from its own offset in the staging copy, by the tables of section 9.5 (R132). Sent
alone it takes no other step of the gates, which is the model's choice (log 12). -/
def Obligations.SwitchOverInstallsBank : Prop :=
  ∀ (a : Adoption) (s : State), s.mem.wf → s.adoption = some a → a.part = 8 → a.illegal = none →
    s.liveBank ≠ some a.bank → s.surveying = false →
    let b := bankOf a.staging
    let level := fun i : Fin 16 => s.meter.lastLevels.getD i.val (-192)
    let lowered := fun i => min (s.source i).holdCount b.globals.holdBlocks
    let own : Fin 16 → GateStep := fun i => match (s.source i).gate with
      | .opened => .opened
      | .hold => if lowered i = 0 then .expiring else .hold (lowered i)
      | .last => .last
      | g => .settled g
    let placed := fun i => arbitrated b.globals.maxOpen (allSources.map own) level i
    let otherOpen : Fin 16 → Bool := fun i => allSources.any (fun j =>
      j ≠ i ∧ ((placed j).held = true ∨ placed j = .settled .forcedOpen))
    let alone : Fin 16 → Bool := fun i => allSources.all (fun j => j = i ∨ placed j ≠ .expiring)
    let evaluated : Fin 16 → GateState × Nat := fun i => match placed i with
      | .settled g => (g, 0)
      | .candidate => (.closed, 0)
      | .opened => (.opened, 0)
      | .hold c => (.hold, c)
      | .last => (if b.globals.lastOn && !otherOpen i then .last else .closed, 0)
      | .expiring => (if b.globals.lastOn && !otherOpen i && alone i then .last else .closed, 0)
    let forced : Fin 16 → GateState := fun i =>
      if (b.sourceRow i).mix.force = (s.source i).mix.force then (evaluated i).1
      else match (b.sourceRow i).mix.force, (evaluated i).1 with
        | _, .lost => .lost
        | .opened, _ => .forcedOpen
        | .closed, _ => .forcedClosed
        | .auto, .forcedOpen => .closed
        | .auto, .forcedClosed => .closed
        | .auto, g => g
    ∃ t, exec .switchOver s = .next t ∧ t.adoption = none ∧ t.running = true
      ∧ t.live = some { bank := a.bank, copy := b } ∧ bankCopied a.staging b
      ∧ t.word (bankBase a.bank) = 2 ∧ t.word (bankBase a.bank + 1) = natWord a.clampCount
      ∧ t.word (bankBase a.bank + 2) = natWord a.firstClamp ∧ t.word (bankBase a.bank + 3) = 0
      ∧ t.word (bankBase a.bank + 4) = 0
      ∧ (∀ old, s.liveBank = some old → t.word (bankBase old) = 0)
      ∧ (∀ w, (w < bankBase a.bank ∨ bankBase a.bank + 4 < w) → (∀ old, s.liveBank = some old → w ≠ bankBase old) →
          (∀ k, a.origin = .slot k → w ∉ outcomeAddrs k) → t.word w = s.word w)
      ∧ (∀ i, t.source i = { s.source i with
          mix := (b.sourceRow i).mix, pos := (b.sourceRow i).pos
          gate := if forced i = .last ∧ ∃ j, forced j = .forcedOpen then .closed else forced i
          holdCount := if forced i = .hold then (evaluated i).2 else 0 })
      ∧ (∀ z, t.zone z = { s.zone z with mix := (b.zoneRow z).mix })
      ∧ settledFrom s t true
      ∧ (∀ e ∈ s.routes, ∃ e' ∈ t.routes, e'.pair = e.pair ∧ e'.delay = e.delay ∧ e'.gain = e.gain
          ∧ (e'.lifecycle = .live ↔ e.pair ∈ t.admitted)
          ∧ (let target := t.targetDelayOf e.pair
             e'.floorFlag = target.floorFlag ∧ e'.ceilFlag = target.ceilFlag
             ∧ (e.motion.isFading = false → e'.targetDelay = target.delay ∧ e'.motion = e.motion)
             ∧ ∀ destination k n pendingTarget, e.motion = .fading destination k n pendingTarget →
                 e'.targetDelay = e.targetDelay
                 ∧ e'.motion = .fading destination k n (if target.delay = destination then none else some target.delay)))
      ∧ (∀ e' ∈ t.routes, (∃ e ∈ s.routes, e.pair = e'.pair)
          ∨ (e'.lifecycle = .live ∧ e'.gain = .off ∧ e'.motion = .steady
              ∧ e'.delay = (t.targetDelayOf e'.pair).delay ∧ e'.targetDelay = e'.delay))
      ∧ t.noticed .bank = true
      ∧ (∀ k, a.origin = .slot k → t.word (slotBase k) = 3
          ∧ t.word (slotBase k + 2) = (if a.clampCount = 0 then 0 else 1)
          ∧ t.word (slotBase k + 3) = natWord a.clampCount ∧ t.word (slotBase k + 4) = blockLow s.block
          ∧ t.word (slotBase k + 5) = blockHigh s.block ∧ t.noticed .cue = true
          ∧ t.port.callResult = s.port.callResult ∧ t.noticed .call = s.noticed .call)
      ∧ (a.origin = .call → t.noticed .cue = s.noticed .cue)
      ∧ (a.origin = .call → a.claim = true →
          t.port.callResult = (if a.clampCount = 0 then 0 else 1) ∧ t.noticed .call = true)
      ∧ (a.origin = .call → a.claim = false →
          t.port.callResult = s.port.callResult ∧ t.noticed .call = s.noticed .call)
      ∧ noticesElse s t [.bank, .cue, .call, .routeFull] ∧ portElse s t
      ∧ t.marks = { s.marks with adoptionEnded := true }
      ∧ { t with mem := s.mem, port := s.port, sources := s.sources, zones := s.zones, nom := s.nom,
                 routes := s.routes, admitted := s.admitted, unserved := s.unserved, rebuild := s.rebuild,
                 hold := s.hold, live := s.live, adoption := s.adoption, marks := s.marks } = s

/-- A word of a bank that is examined: an illegal enumeration stops validation with its reason and address; a numeric field
outside its range goes to the nearer end in the staging copy and counts as one clamp, the first of them noted, a gain below
-192 to OFF; OFF and an unmeasured coupling are values of their own; any other listed word goes into the staging copy as it
stands. Every word of a bank is of the kind and range that section 9.5, R133 and R134 give its offset, and a word they do not
list is not examined; the reject reasons have the codes of section 9.5. A block start with no reset and no cue examines one
part of 512 words in ascending address; the adoption then goes on with the next part, ends at once if a field is illegal, and
is switched over after the eighth, each field of the adopted copy read from its own offset in the staging copy (R132 to R134,
R137 to R140). That the part is examined at the end of its block is the
model's choice (log 16). -/
def Obligations.ValidationExaminesField : Prop :=
  (∀ (a : Adoption) (m : Memory) (off : Nat), a.staging.wf → a.illegal = none → off < 4096 →
    let w := m.read (bankBase a.bank + off)
    let t := a.examine m off
    let addr := bankBase a.bank + off
    let first := fun (inRange : Prop) [Decidable inRange] =>
      t.illegal = none ∧ t.clampCount = (if inRange then a.clampCount else a.clampCount + 1)
      ∧ t.firstClamp = (if ¬inRange ∧ a.clampCount = 0 then addr else a.firstClamp)
    (∀ top reason, bankField off = .enumerated top reason →
      (top < w.toNat → t = { a with illegal := some (reason, bankBase a.bank + off) })
      ∧ (w.toNat ≤ top → t.staging.read off = w ∧ t.clampCount = a.clampCount ∧ t.illegal = none))
    ∧ (∀ lo hi, bankField off = .unsigned lo hi → lo ≤ hi → hi < 65536 →
        (t.staging.read off).toNat = max lo (min hi w.toNat) ∧ t.illegal = none
        ∧ t.clampCount = (if lo ≤ w.toNat ∧ w.toNat ≤ hi then a.clampCount else a.clampCount + 1)
        ∧ t.firstClamp
          = (if ¬(lo ≤ w.toNat ∧ w.toNat ≤ hi) ∧ a.clampCount = 0 then bankBase a.bank + off else a.firstClamp))
    ∧ (bankField off = .asItStands →
        t.staging.read off = w ∧ t.clampCount = a.clampCount ∧ t.illegal = none)
    ∧ (bankField off = .gain →
        first (w = 0x8000 ∨ (-192 ≤ w.toInt ∧ w.toInt ≤ 24))
        ∧ (w.toInt < -192 → t.staging.read off = 0x8000) ∧ (24 < w.toInt → t.staging.read off = 24)
        ∧ (-192 ≤ w.toInt → w.toInt ≤ 24 → t.staging.read off = w))
    ∧ (∀ lo hi, bankField off = .signed lo hi → lo ≤ hi → -32768 ≤ lo → hi ≤ 32767 →
        (t.staging.read off).toInt = max lo (min hi w.toInt) ∧ first (lo ≤ w.toInt ∧ w.toInt ≤ hi))
    ∧ (bankField off = .coupling →
        first (w = 0x7FFF ∨ (-192 ≤ w.toInt ∧ w.toInt ≤ 192))
        ∧ (w = 0x7FFF → t.staging.read off = 0x7FFF)
        ∧ (w ≠ 0x7FFF → (t.staging.read off).toInt = max (-192) (min 192 w.toInt)))
    ∧ (bankField off = .signed (-120) (-12) ↔ off = 0x020)
    ∧ (bankField off = .signed (-512) 511 ↔ ∃ z : Fin 24, off = 0x405 + 32 * z.val)
    ∧ (bankField off = .gain ↔ (∃ i : Fin 16, off = 0x042 + 8 * i.val) ∨ ∃ z : Fin 24, off = 0x402 + 32 * z.val)
    ∧ (bankField off = .coupling ↔ 0x700 ≤ off ∧ off ≤ 0x87F)
    ∧ (bankField off = .unlisted ↔ off < 0x010 ∨ (0x024 < off ∧ off < 0x040) ∨ (0x1CF < off ∧ off < 0x200)
        ∨ (0x400 ≤ off ∧ off ≤ 0x6FF ∧ 27 < (off - 0x400) % 32) ∨ 0x87F < off)
    ∧ (bankField off = .unlisted → t = a)
    ∧ (∀ off', off' ≠ off → t.staging.read off' = a.staging.read off'))
  ∧ (List.range 21).map (fun k => bankField (0x010 + k))
    = [.unsigned 53000 61000, .unsigned 1 16, .unsigned 8 64, .unsigned 0 16, .unsigned 8 1000, .unsigned 0 60,
       .unsigned 1 16, .unsigned 0 4000, .unsigned 0 192, .asItStands, .unsigned 0 60, .asItStands, .asItStands,
       .asItStands, .asItStands, .asItStands, .signed (-120) (-12), .unsigned 64 4096, .unsigned 64 4096,
       .unsigned 64 4096, .unsigned 0 8192]
  ∧ (∀ i : Fin 16, (List.range 8).map (fun k => bankField (0x040 + 8 * i.val + k))
    = [.unsigned 0 2047, .unsigned 0 1023, .gain, .asItStands, .enumerated 2 .forceMode, .unsigned 0 7, .unsigned 0 7,
       .asItStands])
  ∧ (∀ off, 0x0C0 ≤ off → off ≤ 0x1BF → bankField off = .unsigned 0 2047)
  ∧ (∀ off, 0x1C0 ≤ off → off ≤ 0x1C7 → bankField off = .unsigned 0 7)
  ∧ (∀ off, 0x1C8 ≤ off → off ≤ 0x1CF → bankField off = .unsigned 0 192)
  ∧ (∀ off, 0x200 ≤ off → off ≤ 0x3FF → bankField off = .asItStands)
  ∧ (∀ z : Fin 24, (List.range 28).map (fun k => bankField (0x400 + 32 * z.val + k))
    = [.unsigned 0 2047, .unsigned 0 1023, .gain, .asItStands, .unsigned 0 1023, .signed (-512) 511,
       .enumerated 3 .duckMode, .unsigned 0 7, .enumerated 1 .logic,
       .asItStands, .enumerated 1 .areaSelect, .enumerated 1 .windowKind, .unsigned 0 2047, .unsigned 0 2047,
       .unsigned 0 1023, .unsigned 0 1023, .enumerated 3 .rowTable,
       .asItStands, .enumerated 1 .areaSelect, .enumerated 1 .windowKind, .unsigned 0 2047, .unsigned 0 2047,
       .unsigned 0 1023, .unsigned 0 1023, .enumerated 3 .rowTable,
       .asItStands, .enumerated 1 .areaSelect, .asItStands])
  ∧ (bankBase .bankA = 0x800 ∧ bankBase .bankB = 0x1800)
  ∧ (RejectReason.none.code = 0 ∧ RejectReason.forceMode.code = 1 ∧ RejectReason.duckMode.code = 2
    ∧ RejectReason.windowKind.code = 3 ∧ RejectReason.areaSelect.code = 4 ∧ RejectReason.logic.code = 5
    ∧ RejectReason.rowTable.code = 6)
  ∧ ∀ (r : BlockRaces) (a : Adoption) (s : State), s.port.resetRequest = false → s.sweepPos = 33 → s.takeList = [] →
    s.adoption = some a → a.part < 8 → a.illegal = none →
    let examined := (List.range 512).foldl (fun c n => c.examine s.mem (512 * a.part + n)) a
    examined = a.examined s.mem
    ∧ ∃ t, exec (.blockStart r) s = .next t
      ∧ (examined.illegal = none → a.part < 7 →
          t.adoption = some { examined with part := a.part + 1 } ∧ t.live = s.live)
      ∧ (examined.illegal = none → a.part = 7 →
          t.adoption = none ∧ ∃ copy, t.live = some { bank := a.bank, copy := copy } ∧ bankCopied examined.staging copy
            ∧ copy = bankOf examined.staging)
      ∧ (examined.illegal ≠ none → t.adoption = none ∧ t.live = s.live)

/-! ### The engine reset (R21, R36, R54, R102, R113, R128, R144, R156) -/

/-- ENGINE_RESET: a pending request is cleared and carried out: delay lines zero, floors UNSET, counters 0, mixes and
positions from the live bank or at rest, gates by the links and the reloaded force modes; zeros waiting in every zone and
its clip counter 0; the stack empty; a survey and an adoption ended; every entry new, LIVE and silent at its target. The
header of an ended survey reads ABORTED with the end block number, the bank of an ended adoption EDIT; the cue that began
either is FAULTED RESET in its slot, or has result RESET in CALL where its claim stands, and the claim is cleared with it
(R128, R129, R144). The live bank, the block number, the take list, the links, every other word of memory and every other notice stay. The line of zeros is R4's
16,384 samples and the 95 older ones of log 6. A BLOCK_START with a pending request and no cue does the same with the new
block number, raising no GATE; every zone sends zeros; a due completion or bank outcome that BLOCK_START puts ahead of the
reset (R128, R144; log 1) is carried out first, the reset then reloading from the copy it leaves in force; any other survey
ends ABORTED and any other adoption leaves its bank in EDIT with its header as cleared, each with RESET. That the bank's part
is examined at the end of its block is the model's (log 16). -/
def Obligations.EngineResetClearsEngine : Prop :=
  (∀ s : State, s.mem.wf → s.port.resetRequest = true →
    ∃ t, exec .engineReset s = .next t ∧ t.port.resetRequest = false
      ∧ (∀ i, (t.source i).line = List.replicate (16384 + 95) 0 ∧ (t.source i).floor = none ∧ (t.source i).rise = 0
          ∧ (t.source i).holdCount = 0
          ∧ (s.live = none → (t.source i).mix = SourceMix.rest ∧ (t.source i).pos = { x := 0, y := 0 })
          ∧ (∀ b, s.adopted = some b →
              (t.source i).mix = (b.sourceRow i).mix ∧ (t.source i).pos = (b.sourceRow i).pos)
          ∧ (t.source i).gate = (if (s.link (linkOf i)).lost then .lost
              else if s.running then
                (match (t.source i).mix.force with
                  | .auto => .closed
                  | .opened => .forcedOpen
                  | .closed => .forcedClosed)
              else .closed))
      ∧ (∀ z, (t.zone z).waiting = List.replicate 48 0 ∧ (t.zone z).outLevel = -192 ∧ (t.zone z).clip = false
          ∧ (t.zone z).clipCount = 0
          ∧ (s.live = none → (t.zone z).mix = ZoneMix.rest)
          ∧ ∀ b, s.adopted = some b → (t.zone z).mix = (b.zoneRow z).mix)
      ∧ t.scenes = [] ∧ t.survey.phase = .idle ∧ t.adoption = none ∧ t.nom = t.countedGates
      ∧ (∀ e ∈ t.routes, e.lifecycle = .live ∧ e.gain = .off ∧ e.motion = .steady
          ∧ e.delay = (t.targetDelayOf e.pair).delay ∧ e.targetDelay = e.delay)
      ∧ (s.running = true → t.admitted = t.admittedNow
          ∧ t.routes.map (·.pair) = t.admitted.take 160 ∧ t.unserved = t.admitted.drop 160)
      ∧ (s.running = false → t.routes = [] ∧ t.unserved = [] ∧ t.admitted = [])
      ∧ (s.surveying = true → t.word 0x2800 = 3 ∧ t.word 0x2809 = blockLow s.block ∧ t.word 0x280A = blockHigh s.block
          ∧ t.survey.claim = false ∧ t.noticed .survey = true)
      ∧ (∀ a, s.adoption = some a → t.word (bankBase a.bank) = 0 ∧ t.noticed .bank = true)
      ∧ (let ended := fun (o : Origin) => (s.surveying = true ∧ s.survey.origin = o)
            ∨ ∃ a, s.adoption = some a ∧ a.origin = o
         let claimed := (s.surveying = true ∧ s.survey.origin = .call ∧ s.survey.claim = true)
            ∨ ∃ a, s.adoption = some a ∧ a.origin = .call ∧ a.claim = true
         (∀ k, ended (.slot k) → t.word (slotBase k) = 4 ∧ t.word (slotBase k + 2) = 11 ∧ t.word (slotBase k + 3) = 0
            ∧ t.word (slotBase k + 4) = blockLow s.block ∧ t.word (slotBase k + 5) = blockHigh s.block
            ∧ t.noticed .cue = true)
         ∧ (claimed → t.port.callResult = 11 ∧ t.noticed .call = true)
         ∧ (¬claimed → t.port.callResult = s.port.callResult ∧ t.noticed .call = s.noticed .call)
         ∧ ∀ w, (s.surveying = true → w ∉ [0x2800, 0x2809, 0x280A]) →
            (∀ a, s.adoption = some a → w ≠ bankBase a.bank) → (∀ k, ended (.slot k) → w ∉ outcomeAddrs k) →
            t.word w = s.word w)
      ∧ (s.surveying = false → t.noticed .survey = s.noticed .survey)
      ∧ (s.adoption = none → t.noticed .bank = s.noticed .bank)
      ∧ noticesElse s t [.survey, .bank, .cue, .call, .routeFull]
      ∧ { t.port with notice := s.port.notice, callResult := s.port.callResult } = { s.port with resetRequest := false }
      ∧ t.rebuild = .none ∧ t.marks = { s.marks with resetHere := true }
      ∧ { t with mem := s.mem, port := s.port, sources := s.sources, zones := s.zones, nom := s.nom,
                 routes := s.routes, admitted := s.admitted, unserved := s.unserved, rebuild := s.rebuild,
                 scenes := s.scenes, survey := s.survey, adoption := s.adoption, marks := s.marks,
                 hold := s.hold } = s)
  ∧ ∀ (r : BlockRaces) (s : State), s.mem.wf → s.port.resetRequest = true → s.adoptionRuns → s.sweepPos = 33 →
    s.takeList = [] →
    let copy := s.copyInForce r
    let row := fun i : Fin 16 => match copy with
      | none => ({ mix := SourceMix.rest, pos := { x := 0, y := 0 } } : SourceRow)
      | some b => b.sourceRow i
    let gate : Fin 16 → GateState := fun i =>
      if (s.link (linkOf i)).lost then .lost
      else match copy, (row i).mix.force with
        | some _, .opened => .forcedOpen
        | some _, .closed => .forcedClosed
        | _, _ => .closed
    ∃ t, exec (.blockStart r) s = .next t ∧ t.port.resetRequest = false ∧ t.adopted = copy
      ∧ (∀ i, t.source i = {
          mix := (row i).mix, pos := (row i).pos, line := List.replicate (16384 + 95) 0, floor := none, rise := 0
          gate := gate i, holdCount := 0 })
      ∧ (∀ z, (t.zone z).mix = (match copy with
            | none => ZoneMix.rest
            | some b => (b.zoneRow z).mix)
          ∧ (t.zone z).waiting = List.replicate 48 0 ∧ (t.zone z).outLevel = -192 ∧ (t.zone z).clip = false
          ∧ (t.zone z).clipCount = 0)
      ∧ t.scenes = [] ∧ t.survey.phase = .idle ∧ t.adoption = none ∧ t.nom = t.countedGates ∧ t.rebuild = .none
      ∧ (∀ e ∈ t.routes, e.lifecycle = .live ∧ e.gain = .off ∧ e.motion = .steady
          ∧ e.delay = (t.targetDelayOf e.pair).delay ∧ e.targetDelay = e.delay)
      ∧ t.admitted = t.admittedNow ∧ t.routes.map (·.pair) = t.admitted.take 160 ∧ t.unserved = t.admitted.drop 160
      ∧ t.noticed .gate = s.noticed .gate
      ∧ (s.adoption = none → s.survey.phase ≠ .idle →
          let v := s.survey
          let complete := r.completionBeforeReset = true
            ∧ (v.phase = .tail ∧ v.tail ≤ v.counter + 1
              ∨ v.phase = .probeMeasure ∧ v.measure ≤ v.counter + 1 ∧ v.tail = 0)
          t.noticed .survey = true
          ∧ t.word 0x2809 = blockLow (s.block + 1) ∧ t.word 0x280A = blockHigh (s.block + 1)
          ∧ (complete → t.word 0x2800 = 2
              ∧ outcomeStands t v.origin v.claim (if v.clampNote then .clamped else .ok) 0 (s.block + 1))
          ∧ (¬complete → t.word 0x2800 = 3 ∧ outcomeStands t v.origin v.claim .reset 0 (s.block + 1)))
      ∧ ∀ a, s.adoption = some a → s.survey.phase = .idle →
          let examined := a.examined s.mem
          let base := bankBase a.bank
          let header := fun (state : Word) (reason : RejectReason) (addr : Nat) =>
            t.word base = state ∧ t.word (base + 1) = natWord examined.clampCount
            ∧ t.word (base + 2) = natWord examined.firstClamp ∧ t.word (base + 3) = natWord reason.code
            ∧ t.word (base + 4) = natWord addr
          let ends := fun (code : ResultCode) (detail : Nat) =>
            outcomeStands t a.origin a.claim code detail (s.block + 1)
          t.noticed .bank = true
          ∧ (s.switchesAt r = true → t.liveBank = some a.bank ∧ header 2 .none 0
              ∧ (∀ old, s.liveBank = some old → old ≠ a.bank → t.word (bankBase old) = 0)
              ∧ ends (if examined.clampCount = 0 then .ok else .clamped) examined.clampCount)
          ∧ (s.switchesAt r = false → t.live = s.live)
          ∧ (∀ reason addr, r.bankBeforeReset = true → examined.illegal = some (reason, addr) →
              header 0 reason addr ∧ ends .bankInvalid addr)
          ∧ (s.switchesAt r = false → (r.bankBeforeReset = false ∨ examined.illegal = none) →
              t.word base = 0 ∧ (∀ k, 1 ≤ k → k ≤ 4 → t.word (base + k) = s.word (base + k)) ∧ ends .reset 0)

/-! ### The meter writer (R178 to R182) -/

/-- SNAPSHOT_TIME and SNAPSHOT_WRITE: at a snapshot time the period count returns to 0 and the writer chooses an EMPTY
buffer, buffer 0 first, else a FULL one, the one written earlier of two, turns it to FILLING and captures; with both
READING it skips and counts the skip. The write puts the captured words into the buffer and FULL into its state word, and
clears the skip count; METER is raised. The period is the adopted copy's, 50 with no bank LIVE. The captured words are those of R180 at the offsets of section 9.5, each once: the
header, four words for each source, two for each zone and four for each entry in list order. At every block start the last
levels are those of the ended block, the peaks and the maximum load rise to it, a snapshot captured before is written, its
buffer FULL unless the same block start takes it again, and the period count rises by one; where it reaches the period the readings so gathered are captured and start afresh, or are kept
and a skip is counted (R178 to R182). -/
def Obligations.SnapshotsFillBuffers : Prop :=
  (∀ s : State, s.mem.wf → s.meter.periodCount = s.meterPeriod →
    let other := fun b : MeterBuffer => if b = .buffer0 then MeterBuffer.buffer1 else .buffer0
    ∃ t, exec .snapshotTime s = .next t ∧ t.meter.periodCount = 0
      ∧ (∀ b : MeterBuffer,
          (s.word (bufferBase b) = 0 ∧ (b = .buffer0 ∨ s.word (bufferBase .buffer0) ≠ 0)
            ∨ s.word (bufferBase b) = 2 ∧ s.word (bufferBase (other b)) ≠ 0
              ∧ (s.word (bufferBase (other b)) = 2 → s.meter.lastWritten ≠ b)) →
          oneWordWritten { s with meter := t.meter } t (bufferBase b) 1
          ∧ t.meter.capture = some { buffer := b, words := s.snapshotWords } ∧ t.meter.skip = s.meter.skip
          ∧ t.meter.maxLoad = 0 ∧ t.meter.peakLevels = List.replicate 16 (-192)
          ∧ t.meter.zonePeaks = List.replicate 24 (-192) ∧ t.meter.lastLevels = s.meter.lastLevels)
      ∧ (s.word (bufferBase .buffer0) = 3 → s.word (bufferBase .buffer1) = 3 →
          t = { s with meter := { s.meter with periodCount := 0, skip := min (s.meter.skip + 1) 65535 } }))
  ∧ (∀ (c : Capture) (s : State), s.mem.wf → s.meter.capture = some c → (c.words.map Prod.fst).Nodup →
      (∀ w ∈ c.words, 0 < w.1 ∧ w.1 < 0x400) →
      ∃ t, exec .snapshotWrite s = .next t ∧ t.word (bufferBase c.buffer) = 2
        ∧ (∀ w ∈ c.words, t.word (bufferBase c.buffer + w.1) = w.2)
        ∧ (∀ a, a ≠ bufferBase c.buffer → (∀ w ∈ c.words, a ≠ bufferBase c.buffer + w.1) → t.word a = s.word a)
        ∧ t.meter = { s.meter with skip := 0, lastWritten := c.buffer, capture := none }
        ∧ t.port = { s.port with notice := s.port.notice ||| 0x004 }
        ∧ { t with mem := s.mem, meter := s.meter, port := s.port } = s)
  ∧ (∀ s : State,
    let holds := fun (off : Nat) (v : Word) => (off, v) ∈ s.snapshotWords
    (s.snapshotWords.map Prod.fst).Nodup
    ∧ (∀ w ∈ s.snapshotWords, 0 < w.1 ∧ w.1 < 0x0A8 + 4 * s.routes.length)
    ∧ holds 0x001 (s.block.extractLsb' 0 16) ∧ holds 0x002 (s.block.extractLsb' 16 16)
    ∧ holds 0x003 (match s.liveBank with
        | none => 0
        | some .bankA => 1
        | some .bankB => 2)
    ∧ holds 0x004 (if s.running then 1 else 0)
    ∧ holds 0x005 (match s.survey.phase with
        | .idle => 0
        | .muting => 1
        | .quiet => 2
        | .probeSettle => 3
        | .probeMeasure => 3
        | .tail => 4)
    ∧ holds 0x006 (natWord s.scenes.length) ∧ holds 0x007 (natWord s.meter.maxLoad)
    ∧ holds 0x008 (natWord s.meter.skip) ∧ holds 0x009 (natWord s.routes.length)
    ∧ holds 0x00A (natWord s.unserved.length)
    ∧ (∀ (i : Fin 16) (last peak : Int), s.meter.lastLevels[i.val]? = some last → s.meter.peakLevels[i.val]? = some peak →
        holds (0x038 + 4 * i.val) (signedWord last)
        ∧ holds (0x039 + 4 * i.val) (match (s.source i).floor with
            | none => 0x8000
            | some v => signedWord v)
        ∧ holds (0x03A + 4 * i.val) (match (s.source i).gate with
            | .closed => 0
            | .opened => 1
            | .hold => 2
            | .last => 3
            | .forcedOpen => 4
            | .forcedClosed => 5
            | .lost => 6)
        ∧ holds (0x03B + 4 * i.val) (signedWord peak))
    ∧ (∀ (z : Fin 24) (peak : Int), s.meter.zonePeaks[z.val]? = some peak →
        holds (0x078 + 2 * z.val) (signedWord peak) ∧ holds (0x079 + 2 * z.val) (natWord (s.zone z).clipCount))
    ∧ ∀ (k : Nat) (e : Entry), s.routes[k]? = some e →
        holds (0x0A8 + 4 * k) (natWord (e.pair.source.val + 256 * e.pair.zone.val))
        ∧ holds (0x0A9 + 4 * k) (natWord ((if e.lifecycle = .live then 0 else 1)
            + (match e.motion with
                | .steady => 0
                | .slipping => 2
                | .awaitingFade => 4
                | .fading .. => 6)
            + (if e.floorFlag then 16 else 0) + (if e.ceilFlag then 32 else 0)
            + (if e.ceilingLimited then 64 else 0) + (if e.ducked then 128 else 0)))
        ∧ holds (0x0AA + 4 * k) (natWord e.delay)
        ∧ holds (0x0AB + 4 * k) (match e.gain with
            | .off => 0x8000
            | .code c => signedWord c))
  ∧ (bufferBase .buffer0 = 0x2C00 ∧ bufferBase .buffer1 = 0x3000)
  ∧ (∀ s : State, s.meterPeriod = match s.adopted with
      | none => 50
      | some b => b.globals.meterPeriod)
  ∧ ∀ (r : BlockRaces) (s : State), s.mem.wf →
    let levels := allSources.map (fun i => levelOf (squareSum ((s.source i).line.take 48)) 48)
    ∃ t, exec (.blockStart r) s = .next t ∧ t.meter.lastLevels = levels
      ∧ (let peaks := List.zipWith max s.meter.peakLevels levels
         let zonePeaks := List.zipWith max s.meter.zonePeaks (t.zones.map (·.outLevel))
         let load := max s.meter.maxLoad t.load
         let skip := if s.meter.capture = none then s.meter.skip else 0
         let gathered : State := { t with meter := { t.meter with
           peakLevels := peaks, zonePeaks := zonePeaks, maxLoad := load, skip := skip } }
         (∀ c, s.meter.capture = some c → t.meter.lastWritten = c.buffer ∧ t.noticed .meter = true
             ∧ t.word (bufferBase c.buffer) = (if t.meter.capture.map (·.buffer) = some c.buffer then 1 else 2)
             ∧ ((c.words.map Prod.fst).Nodup → (∀ w ∈ c.words, 0 < w.1 ∧ w.1 < 0x400) →
                 ∀ w ∈ c.words, t.word (bufferBase c.buffer + w.1) = w.2))
         ∧ (s.meter.capture = none → t.meter.lastWritten = s.meter.lastWritten)
         ∧ (s.meter.periodCount + 1 < t.meterPeriod →
             t.meter.periodCount = s.meter.periodCount + 1 ∧ t.meter.capture = none ∧ t.meter.skip = skip
             ∧ t.meter.peakLevels = peaks ∧ t.meter.zonePeaks = zonePeaks ∧ t.meter.maxLoad = load)
         ∧ (t.meterPeriod ≤ s.meter.periodCount + 1 → t.meter.periodCount = 0
             ∧ ((∃ b, t.meter.capture = some { buffer := b, words := gathered.snapshotWords } ∧ t.word (bufferBase b) = 1
                  ∧ t.meter.skip = skip ∧ t.meter.maxLoad = 0 ∧ t.meter.peakLevels = List.replicate 16 (-192)
                  ∧ t.meter.zonePeaks = List.replicate 24 (-192))
               ∨ (t.meter.capture = none ∧ (∀ b, t.word (bufferBase b) ≠ 0 ∧ t.word (bufferBase b) ≠ 2)
                  ∧ t.meter.skip = min (skip + 1) 65535 ∧ t.meter.maxLoad = load ∧ t.meter.peakLevels = peaks
                  ∧ t.meter.zonePeaks = zonePeaks))))

/-! ### The exchange port (R147 to R158, R161, R165, R172, R175, R183 to R185) -/

/-- HOST_WRITE to a word that is not a writable register is accepted exactly where the word map and the guarded words
allow it, and replaces that word alone; otherwise it is dropped with PROTECT (R148 to R150). A write of any word to
PORT_CONTROL stores HOLD_INTAKE and ORDER, a change of ORDER emptying the read latch, requests an engine reset if that bit is
one, and carries out a port initialise if INIT is one, both if both are; its other bits are ignored. A write of any word to
CALL is judged by P alone: it sets P with the number or clears P where that is legal, its result bits and bits 8 to 14 are not
stored, and it is dropped with PROTECT otherwise. A write to NOTICE clears the flags written as one, one to NOTICE_MASK stores
the ten enables (R149, R152, R154, R155, R158, R184, R185). In 8-bit width the word write is its two byte writes, first lane
first, after which the write latch is empty (log 9). -/
def Obligations.HostWriteIsJudged : Prop :=
  (∀ (a : Addr) (v : Word) (s : State), s.mem.wf → (6 ≤ a.toNat ∨ a = 1 ∨ a = 2) →
    ∃ t, exec (.hostWrite a v) s = .next t
      ∧ (s.hostMayWrite a.toNat v = true → oneWordWritten s.atPort t a.toNat v)
      ∧ (s.hostMayWrite a.toNat v = false → t = s.atPort.droppedAt a))
  ∧ ∀ (v : Word) (s : State),
    let u := s.atPort
    let bit := fun n : Nat => v.getLsbD n
    let stored : Port := { u.port with
      holdIntake := bit 2, orderHigh := bit 3, resetRequest := s.port.resetRequest || bit 1
      readLatch := if bit 3 = s.port.orderHigh then s.port.readLatch else none }
    (bit 0 = false → exec (.hostWrite 0 v) s = .next { u with port := stored })
    ∧ (bit 0 = true → exec (.hostWrite 0 v) s = .next { u with
        port := { stored with
          notice := 0, callPending := false, callNumber := 0, callResult := 0, writeLatch := none, readLatch := none,
          protectAddr := 0 }
        survey := { s.survey with claim := false }
        adoption := s.adoption.map (fun a => { a with claim := false })
        takeList := s.takeList.map (fun item => if item.origin = .call then { item with claim := false } else item) })
    ∧ (bit 15 = true → s.port.callPending = false → s.port.callResult ≠ 15 →
        exec (.hostWrite 3 v) s = .next { u with port := { u.port with
          callPending := true, callNumber := v.extractLsb' 0 4 } })
    ∧ (bit 15 = true → (s.port.callPending = true ∨ s.port.callResult = 15) →
        exec (.hostWrite 3 v) s = .next (u.droppedAt 3))
    ∧ (bit 15 = false → s.port.callPending = true →
        exec (.hostWrite 3 v) s = .next { u with port := { u.port with callPending := false } })
    ∧ (bit 15 = false → s.port.callPending = false → exec (.hostWrite 3 v) s = .next (u.droppedAt 3))
    ∧ (∃ t, exec (.hostWrite 4 v) s = .next t ∧ (∀ n : Notice, t.noticed n = (s.noticed n && !bit n.bit))
        ∧ { t with port := { t.port with notice := s.port.notice } } = u)
    ∧ ∃ t, exec (.hostWrite 5 v) s = .next t ∧ (∀ n : Notice, t.port.noticeMask.getLsbD n.bit = bit n.bit)
        ∧ { t with port := { t.port with noticeMask := s.port.noticeMask } } = u

/-- SLOT_POST, SLOT_WITHDRAW, SLOT_FREE, BUFFER_CLAIM and BUFFER_RELEASE take effect from the states that the transitions
of the guarded words name, change that word alone, and are dropped with PROTECT from every other state (R149, R161, R165,
R183). In 8-bit width such a command is its two byte writes (log 9); SLOT_WITHDRAW and SLOT_FREE are one write, so that
each does the other's work (log 21). -/
def Obligations.GuardedWordCommands : Prop :=
  ∀ s : State, s.mem.wf →
    let judged := fun (c : Instr) (a : Nat) (legal : Prop) (v : Word) =>
      ∃ t, exec c s = .next t ∧ (legal → oneWordWritten s.atPort t a v)
        ∧ (¬legal → t = s.atPort.droppedAt (BitVec.ofNat 14 a))
    (∀ k : Fin 32, let state := s.word (0x40 + 32 * k.val)
      judged (.slotPost k) (0x40 + 32 * k.val) (state = 0) 1
      ∧ judged (.slotWithdraw k) (0x40 + 32 * k.val) (state = 1 ∨ state = 3 ∨ state = 4) 0
      ∧ judged (.slotFree k) (0x40 + 32 * k.val) (state = 1 ∨ state = 3 ∨ state = 4) 0)
    ∧ ∀ b : MeterBuffer, let a := if b = .buffer0 then 0x2C00 else 0x3000
      judged (.bufferClaim b) a (s.word a = 2) 3 ∧ judged (.bufferRelease b) a (s.word a = 3) 0

/-- HOST_CALL sets P and the number when no call is pending or in progress; CALL_WITHDRAW clears P of a pending call; the
result stays; any other is dropped with PROTECT at CALL (R149, R172, R175). In 8-bit width such a command is its two byte
writes (log 9). -/
def Obligations.CallCommands : Prop :=
  ∀ s : State,
    (∀ n : BitVec 4, ∃ t, exec (.hostCall n) s = .next t
      ∧ (s.port.callPending = false → s.port.callResult ≠ 15 →
          t = { s.atPort with port := { s.atPort.port with callPending := true, callNumber := n } })
      ∧ ((s.port.callPending = true ∨ s.port.callResult = 15) → t = s.atPort.droppedAt 3))
    ∧ ∃ t, exec .callWithdraw s = .next t
      ∧ (s.port.callPending = true → t = { s.atPort with port := { s.atPort.port with callPending := false } })
      ∧ (s.port.callPending = false → t = s.atPort.droppedAt 3)

/-- PORT_INITIALISE, ENGINE_RESET_REQUEST, HOLD_INTAKE and ORDER write PORT_CONTROL: the two stored bits are stored, a
change of ORDER empties the read latch, a request stands until it is carried out; INIT clears NOTICE, CALL, PROTECT_ADDR,
both latches and every claim on CALL, and leaves everything else (R152, R154, R155). In 8-bit width such a command is its
two byte writes (log 9). -/
def Obligations.ControlCommands : Prop :=
  ∀ s : State,
    let stored := fun (hold order request : Bool) => { s.atPort.port with
      holdIntake := hold, orderHigh := order, resetRequest := request
      readLatch := if order = s.port.orderHigh then s.port.readLatch else none }
    (∀ hold, exec (.holdIntake hold) s
        = .next { s.atPort with port := stored hold s.port.orderHigh s.port.resetRequest })
    ∧ (∀ order, exec (.order order) s
        = .next { s.atPort with port := stored s.port.holdIntake order s.port.resetRequest })
    ∧ (∀ hold order, exec (.engineResetRequest hold order) s = .next { s.atPort with port := stored hold order true })
    ∧ ∀ hold order, ∃ t, exec (.portInitialise hold order) s = .next t
        ∧ t.port = { s.port with
            holdIntake := hold, orderHigh := order, notice := 0, callPending := false, callNumber := 0,
            callResult := 0, writeLatch := none, readLatch := none, protectAddr := 0 }
        ∧ t.attention = false
        ∧ t.survey = { s.survey with claim := false }
        ∧ t.adoption = s.adoption.map (fun a => { a with claim := false })
        ∧ t.takeList = s.takeList.map (fun item => if item.origin = .call then { item with claim := false } else item)
        ∧ { t with port := s.port, survey := s.survey, adoption := s.adoption, takeList := s.takeList } = s

/-- NOTICE_CLEAR clears each flag whose bit is written as one and leaves the others; NOTICE_MASK_WRITE stores the ten
enables and ignores bits 10 to 15; the attention line is active exactly while a flag is set whose enable is set; nothing
else changes (R184, R185). In 8-bit width such a command is its two byte writes, which leave the write latch empty
(log 9). -/
def Obligations.NoticeCommands : Prop :=
  ∀ (v : Word) (s : State),
    (∃ t, exec (.noticeClear v) s = .next t
      ∧ (∀ n : Notice, t.noticed n = (s.noticed n && !v.getLsbD n.bit))
      ∧ { t with port := { t.port with notice := s.port.notice } } = s.atPort)
    ∧ (∃ t, exec (.noticeMaskWrite v) s = .next t
      ∧ (∀ n : Notice, t.port.noticeMask.getLsbD n.bit = v.getLsbD n.bit)
      ∧ { t with port := { t.port with noticeMask := s.port.noticeMask } } = s.atPort)
    ∧ (s.attention = true ↔ ∃ n : Notice, s.noticed n = true ∧ s.port.noticeMask.getLsbD n.bit = true)

/-- BYTE_WRITE and BYTE_READ in 8-bit width: a first-lane byte is staged, and a second-lane byte at the address staged
completes one word write, empties the latch and is judged as one write, or is dropped with PROTECT; a first-lane read
latches the whole word, and a second-lane read returns the latched half or the word's own. In 16-bit width there is no
byte access, and nothing happens (log 9) (R157, R158). What a host reads at each word address: the registers by the bits of
section 9.5, PORT_STATUS from the bank unit, the survey unit, the scene stack and the intake, the word of the exchange
memory in a region, and zero elsewhere (R147, R148, R151 to R153, R184, R185). -/
def Obligations.ByteAccesses : Prop :=
  (∀ (a : Addr) (byte : Byte) (s : State),
    let first := if s.port.orderHigh then Lane.high else Lane.low
    let second := if s.port.orderHigh then Lane.low else Lane.high
    let half := fun (lane : Lane) (w : Word) => if lane = .high then w.extractLsb' 8 8 else w.extractLsb' 0 8
    let word := fun (staged : Byte) => if s.port.orderHigh then staged ++ byte else byte ++ staged
    (s.port.width8 = false → ∀ lane, exec (.byteWrite a lane byte) s = .next s ∧ exec (.byteRead a lane) s = .next s)
    ∧ (s.port.width8 = true →
        exec (.byteWrite a first byte) s = .next { s with port := { s.port with writeLatch := some (a, byte) } }
        ∧ (∀ staged, s.port.writeLatch = some (a, staged) →
            exec (.byteWrite a second byte) s = exec (.hostWrite a (word staged)) s)
        ∧ ((∀ staged, s.port.writeLatch ≠ some (a, staged)) →
            exec (.byteWrite a second byte) s = .next (s.atPort.droppedAt a))
        ∧ exec (.byteRead a first) s = .next { s with port := { s.port with
            readLatch := some (a, s.hostRead a), readData := half first (s.hostRead a) } }
        ∧ (∀ w, s.port.readLatch = some (a, w) → exec (.byteRead a second) s = .next { s with port := { s.port with
            readLatch := none, readData := half second w } })
        ∧ ((∀ w, s.port.readLatch ≠ some (a, w)) → exec (.byteRead a second) s = .next { s with port := { s.port with
            readData := half second (s.hostRead a) } })))
  ∧ [Notice.cue, .call, .meter, .survey, .bank, .protect, .link, .routeFull, .clip, .gate].map Notice.bit = List.range 10
  ∧ ∀ s : State,
    let bit := fun (a : Addr) (n : Nat) => (s.hostRead a).getLsbD n
    let field := fun (a : Addr) (low width : Nat) => ((s.hostRead a).extractLsb' low width).toNat
    (bit 0 0 = false ∧ bit 0 1 = s.port.resetRequest ∧ bit 0 2 = s.port.holdIntake ∧ bit 0 3 = s.port.orderHigh
      ∧ field 0 4 11 = 0 ∧ bit 0 15 = s.port.width8)
    ∧ (s.scenes.length ≤ 4 →
        bit 1 0 = s.running
        ∧ field 1 1 2 = (match s.liveBank with
            | none => 0
            | some .bankA => 1
            | some .bankB => 2)
        ∧ bit 1 3 = s.adoption.isSome
        ∧ field 1 4 3 = (match s.survey.phase with
            | .idle => 0
            | .muting => 1
            | .quiet => 2
            | .probeSettle => 3
            | .probeMeasure => 3
            | .tail => 4)
        ∧ field 1 7 3 = s.scenes.length ∧ (bit 1 10 = true ↔ s.hold = .takeNone) ∧ field 1 11 5 = 0)
    ∧ s.hostRead 2 = s.port.protectAddr.setWidth 16
    ∧ (field 3 0 4 = s.port.callNumber.toNat ∧ field 3 4 4 = s.port.callResult.toNat ∧ field 3 8 7 = 0
      ∧ bit 3 15 = s.port.callPending)
    ∧ (∀ n : Notice, bit 4 n.bit = s.noticed n ∧ bit 5 n.bit = s.port.noticeMask.getLsbD n.bit)
    ∧ field 4 10 6 = 0 ∧ field 5 10 6 = 0 ∧ s.hostRead 6 = 0x1624
    ∧ ∀ a : Addr, 7 ≤ a.toNat →
        let n := a.toNat
        s.hostRead a
          = if (0x40 ≤ n ∧ n ≤ 0x43F) ∨ (0x800 ≤ n ∧ n ≤ 0x29FF) ∨ (0x2C00 ≤ n ∧ n ≤ 0x33FF) then s.word n else 0

/-! ### Invariants that every step keeps -/

/-- The exchange memory keeps its canonical form, which is the model's way to hold the words of R147 (log 7). -/
def Obligations.MemoryStaysCanonical : Prop := KeptByStep (fun s => s.mem.wf)

/-- Sixteen full delay lines and twenty-four waiting sums of 48 samples stand at all times, and every delay stays in its
range (R4, R31, R60). A full line is R4's 16,384 samples and the 95 older ones of log 6. -/
def Obligations.ShapeStays : Prop := KeptByStep (fun s => s.shaped ∧ s.delaysLegal)

/-- Every route's current delay and target delay stay within 0..16383 samples, a fade runs towards the target delay, and
every route's current and target gain stay OFF or within -192..+24 (R60, R62, R94). -/
def Obligations.RouteValuesStayInRange : Prop :=
  (KeptByStep State.delaysLegal ∧ KeptByStep State.fadesAimed)
  ∧ (KeptByStep State.gainsLegal)

/-- The link counts, the rise counters and floors, the sweep, the frame, the skip and the clip counters and the depth of
the stack stay in their ranges (R2, R3, R9, R31, R100, R105, R163, R181). -/
def Obligations.CountersStayInRange : Prop := KeptByStep State.countersLegal

/-- The route list stays in pair order without duplicates and within 160 entries, the unserved list stays beside it, and no
more than sixteen routes fade (R38, R41, R74). -/
def Obligations.RouteListsStayOrdered : Prop :=
  (KeptByStep State.listsOrdered)
  ∧ (KeptByStep State.fadesWithinPool)

/-- The hold counter runs in HOLD alone, a LAST gate stands alone, and NOM counts the gates (R10, R15, R19). -/
def Obligations.GatesStayConsistent : Prop :=
  KeptByStep State.holdCountersRest ∧ KeptByStep State.lastAlone ∧ KeptByStep State.nomCounts

/-- NO_BANK stays idle until the first switch-over; a survey and an adoption exclude each other; no rebuild that an engine
reset asked for is left waiting (R18, R54, R55, R141). -/
def Obligations.EnginePhasesStayConsistent : Prop :=
  KeptByStep (fun s => s.noBankIdle ∧ s.sources.length = 16) ∧ KeptByStep State.surveyOrAdoption
  ∧ KeptByStep State.resetRebuilt

/-- The engine does not return to NO_BANK except by a power-on reset (R132). -/
def Obligations.RunningEndsOnlyAtPowerOn : Prop :=
  ∀ (c : Instr) (s t : State), exec c s = .next t → (∀ strapHigh, c ≠ .powerOnReset strapHigh) →
    s.running = true → t.running = true

/-- The bank state words agree with the engine, so that at most one bank is LIVE, at most one is ADOPTING, and no bank is
both (R131); and between two block starts an adoption in progress has a part left to examine and has found nothing illegal
(R137, R139, R140; log 16). -/
def Obligations.BankStatesStayTrue : Prop := KeptByStep State.bankStatesAgree ∧ KeptByStep State.adoptionRuns

/-- The adopted copy stays whole and legal in every field: the globals, the source and zone records with the bounds and row
tables of their windows, the four row tables, the priority numbers, duck depths and couplings; the operating mix and the
scenes stay legal; and every fade runs below a length of 8 to 64 blocks (R5, R22, R24, R69, R71, R105, R133, R134). -/
def Obligations.SettingsStayLegal : Prop :=
  KeptByStep (fun s => s.valuesLegal ∧ s.noBankIdle ∧ s.sources.length = 16 ∧ s.fadesRun)

/-- CALL is never pending and in progress at once, and in 16-bit width both latches stay empty (R157, R172). -/
def Obligations.PortStaysConsistent : Prop := KeptByStep State.callExclusive ∧ KeptByStep State.latchesRest
end

