-- ==== Sys2Proof/Laws/State.lean ====
section
/-! SUPPORT. One lemma per field of the state and per named update: what the update does to the field. -/

namespace Sys2Proof.Machine

/-! ### withMem -/

@[simp] theorem State.withMem_pending (s : State) (m : Memory) : (s.withMem m).pending = s.pending := rfl
@[simp] theorem State.withMem_block (s : State) (m : Memory) : (s.withMem m).block = s.block := rfl
@[simp] theorem State.withMem_marks (s : State) (m : Memory) : (s.withMem m).marks = s.marks := rfl
@[simp] theorem State.withMem_mem (s : State) (m : Memory) : (s.withMem m).mem = m := rfl
@[simp] theorem State.withMem_port (s : State) (m : Memory) : (s.withMem m).port = s.port := rfl
@[simp] theorem State.withMem_linkA (s : State) (m : Memory) : (s.withMem m).linkA = s.linkA := rfl
@[simp] theorem State.withMem_linkB (s : State) (m : Memory) : (s.withMem m).linkB = s.linkB := rfl
@[simp] theorem State.withMem_sources (s : State) (m : Memory) : (s.withMem m).sources = s.sources := rfl
@[simp] theorem State.withMem_nom (s : State) (m : Memory) : (s.withMem m).nom = s.nom := rfl
@[simp] theorem State.withMem_zones (s : State) (m : Memory) : (s.withMem m).zones = s.zones := rfl
@[simp] theorem State.withMem_outIndex (s : State) (m : Memory) : (s.withMem m).outIndex = s.outIndex := rfl
@[simp] theorem State.withMem_outSlots (s : State) (m : Memory) : (s.withMem m).outSlots = s.outSlots := rfl
@[simp] theorem State.withMem_fillsTaken (s : State) (m : Memory) : (s.withMem m).fillsTaken = s.fillsTaken := rfl
@[simp] theorem State.withMem_routes (s : State) (m : Memory) : (s.withMem m).routes = s.routes := rfl
@[simp] theorem State.withMem_unserved (s : State) (m : Memory) : (s.withMem m).unserved = s.unserved := rfl
@[simp] theorem State.withMem_admitted (s : State) (m : Memory) : (s.withMem m).admitted = s.admitted := rfl
@[simp] theorem State.withMem_rebuild (s : State) (m : Memory) : (s.withMem m).rebuild = s.rebuild := rfl
@[simp] theorem State.withMem_scenes (s : State) (m : Memory) : (s.withMem m).scenes = s.scenes := rfl
@[simp] theorem State.withMem_survey (s : State) (m : Memory) : (s.withMem m).survey = s.survey := rfl
@[simp] theorem State.withMem_live (s : State) (m : Memory) : (s.withMem m).live = s.live := rfl
@[simp] theorem State.withMem_adoption (s : State) (m : Memory) : (s.withMem m).adoption = s.adoption := rfl
@[simp] theorem State.withMem_takeList (s : State) (m : Memory) : (s.withMem m).takeList = s.takeList := rfl
@[simp] theorem State.withMem_sweepPos (s : State) (m : Memory) : (s.withMem m).sweepPos = s.sweepPos := rfl
@[simp] theorem State.withMem_hold (s : State) (m : Memory) : (s.withMem m).hold = s.hold := rfl
@[simp] theorem State.withMem_meter (s : State) (m : Memory) : (s.withMem m).meter = s.meter := rfl

/-! ### withPort -/

@[simp] theorem State.withPort_pending (s : State) (p : Port) : (s.withPort p).pending = s.pending := rfl
@[simp] theorem State.withPort_block (s : State) (p : Port) : (s.withPort p).block = s.block := rfl
@[simp] theorem State.withPort_marks (s : State) (p : Port) : (s.withPort p).marks = s.marks := rfl
@[simp] theorem State.withPort_mem (s : State) (p : Port) : (s.withPort p).mem = s.mem := rfl
@[simp] theorem State.withPort_port (s : State) (p : Port) : (s.withPort p).port = p := rfl
@[simp] theorem State.withPort_linkA (s : State) (p : Port) : (s.withPort p).linkA = s.linkA := rfl
@[simp] theorem State.withPort_linkB (s : State) (p : Port) : (s.withPort p).linkB = s.linkB := rfl
@[simp] theorem State.withPort_sources (s : State) (p : Port) : (s.withPort p).sources = s.sources := rfl
@[simp] theorem State.withPort_nom (s : State) (p : Port) : (s.withPort p).nom = s.nom := rfl
@[simp] theorem State.withPort_zones (s : State) (p : Port) : (s.withPort p).zones = s.zones := rfl
@[simp] theorem State.withPort_outIndex (s : State) (p : Port) : (s.withPort p).outIndex = s.outIndex := rfl
@[simp] theorem State.withPort_outSlots (s : State) (p : Port) : (s.withPort p).outSlots = s.outSlots := rfl
@[simp] theorem State.withPort_fillsTaken (s : State) (p : Port) : (s.withPort p).fillsTaken = s.fillsTaken := rfl
@[simp] theorem State.withPort_routes (s : State) (p : Port) : (s.withPort p).routes = s.routes := rfl
@[simp] theorem State.withPort_unserved (s : State) (p : Port) : (s.withPort p).unserved = s.unserved := rfl
@[simp] theorem State.withPort_admitted (s : State) (p : Port) : (s.withPort p).admitted = s.admitted := rfl
@[simp] theorem State.withPort_rebuild (s : State) (p : Port) : (s.withPort p).rebuild = s.rebuild := rfl
@[simp] theorem State.withPort_scenes (s : State) (p : Port) : (s.withPort p).scenes = s.scenes := rfl
@[simp] theorem State.withPort_survey (s : State) (p : Port) : (s.withPort p).survey = s.survey := rfl
@[simp] theorem State.withPort_live (s : State) (p : Port) : (s.withPort p).live = s.live := rfl
@[simp] theorem State.withPort_adoption (s : State) (p : Port) : (s.withPort p).adoption = s.adoption := rfl
@[simp] theorem State.withPort_takeList (s : State) (p : Port) : (s.withPort p).takeList = s.takeList := rfl
@[simp] theorem State.withPort_sweepPos (s : State) (p : Port) : (s.withPort p).sweepPos = s.sweepPos := rfl
@[simp] theorem State.withPort_hold (s : State) (p : Port) : (s.withPort p).hold = s.hold := rfl
@[simp] theorem State.withPort_meter (s : State) (p : Port) : (s.withPort p).meter = s.meter := rfl

/-! ### withSources -/

@[simp] theorem State.withSources_pending (s : State) (xs : List Source) : (s.withSources xs).pending = s.pending := rfl
@[simp] theorem State.withSources_block (s : State) (xs : List Source) : (s.withSources xs).block = s.block := rfl
@[simp] theorem State.withSources_marks (s : State) (xs : List Source) : (s.withSources xs).marks = s.marks := rfl
@[simp] theorem State.withSources_mem (s : State) (xs : List Source) : (s.withSources xs).mem = s.mem := rfl
@[simp] theorem State.withSources_port (s : State) (xs : List Source) : (s.withSources xs).port = s.port := rfl
@[simp] theorem State.withSources_linkA (s : State) (xs : List Source) : (s.withSources xs).linkA = s.linkA := rfl
@[simp] theorem State.withSources_linkB (s : State) (xs : List Source) : (s.withSources xs).linkB = s.linkB := rfl
@[simp] theorem State.withSources_sources (s : State) (xs : List Source) : (s.withSources xs).sources = xs := rfl
@[simp] theorem State.withSources_nom (s : State) (xs : List Source) : (s.withSources xs).nom = s.nom := rfl
@[simp] theorem State.withSources_zones (s : State) (xs : List Source) : (s.withSources xs).zones = s.zones := rfl
@[simp] theorem State.withSources_outIndex (s : State) (xs : List Source) : (s.withSources xs).outIndex = s.outIndex := rfl
@[simp] theorem State.withSources_outSlots (s : State) (xs : List Source) : (s.withSources xs).outSlots = s.outSlots := rfl
@[simp] theorem State.withSources_fillsTaken (s : State) (xs : List Source) : (s.withSources xs).fillsTaken = s.fillsTaken := rfl
@[simp] theorem State.withSources_routes (s : State) (xs : List Source) : (s.withSources xs).routes = s.routes := rfl
@[simp] theorem State.withSources_unserved (s : State) (xs : List Source) : (s.withSources xs).unserved = s.unserved := rfl
@[simp] theorem State.withSources_admitted (s : State) (xs : List Source) : (s.withSources xs).admitted = s.admitted := rfl
@[simp] theorem State.withSources_rebuild (s : State) (xs : List Source) : (s.withSources xs).rebuild = s.rebuild := rfl
@[simp] theorem State.withSources_scenes (s : State) (xs : List Source) : (s.withSources xs).scenes = s.scenes := rfl
@[simp] theorem State.withSources_survey (s : State) (xs : List Source) : (s.withSources xs).survey = s.survey := rfl
@[simp] theorem State.withSources_live (s : State) (xs : List Source) : (s.withSources xs).live = s.live := rfl
@[simp] theorem State.withSources_adoption (s : State) (xs : List Source) : (s.withSources xs).adoption = s.adoption := rfl
@[simp] theorem State.withSources_takeList (s : State) (xs : List Source) : (s.withSources xs).takeList = s.takeList := rfl
@[simp] theorem State.withSources_sweepPos (s : State) (xs : List Source) : (s.withSources xs).sweepPos = s.sweepPos := rfl
@[simp] theorem State.withSources_hold (s : State) (xs : List Source) : (s.withSources xs).hold = s.hold := rfl
@[simp] theorem State.withSources_meter (s : State) (xs : List Source) : (s.withSources xs).meter = s.meter := rfl

/-! ### withZones -/

@[simp] theorem State.withZones_pending (s : State) (xs : List Zone) : (s.withZones xs).pending = s.pending := rfl
@[simp] theorem State.withZones_block (s : State) (xs : List Zone) : (s.withZones xs).block = s.block := rfl
@[simp] theorem State.withZones_marks (s : State) (xs : List Zone) : (s.withZones xs).marks = s.marks := rfl
@[simp] theorem State.withZones_mem (s : State) (xs : List Zone) : (s.withZones xs).mem = s.mem := rfl
@[simp] theorem State.withZones_port (s : State) (xs : List Zone) : (s.withZones xs).port = s.port := rfl
@[simp] theorem State.withZones_linkA (s : State) (xs : List Zone) : (s.withZones xs).linkA = s.linkA := rfl
@[simp] theorem State.withZones_linkB (s : State) (xs : List Zone) : (s.withZones xs).linkB = s.linkB := rfl
@[simp] theorem State.withZones_sources (s : State) (xs : List Zone) : (s.withZones xs).sources = s.sources := rfl
@[simp] theorem State.withZones_nom (s : State) (xs : List Zone) : (s.withZones xs).nom = s.nom := rfl
@[simp] theorem State.withZones_zones (s : State) (xs : List Zone) : (s.withZones xs).zones = xs := rfl
@[simp] theorem State.withZones_outIndex (s : State) (xs : List Zone) : (s.withZones xs).outIndex = s.outIndex := rfl
@[simp] theorem State.withZones_outSlots (s : State) (xs : List Zone) : (s.withZones xs).outSlots = s.outSlots := rfl
@[simp] theorem State.withZones_fillsTaken (s : State) (xs : List Zone) : (s.withZones xs).fillsTaken = s.fillsTaken := rfl
@[simp] theorem State.withZones_routes (s : State) (xs : List Zone) : (s.withZones xs).routes = s.routes := rfl
@[simp] theorem State.withZones_unserved (s : State) (xs : List Zone) : (s.withZones xs).unserved = s.unserved := rfl
@[simp] theorem State.withZones_admitted (s : State) (xs : List Zone) : (s.withZones xs).admitted = s.admitted := rfl
@[simp] theorem State.withZones_rebuild (s : State) (xs : List Zone) : (s.withZones xs).rebuild = s.rebuild := rfl
@[simp] theorem State.withZones_scenes (s : State) (xs : List Zone) : (s.withZones xs).scenes = s.scenes := rfl
@[simp] theorem State.withZones_survey (s : State) (xs : List Zone) : (s.withZones xs).survey = s.survey := rfl
@[simp] theorem State.withZones_live (s : State) (xs : List Zone) : (s.withZones xs).live = s.live := rfl
@[simp] theorem State.withZones_adoption (s : State) (xs : List Zone) : (s.withZones xs).adoption = s.adoption := rfl
@[simp] theorem State.withZones_takeList (s : State) (xs : List Zone) : (s.withZones xs).takeList = s.takeList := rfl
@[simp] theorem State.withZones_sweepPos (s : State) (xs : List Zone) : (s.withZones xs).sweepPos = s.sweepPos := rfl
@[simp] theorem State.withZones_hold (s : State) (xs : List Zone) : (s.withZones xs).hold = s.hold := rfl
@[simp] theorem State.withZones_meter (s : State) (xs : List Zone) : (s.withZones xs).meter = s.meter := rfl

/-! ### withRoutes -/

@[simp] theorem State.withRoutes_pending (s : State) (xs : List Entry) : (s.withRoutes xs).pending = s.pending := rfl
@[simp] theorem State.withRoutes_block (s : State) (xs : List Entry) : (s.withRoutes xs).block = s.block := rfl
@[simp] theorem State.withRoutes_marks (s : State) (xs : List Entry) : (s.withRoutes xs).marks = s.marks := rfl
@[simp] theorem State.withRoutes_mem (s : State) (xs : List Entry) : (s.withRoutes xs).mem = s.mem := rfl
@[simp] theorem State.withRoutes_port (s : State) (xs : List Entry) : (s.withRoutes xs).port = s.port := rfl
@[simp] theorem State.withRoutes_linkA (s : State) (xs : List Entry) : (s.withRoutes xs).linkA = s.linkA := rfl
@[simp] theorem State.withRoutes_linkB (s : State) (xs : List Entry) : (s.withRoutes xs).linkB = s.linkB := rfl
@[simp] theorem State.withRoutes_sources (s : State) (xs : List Entry) : (s.withRoutes xs).sources = s.sources := rfl
@[simp] theorem State.withRoutes_nom (s : State) (xs : List Entry) : (s.withRoutes xs).nom = s.nom := rfl
@[simp] theorem State.withRoutes_zones (s : State) (xs : List Entry) : (s.withRoutes xs).zones = s.zones := rfl
@[simp] theorem State.withRoutes_outIndex (s : State) (xs : List Entry) : (s.withRoutes xs).outIndex = s.outIndex := rfl
@[simp] theorem State.withRoutes_outSlots (s : State) (xs : List Entry) : (s.withRoutes xs).outSlots = s.outSlots := rfl
@[simp] theorem State.withRoutes_fillsTaken (s : State) (xs : List Entry) : (s.withRoutes xs).fillsTaken = s.fillsTaken := rfl
@[simp] theorem State.withRoutes_routes (s : State) (xs : List Entry) : (s.withRoutes xs).routes = xs := rfl
@[simp] theorem State.withRoutes_unserved (s : State) (xs : List Entry) : (s.withRoutes xs).unserved = s.unserved := rfl
@[simp] theorem State.withRoutes_admitted (s : State) (xs : List Entry) : (s.withRoutes xs).admitted = s.admitted := rfl
@[simp] theorem State.withRoutes_rebuild (s : State) (xs : List Entry) : (s.withRoutes xs).rebuild = s.rebuild := rfl
@[simp] theorem State.withRoutes_scenes (s : State) (xs : List Entry) : (s.withRoutes xs).scenes = s.scenes := rfl
@[simp] theorem State.withRoutes_survey (s : State) (xs : List Entry) : (s.withRoutes xs).survey = s.survey := rfl
@[simp] theorem State.withRoutes_live (s : State) (xs : List Entry) : (s.withRoutes xs).live = s.live := rfl
@[simp] theorem State.withRoutes_adoption (s : State) (xs : List Entry) : (s.withRoutes xs).adoption = s.adoption := rfl
@[simp] theorem State.withRoutes_takeList (s : State) (xs : List Entry) : (s.withRoutes xs).takeList = s.takeList := rfl
@[simp] theorem State.withRoutes_sweepPos (s : State) (xs : List Entry) : (s.withRoutes xs).sweepPos = s.sweepPos := rfl
@[simp] theorem State.withRoutes_hold (s : State) (xs : List Entry) : (s.withRoutes xs).hold = s.hold := rfl
@[simp] theorem State.withRoutes_meter (s : State) (xs : List Entry) : (s.withRoutes xs).meter = s.meter := rfl

/-! ### withSurvey -/

@[simp] theorem State.withSurvey_pending (s : State) (v : Survey) : (s.withSurvey v).pending = s.pending := rfl
@[simp] theorem State.withSurvey_block (s : State) (v : Survey) : (s.withSurvey v).block = s.block := rfl
@[simp] theorem State.withSurvey_marks (s : State) (v : Survey) : (s.withSurvey v).marks = s.marks := rfl
@[simp] theorem State.withSurvey_mem (s : State) (v : Survey) : (s.withSurvey v).mem = s.mem := rfl
@[simp] theorem State.withSurvey_port (s : State) (v : Survey) : (s.withSurvey v).port = s.port := rfl
@[simp] theorem State.withSurvey_linkA (s : State) (v : Survey) : (s.withSurvey v).linkA = s.linkA := rfl
@[simp] theorem State.withSurvey_linkB (s : State) (v : Survey) : (s.withSurvey v).linkB = s.linkB := rfl
@[simp] theorem State.withSurvey_sources (s : State) (v : Survey) : (s.withSurvey v).sources = s.sources := rfl
@[simp] theorem State.withSurvey_nom (s : State) (v : Survey) : (s.withSurvey v).nom = s.nom := rfl
@[simp] theorem State.withSurvey_zones (s : State) (v : Survey) : (s.withSurvey v).zones = s.zones := rfl
@[simp] theorem State.withSurvey_outIndex (s : State) (v : Survey) : (s.withSurvey v).outIndex = s.outIndex := rfl
@[simp] theorem State.withSurvey_outSlots (s : State) (v : Survey) : (s.withSurvey v).outSlots = s.outSlots := rfl
@[simp] theorem State.withSurvey_fillsTaken (s : State) (v : Survey) : (s.withSurvey v).fillsTaken = s.fillsTaken := rfl
@[simp] theorem State.withSurvey_routes (s : State) (v : Survey) : (s.withSurvey v).routes = s.routes := rfl
@[simp] theorem State.withSurvey_unserved (s : State) (v : Survey) : (s.withSurvey v).unserved = s.unserved := rfl
@[simp] theorem State.withSurvey_admitted (s : State) (v : Survey) : (s.withSurvey v).admitted = s.admitted := rfl
@[simp] theorem State.withSurvey_rebuild (s : State) (v : Survey) : (s.withSurvey v).rebuild = s.rebuild := rfl
@[simp] theorem State.withSurvey_scenes (s : State) (v : Survey) : (s.withSurvey v).scenes = s.scenes := rfl
@[simp] theorem State.withSurvey_survey (s : State) (v : Survey) : (s.withSurvey v).survey = v := rfl
@[simp] theorem State.withSurvey_live (s : State) (v : Survey) : (s.withSurvey v).live = s.live := rfl
@[simp] theorem State.withSurvey_adoption (s : State) (v : Survey) : (s.withSurvey v).adoption = s.adoption := rfl
@[simp] theorem State.withSurvey_takeList (s : State) (v : Survey) : (s.withSurvey v).takeList = s.takeList := rfl
@[simp] theorem State.withSurvey_sweepPos (s : State) (v : Survey) : (s.withSurvey v).sweepPos = s.sweepPos := rfl
@[simp] theorem State.withSurvey_hold (s : State) (v : Survey) : (s.withSurvey v).hold = s.hold := rfl
@[simp] theorem State.withSurvey_meter (s : State) (v : Survey) : (s.withSurvey v).meter = s.meter := rfl

/-! ### withMeter -/

@[simp] theorem State.withMeter_pending (s : State) (m : Meter) : (s.withMeter m).pending = s.pending := rfl
@[simp] theorem State.withMeter_block (s : State) (m : Meter) : (s.withMeter m).block = s.block := rfl
@[simp] theorem State.withMeter_marks (s : State) (m : Meter) : (s.withMeter m).marks = s.marks := rfl
@[simp] theorem State.withMeter_mem (s : State) (m : Meter) : (s.withMeter m).mem = s.mem := rfl
@[simp] theorem State.withMeter_port (s : State) (m : Meter) : (s.withMeter m).port = s.port := rfl
@[simp] theorem State.withMeter_linkA (s : State) (m : Meter) : (s.withMeter m).linkA = s.linkA := rfl
@[simp] theorem State.withMeter_linkB (s : State) (m : Meter) : (s.withMeter m).linkB = s.linkB := rfl
@[simp] theorem State.withMeter_sources (s : State) (m : Meter) : (s.withMeter m).sources = s.sources := rfl
@[simp] theorem State.withMeter_nom (s : State) (m : Meter) : (s.withMeter m).nom = s.nom := rfl
@[simp] theorem State.withMeter_zones (s : State) (m : Meter) : (s.withMeter m).zones = s.zones := rfl
@[simp] theorem State.withMeter_outIndex (s : State) (m : Meter) : (s.withMeter m).outIndex = s.outIndex := rfl
@[simp] theorem State.withMeter_outSlots (s : State) (m : Meter) : (s.withMeter m).outSlots = s.outSlots := rfl
@[simp] theorem State.withMeter_fillsTaken (s : State) (m : Meter) : (s.withMeter m).fillsTaken = s.fillsTaken := rfl
@[simp] theorem State.withMeter_routes (s : State) (m : Meter) : (s.withMeter m).routes = s.routes := rfl
@[simp] theorem State.withMeter_unserved (s : State) (m : Meter) : (s.withMeter m).unserved = s.unserved := rfl
@[simp] theorem State.withMeter_admitted (s : State) (m : Meter) : (s.withMeter m).admitted = s.admitted := rfl
@[simp] theorem State.withMeter_rebuild (s : State) (m : Meter) : (s.withMeter m).rebuild = s.rebuild := rfl
@[simp] theorem State.withMeter_scenes (s : State) (m : Meter) : (s.withMeter m).scenes = s.scenes := rfl
@[simp] theorem State.withMeter_survey (s : State) (m : Meter) : (s.withMeter m).survey = s.survey := rfl
@[simp] theorem State.withMeter_live (s : State) (m : Meter) : (s.withMeter m).live = s.live := rfl
@[simp] theorem State.withMeter_adoption (s : State) (m : Meter) : (s.withMeter m).adoption = s.adoption := rfl
@[simp] theorem State.withMeter_takeList (s : State) (m : Meter) : (s.withMeter m).takeList = s.takeList := rfl
@[simp] theorem State.withMeter_sweepPos (s : State) (m : Meter) : (s.withMeter m).sweepPos = s.sweepPos := rfl
@[simp] theorem State.withMeter_hold (s : State) (m : Meter) : (s.withMeter m).hold = s.hold := rfl
@[simp] theorem State.withMeter_meter (s : State) (m : Meter) : (s.withMeter m).meter = m := rfl

/-! ### store -/

@[simp] theorem State.store_pending (s : State) (a : Nat) (v : Word) : (s.store a v).pending = s.pending := rfl
@[simp] theorem State.store_block (s : State) (a : Nat) (v : Word) : (s.store a v).block = s.block := rfl
@[simp] theorem State.store_marks (s : State) (a : Nat) (v : Word) : (s.store a v).marks = s.marks := rfl
@[simp] theorem State.store_mem (s : State) (a : Nat) (v : Word) : (s.store a v).mem = s.mem.write a v := rfl
@[simp] theorem State.store_port (s : State) (a : Nat) (v : Word) : (s.store a v).port = s.port := rfl
@[simp] theorem State.store_linkA (s : State) (a : Nat) (v : Word) : (s.store a v).linkA = s.linkA := rfl
@[simp] theorem State.store_linkB (s : State) (a : Nat) (v : Word) : (s.store a v).linkB = s.linkB := rfl
@[simp] theorem State.store_sources (s : State) (a : Nat) (v : Word) : (s.store a v).sources = s.sources := rfl
@[simp] theorem State.store_nom (s : State) (a : Nat) (v : Word) : (s.store a v).nom = s.nom := rfl
@[simp] theorem State.store_zones (s : State) (a : Nat) (v : Word) : (s.store a v).zones = s.zones := rfl
@[simp] theorem State.store_outIndex (s : State) (a : Nat) (v : Word) : (s.store a v).outIndex = s.outIndex := rfl
@[simp] theorem State.store_outSlots (s : State) (a : Nat) (v : Word) : (s.store a v).outSlots = s.outSlots := rfl
@[simp] theorem State.store_fillsTaken (s : State) (a : Nat) (v : Word) : (s.store a v).fillsTaken = s.fillsTaken := rfl
@[simp] theorem State.store_routes (s : State) (a : Nat) (v : Word) : (s.store a v).routes = s.routes := rfl
@[simp] theorem State.store_unserved (s : State) (a : Nat) (v : Word) : (s.store a v).unserved = s.unserved := rfl
@[simp] theorem State.store_admitted (s : State) (a : Nat) (v : Word) : (s.store a v).admitted = s.admitted := rfl
@[simp] theorem State.store_rebuild (s : State) (a : Nat) (v : Word) : (s.store a v).rebuild = s.rebuild := rfl
@[simp] theorem State.store_scenes (s : State) (a : Nat) (v : Word) : (s.store a v).scenes = s.scenes := rfl
@[simp] theorem State.store_survey (s : State) (a : Nat) (v : Word) : (s.store a v).survey = s.survey := rfl
@[simp] theorem State.store_live (s : State) (a : Nat) (v : Word) : (s.store a v).live = s.live := rfl
@[simp] theorem State.store_adoption (s : State) (a : Nat) (v : Word) : (s.store a v).adoption = s.adoption := rfl
@[simp] theorem State.store_takeList (s : State) (a : Nat) (v : Word) : (s.store a v).takeList = s.takeList := rfl
@[simp] theorem State.store_sweepPos (s : State) (a : Nat) (v : Word) : (s.store a v).sweepPos = s.sweepPos := rfl
@[simp] theorem State.store_hold (s : State) (a : Nat) (v : Word) : (s.store a v).hold = s.hold := rfl
@[simp] theorem State.store_meter (s : State) (a : Nat) (v : Word) : (s.store a v).meter = s.meter := rfl

/-! ### storeAll -/

@[simp] theorem State.storeAll_pending (s : State) (cells : List (Nat × Word)) : (s.storeAll cells).pending = s.pending := rfl
@[simp] theorem State.storeAll_block (s : State) (cells : List (Nat × Word)) : (s.storeAll cells).block = s.block := rfl
@[simp] theorem State.storeAll_marks (s : State) (cells : List (Nat × Word)) : (s.storeAll cells).marks = s.marks := rfl
@[simp] theorem State.storeAll_mem (s : State) (cells : List (Nat × Word)) : (s.storeAll cells).mem = s.mem.writeAll cells := rfl
@[simp] theorem State.storeAll_port (s : State) (cells : List (Nat × Word)) : (s.storeAll cells).port = s.port := rfl
@[simp] theorem State.storeAll_linkA (s : State) (cells : List (Nat × Word)) : (s.storeAll cells).linkA = s.linkA := rfl
@[simp] theorem State.storeAll_linkB (s : State) (cells : List (Nat × Word)) : (s.storeAll cells).linkB = s.linkB := rfl
@[simp] theorem State.storeAll_sources (s : State) (cells : List (Nat × Word)) : (s.storeAll cells).sources = s.sources := rfl
@[simp] theorem State.storeAll_nom (s : State) (cells : List (Nat × Word)) : (s.storeAll cells).nom = s.nom := rfl
@[simp] theorem State.storeAll_zones (s : State) (cells : List (Nat × Word)) : (s.storeAll cells).zones = s.zones := rfl
@[simp] theorem State.storeAll_outIndex (s : State) (cells : List (Nat × Word)) : (s.storeAll cells).outIndex = s.outIndex := rfl
@[simp] theorem State.storeAll_outSlots (s : State) (cells : List (Nat × Word)) : (s.storeAll cells).outSlots = s.outSlots := rfl
@[simp] theorem State.storeAll_fillsTaken (s : State) (cells : List (Nat × Word)) : (s.storeAll cells).fillsTaken = s.fillsTaken := rfl
@[simp] theorem State.storeAll_routes (s : State) (cells : List (Nat × Word)) : (s.storeAll cells).routes = s.routes := rfl
@[simp] theorem State.storeAll_unserved (s : State) (cells : List (Nat × Word)) : (s.storeAll cells).unserved = s.unserved := rfl
@[simp] theorem State.storeAll_admitted (s : State) (cells : List (Nat × Word)) : (s.storeAll cells).admitted = s.admitted := rfl
@[simp] theorem State.storeAll_rebuild (s : State) (cells : List (Nat × Word)) : (s.storeAll cells).rebuild = s.rebuild := rfl
@[simp] theorem State.storeAll_scenes (s : State) (cells : List (Nat × Word)) : (s.storeAll cells).scenes = s.scenes := rfl
@[simp] theorem State.storeAll_survey (s : State) (cells : List (Nat × Word)) : (s.storeAll cells).survey = s.survey := rfl
@[simp] theorem State.storeAll_live (s : State) (cells : List (Nat × Word)) : (s.storeAll cells).live = s.live := rfl
@[simp] theorem State.storeAll_adoption (s : State) (cells : List (Nat × Word)) : (s.storeAll cells).adoption = s.adoption := rfl
@[simp] theorem State.storeAll_takeList (s : State) (cells : List (Nat × Word)) : (s.storeAll cells).takeList = s.takeList := rfl
@[simp] theorem State.storeAll_sweepPos (s : State) (cells : List (Nat × Word)) : (s.storeAll cells).sweepPos = s.sweepPos := rfl
@[simp] theorem State.storeAll_hold (s : State) (cells : List (Nat × Word)) : (s.storeAll cells).hold = s.hold := rfl
@[simp] theorem State.storeAll_meter (s : State) (cells : List (Nat × Word)) : (s.storeAll cells).meter = s.meter := rfl

/-! ### raise -/

@[simp] theorem State.raise_pending (s : State) (n : Notice) : (s.raise n).pending = s.pending := rfl
@[simp] theorem State.raise_block (s : State) (n : Notice) : (s.raise n).block = s.block := rfl
@[simp] theorem State.raise_marks (s : State) (n : Notice) : (s.raise n).marks = s.marks := rfl
@[simp] theorem State.raise_mem (s : State) (n : Notice) : (s.raise n).mem = s.mem := rfl
@[simp] theorem State.raise_port (s : State) (n : Notice) : (s.raise n).port = { s.port with notice := s.port.notice ||| n.mask } := rfl
@[simp] theorem State.raise_linkA (s : State) (n : Notice) : (s.raise n).linkA = s.linkA := rfl
@[simp] theorem State.raise_linkB (s : State) (n : Notice) : (s.raise n).linkB = s.linkB := rfl
@[simp] theorem State.raise_sources (s : State) (n : Notice) : (s.raise n).sources = s.sources := rfl
@[simp] theorem State.raise_nom (s : State) (n : Notice) : (s.raise n).nom = s.nom := rfl
@[simp] theorem State.raise_zones (s : State) (n : Notice) : (s.raise n).zones = s.zones := rfl
@[simp] theorem State.raise_outIndex (s : State) (n : Notice) : (s.raise n).outIndex = s.outIndex := rfl
@[simp] theorem State.raise_outSlots (s : State) (n : Notice) : (s.raise n).outSlots = s.outSlots := rfl
@[simp] theorem State.raise_fillsTaken (s : State) (n : Notice) : (s.raise n).fillsTaken = s.fillsTaken := rfl
@[simp] theorem State.raise_routes (s : State) (n : Notice) : (s.raise n).routes = s.routes := rfl
@[simp] theorem State.raise_unserved (s : State) (n : Notice) : (s.raise n).unserved = s.unserved := rfl
@[simp] theorem State.raise_admitted (s : State) (n : Notice) : (s.raise n).admitted = s.admitted := rfl
@[simp] theorem State.raise_rebuild (s : State) (n : Notice) : (s.raise n).rebuild = s.rebuild := rfl
@[simp] theorem State.raise_scenes (s : State) (n : Notice) : (s.raise n).scenes = s.scenes := rfl
@[simp] theorem State.raise_survey (s : State) (n : Notice) : (s.raise n).survey = s.survey := rfl
@[simp] theorem State.raise_live (s : State) (n : Notice) : (s.raise n).live = s.live := rfl
@[simp] theorem State.raise_adoption (s : State) (n : Notice) : (s.raise n).adoption = s.adoption := rfl
@[simp] theorem State.raise_takeList (s : State) (n : Notice) : (s.raise n).takeList = s.takeList := rfl
@[simp] theorem State.raise_sweepPos (s : State) (n : Notice) : (s.raise n).sweepPos = s.sweepPos := rfl
@[simp] theorem State.raise_hold (s : State) (n : Notice) : (s.raise n).hold = s.hold := rfl
@[simp] theorem State.raise_meter (s : State) (n : Notice) : (s.raise n).meter = s.meter := rfl

/-! ### setSource -/

@[simp] theorem State.setSource_pending (s : State) (i : Fin 16) (x : Source) : (s.setSource i x).pending = s.pending := rfl
@[simp] theorem State.setSource_block (s : State) (i : Fin 16) (x : Source) : (s.setSource i x).block = s.block := rfl
@[simp] theorem State.setSource_marks (s : State) (i : Fin 16) (x : Source) : (s.setSource i x).marks = s.marks := rfl
@[simp] theorem State.setSource_mem (s : State) (i : Fin 16) (x : Source) : (s.setSource i x).mem = s.mem := rfl
@[simp] theorem State.setSource_port (s : State) (i : Fin 16) (x : Source) : (s.setSource i x).port = s.port := rfl
@[simp] theorem State.setSource_linkA (s : State) (i : Fin 16) (x : Source) : (s.setSource i x).linkA = s.linkA := rfl
@[simp] theorem State.setSource_linkB (s : State) (i : Fin 16) (x : Source) : (s.setSource i x).linkB = s.linkB := rfl
@[simp] theorem State.setSource_sources (s : State) (i : Fin 16) (x : Source) : (s.setSource i x).sources = s.sources.set i.val x := rfl
@[simp] theorem State.setSource_nom (s : State) (i : Fin 16) (x : Source) : (s.setSource i x).nom = s.nom := rfl
@[simp] theorem State.setSource_zones (s : State) (i : Fin 16) (x : Source) : (s.setSource i x).zones = s.zones := rfl
@[simp] theorem State.setSource_outIndex (s : State) (i : Fin 16) (x : Source) : (s.setSource i x).outIndex = s.outIndex := rfl
@[simp] theorem State.setSource_outSlots (s : State) (i : Fin 16) (x : Source) : (s.setSource i x).outSlots = s.outSlots := rfl
@[simp] theorem State.setSource_fillsTaken (s : State) (i : Fin 16) (x : Source) : (s.setSource i x).fillsTaken = s.fillsTaken := rfl
@[simp] theorem State.setSource_routes (s : State) (i : Fin 16) (x : Source) : (s.setSource i x).routes = s.routes := rfl
@[simp] theorem State.setSource_unserved (s : State) (i : Fin 16) (x : Source) : (s.setSource i x).unserved = s.unserved := rfl
@[simp] theorem State.setSource_admitted (s : State) (i : Fin 16) (x : Source) : (s.setSource i x).admitted = s.admitted := rfl
@[simp] theorem State.setSource_rebuild (s : State) (i : Fin 16) (x : Source) : (s.setSource i x).rebuild = s.rebuild := rfl
@[simp] theorem State.setSource_scenes (s : State) (i : Fin 16) (x : Source) : (s.setSource i x).scenes = s.scenes := rfl
@[simp] theorem State.setSource_survey (s : State) (i : Fin 16) (x : Source) : (s.setSource i x).survey = s.survey := rfl
@[simp] theorem State.setSource_live (s : State) (i : Fin 16) (x : Source) : (s.setSource i x).live = s.live := rfl
@[simp] theorem State.setSource_adoption (s : State) (i : Fin 16) (x : Source) : (s.setSource i x).adoption = s.adoption := rfl
@[simp] theorem State.setSource_takeList (s : State) (i : Fin 16) (x : Source) : (s.setSource i x).takeList = s.takeList := rfl
@[simp] theorem State.setSource_sweepPos (s : State) (i : Fin 16) (x : Source) : (s.setSource i x).sweepPos = s.sweepPos := rfl
@[simp] theorem State.setSource_hold (s : State) (i : Fin 16) (x : Source) : (s.setSource i x).hold = s.hold := rfl
@[simp] theorem State.setSource_meter (s : State) (i : Fin 16) (x : Source) : (s.setSource i x).meter = s.meter := rfl

/-! ### setZone -/

@[simp] theorem State.setZone_pending (s : State) (z : Fin 24) (x : Zone) : (s.setZone z x).pending = s.pending := rfl
@[simp] theorem State.setZone_block (s : State) (z : Fin 24) (x : Zone) : (s.setZone z x).block = s.block := rfl
@[simp] theorem State.setZone_marks (s : State) (z : Fin 24) (x : Zone) : (s.setZone z x).marks = s.marks := rfl
@[simp] theorem State.setZone_mem (s : State) (z : Fin 24) (x : Zone) : (s.setZone z x).mem = s.mem := rfl
@[simp] theorem State.setZone_port (s : State) (z : Fin 24) (x : Zone) : (s.setZone z x).port = s.port := rfl
@[simp] theorem State.setZone_linkA (s : State) (z : Fin 24) (x : Zone) : (s.setZone z x).linkA = s.linkA := rfl
@[simp] theorem State.setZone_linkB (s : State) (z : Fin 24) (x : Zone) : (s.setZone z x).linkB = s.linkB := rfl
@[simp] theorem State.setZone_sources (s : State) (z : Fin 24) (x : Zone) : (s.setZone z x).sources = s.sources := rfl
@[simp] theorem State.setZone_nom (s : State) (z : Fin 24) (x : Zone) : (s.setZone z x).nom = s.nom := rfl
@[simp] theorem State.setZone_zones (s : State) (z : Fin 24) (x : Zone) : (s.setZone z x).zones = s.zones.set z.val x := rfl
@[simp] theorem State.setZone_outIndex (s : State) (z : Fin 24) (x : Zone) : (s.setZone z x).outIndex = s.outIndex := rfl
@[simp] theorem State.setZone_outSlots (s : State) (z : Fin 24) (x : Zone) : (s.setZone z x).outSlots = s.outSlots := rfl
@[simp] theorem State.setZone_fillsTaken (s : State) (z : Fin 24) (x : Zone) : (s.setZone z x).fillsTaken = s.fillsTaken := rfl
@[simp] theorem State.setZone_routes (s : State) (z : Fin 24) (x : Zone) : (s.setZone z x).routes = s.routes := rfl
@[simp] theorem State.setZone_unserved (s : State) (z : Fin 24) (x : Zone) : (s.setZone z x).unserved = s.unserved := rfl
@[simp] theorem State.setZone_admitted (s : State) (z : Fin 24) (x : Zone) : (s.setZone z x).admitted = s.admitted := rfl
@[simp] theorem State.setZone_rebuild (s : State) (z : Fin 24) (x : Zone) : (s.setZone z x).rebuild = s.rebuild := rfl
@[simp] theorem State.setZone_scenes (s : State) (z : Fin 24) (x : Zone) : (s.setZone z x).scenes = s.scenes := rfl
@[simp] theorem State.setZone_survey (s : State) (z : Fin 24) (x : Zone) : (s.setZone z x).survey = s.survey := rfl
@[simp] theorem State.setZone_live (s : State) (z : Fin 24) (x : Zone) : (s.setZone z x).live = s.live := rfl
@[simp] theorem State.setZone_adoption (s : State) (z : Fin 24) (x : Zone) : (s.setZone z x).adoption = s.adoption := rfl
@[simp] theorem State.setZone_takeList (s : State) (z : Fin 24) (x : Zone) : (s.setZone z x).takeList = s.takeList := rfl
@[simp] theorem State.setZone_sweepPos (s : State) (z : Fin 24) (x : Zone) : (s.setZone z x).sweepPos = s.sweepPos := rfl
@[simp] theorem State.setZone_hold (s : State) (z : Fin 24) (x : Zone) : (s.setZone z x).hold = s.hold := rfl
@[simp] theorem State.setZone_meter (s : State) (z : Fin 24) (x : Zone) : (s.setZone z x).meter = s.meter := rfl

/-! ### mapSources -/

@[simp] theorem State.mapSources_pending (s : State) (f : Fin 16 → Source → Source) : (s.mapSources f).pending = s.pending := rfl
@[simp] theorem State.mapSources_block (s : State) (f : Fin 16 → Source → Source) : (s.mapSources f).block = s.block := rfl
@[simp] theorem State.mapSources_marks (s : State) (f : Fin 16 → Source → Source) : (s.mapSources f).marks = s.marks := rfl
@[simp] theorem State.mapSources_mem (s : State) (f : Fin 16 → Source → Source) : (s.mapSources f).mem = s.mem := rfl
@[simp] theorem State.mapSources_port (s : State) (f : Fin 16 → Source → Source) : (s.mapSources f).port = s.port := rfl
@[simp] theorem State.mapSources_linkA (s : State) (f : Fin 16 → Source → Source) : (s.mapSources f).linkA = s.linkA := rfl
@[simp] theorem State.mapSources_linkB (s : State) (f : Fin 16 → Source → Source) : (s.mapSources f).linkB = s.linkB := rfl
@[simp] theorem State.mapSources_sources (s : State) (f : Fin 16 → Source → Source) : (s.mapSources f).sources = allSources.map (fun i => f i (s.source i)) := rfl
@[simp] theorem State.mapSources_nom (s : State) (f : Fin 16 → Source → Source) : (s.mapSources f).nom = s.nom := rfl
@[simp] theorem State.mapSources_zones (s : State) (f : Fin 16 → Source → Source) : (s.mapSources f).zones = s.zones := rfl
@[simp] theorem State.mapSources_outIndex (s : State) (f : Fin 16 → Source → Source) : (s.mapSources f).outIndex = s.outIndex := rfl
@[simp] theorem State.mapSources_outSlots (s : State) (f : Fin 16 → Source → Source) : (s.mapSources f).outSlots = s.outSlots := rfl
@[simp] theorem State.mapSources_fillsTaken (s : State) (f : Fin 16 → Source → Source) : (s.mapSources f).fillsTaken = s.fillsTaken := rfl
@[simp] theorem State.mapSources_routes (s : State) (f : Fin 16 → Source → Source) : (s.mapSources f).routes = s.routes := rfl
@[simp] theorem State.mapSources_unserved (s : State) (f : Fin 16 → Source → Source) : (s.mapSources f).unserved = s.unserved := rfl
@[simp] theorem State.mapSources_admitted (s : State) (f : Fin 16 → Source → Source) : (s.mapSources f).admitted = s.admitted := rfl
@[simp] theorem State.mapSources_rebuild (s : State) (f : Fin 16 → Source → Source) : (s.mapSources f).rebuild = s.rebuild := rfl
@[simp] theorem State.mapSources_scenes (s : State) (f : Fin 16 → Source → Source) : (s.mapSources f).scenes = s.scenes := rfl
@[simp] theorem State.mapSources_survey (s : State) (f : Fin 16 → Source → Source) : (s.mapSources f).survey = s.survey := rfl
@[simp] theorem State.mapSources_live (s : State) (f : Fin 16 → Source → Source) : (s.mapSources f).live = s.live := rfl
@[simp] theorem State.mapSources_adoption (s : State) (f : Fin 16 → Source → Source) : (s.mapSources f).adoption = s.adoption := rfl
@[simp] theorem State.mapSources_takeList (s : State) (f : Fin 16 → Source → Source) : (s.mapSources f).takeList = s.takeList := rfl
@[simp] theorem State.mapSources_sweepPos (s : State) (f : Fin 16 → Source → Source) : (s.mapSources f).sweepPos = s.sweepPos := rfl
@[simp] theorem State.mapSources_hold (s : State) (f : Fin 16 → Source → Source) : (s.mapSources f).hold = s.hold := rfl
@[simp] theorem State.mapSources_meter (s : State) (f : Fin 16 → Source → Source) : (s.mapSources f).meter = s.meter := rfl

/-! ### mapZones -/

@[simp] theorem State.mapZones_pending (s : State) (f : Fin 24 → Zone → Zone) : (s.mapZones f).pending = s.pending := rfl
@[simp] theorem State.mapZones_block (s : State) (f : Fin 24 → Zone → Zone) : (s.mapZones f).block = s.block := rfl
@[simp] theorem State.mapZones_marks (s : State) (f : Fin 24 → Zone → Zone) : (s.mapZones f).marks = s.marks := rfl
@[simp] theorem State.mapZones_mem (s : State) (f : Fin 24 → Zone → Zone) : (s.mapZones f).mem = s.mem := rfl
@[simp] theorem State.mapZones_port (s : State) (f : Fin 24 → Zone → Zone) : (s.mapZones f).port = s.port := rfl
@[simp] theorem State.mapZones_linkA (s : State) (f : Fin 24 → Zone → Zone) : (s.mapZones f).linkA = s.linkA := rfl
@[simp] theorem State.mapZones_linkB (s : State) (f : Fin 24 → Zone → Zone) : (s.mapZones f).linkB = s.linkB := rfl
@[simp] theorem State.mapZones_sources (s : State) (f : Fin 24 → Zone → Zone) : (s.mapZones f).sources = s.sources := rfl
@[simp] theorem State.mapZones_nom (s : State) (f : Fin 24 → Zone → Zone) : (s.mapZones f).nom = s.nom := rfl
@[simp] theorem State.mapZones_zones (s : State) (f : Fin 24 → Zone → Zone) : (s.mapZones f).zones = allZones.map (fun z => f z (s.zone z)) := rfl
@[simp] theorem State.mapZones_outIndex (s : State) (f : Fin 24 → Zone → Zone) : (s.mapZones f).outIndex = s.outIndex := rfl
@[simp] theorem State.mapZones_outSlots (s : State) (f : Fin 24 → Zone → Zone) : (s.mapZones f).outSlots = s.outSlots := rfl
@[simp] theorem State.mapZones_fillsTaken (s : State) (f : Fin 24 → Zone → Zone) : (s.mapZones f).fillsTaken = s.fillsTaken := rfl
@[simp] theorem State.mapZones_routes (s : State) (f : Fin 24 → Zone → Zone) : (s.mapZones f).routes = s.routes := rfl
@[simp] theorem State.mapZones_unserved (s : State) (f : Fin 24 → Zone → Zone) : (s.mapZones f).unserved = s.unserved := rfl
@[simp] theorem State.mapZones_admitted (s : State) (f : Fin 24 → Zone → Zone) : (s.mapZones f).admitted = s.admitted := rfl
@[simp] theorem State.mapZones_rebuild (s : State) (f : Fin 24 → Zone → Zone) : (s.mapZones f).rebuild = s.rebuild := rfl
@[simp] theorem State.mapZones_scenes (s : State) (f : Fin 24 → Zone → Zone) : (s.mapZones f).scenes = s.scenes := rfl
@[simp] theorem State.mapZones_survey (s : State) (f : Fin 24 → Zone → Zone) : (s.mapZones f).survey = s.survey := rfl
@[simp] theorem State.mapZones_live (s : State) (f : Fin 24 → Zone → Zone) : (s.mapZones f).live = s.live := rfl
@[simp] theorem State.mapZones_adoption (s : State) (f : Fin 24 → Zone → Zone) : (s.mapZones f).adoption = s.adoption := rfl
@[simp] theorem State.mapZones_takeList (s : State) (f : Fin 24 → Zone → Zone) : (s.mapZones f).takeList = s.takeList := rfl
@[simp] theorem State.mapZones_sweepPos (s : State) (f : Fin 24 → Zone → Zone) : (s.mapZones f).sweepPos = s.sweepPos := rfl
@[simp] theorem State.mapZones_hold (s : State) (f : Fin 24 → Zone → Zone) : (s.mapZones f).hold = s.hold := rfl
@[simp] theorem State.mapZones_meter (s : State) (f : Fin 24 → Zone → Zone) : (s.mapZones f).meter = s.meter := rfl

/-! ### mapRoutes -/

@[simp] theorem State.mapRoutes_pending (s : State) (f : Entry → Entry) : (s.mapRoutes f).pending = s.pending := rfl
@[simp] theorem State.mapRoutes_block (s : State) (f : Entry → Entry) : (s.mapRoutes f).block = s.block := rfl
@[simp] theorem State.mapRoutes_marks (s : State) (f : Entry → Entry) : (s.mapRoutes f).marks = s.marks := rfl
@[simp] theorem State.mapRoutes_mem (s : State) (f : Entry → Entry) : (s.mapRoutes f).mem = s.mem := rfl
@[simp] theorem State.mapRoutes_port (s : State) (f : Entry → Entry) : (s.mapRoutes f).port = s.port := rfl
@[simp] theorem State.mapRoutes_linkA (s : State) (f : Entry → Entry) : (s.mapRoutes f).linkA = s.linkA := rfl
@[simp] theorem State.mapRoutes_linkB (s : State) (f : Entry → Entry) : (s.mapRoutes f).linkB = s.linkB := rfl
@[simp] theorem State.mapRoutes_sources (s : State) (f : Entry → Entry) : (s.mapRoutes f).sources = s.sources := rfl
@[simp] theorem State.mapRoutes_nom (s : State) (f : Entry → Entry) : (s.mapRoutes f).nom = s.nom := rfl
@[simp] theorem State.mapRoutes_zones (s : State) (f : Entry → Entry) : (s.mapRoutes f).zones = s.zones := rfl
@[simp] theorem State.mapRoutes_outIndex (s : State) (f : Entry → Entry) : (s.mapRoutes f).outIndex = s.outIndex := rfl
@[simp] theorem State.mapRoutes_outSlots (s : State) (f : Entry → Entry) : (s.mapRoutes f).outSlots = s.outSlots := rfl
@[simp] theorem State.mapRoutes_fillsTaken (s : State) (f : Entry → Entry) : (s.mapRoutes f).fillsTaken = s.fillsTaken := rfl
@[simp] theorem State.mapRoutes_routes (s : State) (f : Entry → Entry) : (s.mapRoutes f).routes = s.routes.map f := rfl
@[simp] theorem State.mapRoutes_unserved (s : State) (f : Entry → Entry) : (s.mapRoutes f).unserved = s.unserved := rfl
@[simp] theorem State.mapRoutes_admitted (s : State) (f : Entry → Entry) : (s.mapRoutes f).admitted = s.admitted := rfl
@[simp] theorem State.mapRoutes_rebuild (s : State) (f : Entry → Entry) : (s.mapRoutes f).rebuild = s.rebuild := rfl
@[simp] theorem State.mapRoutes_scenes (s : State) (f : Entry → Entry) : (s.mapRoutes f).scenes = s.scenes := rfl
@[simp] theorem State.mapRoutes_survey (s : State) (f : Entry → Entry) : (s.mapRoutes f).survey = s.survey := rfl
@[simp] theorem State.mapRoutes_live (s : State) (f : Entry → Entry) : (s.mapRoutes f).live = s.live := rfl
@[simp] theorem State.mapRoutes_adoption (s : State) (f : Entry → Entry) : (s.mapRoutes f).adoption = s.adoption := rfl
@[simp] theorem State.mapRoutes_takeList (s : State) (f : Entry → Entry) : (s.mapRoutes f).takeList = s.takeList := rfl
@[simp] theorem State.mapRoutes_sweepPos (s : State) (f : Entry → Entry) : (s.mapRoutes f).sweepPos = s.sweepPos := rfl
@[simp] theorem State.mapRoutes_hold (s : State) (f : Entry → Entry) : (s.mapRoutes f).hold = s.hold := rfl
@[simp] theorem State.mapRoutes_meter (s : State) (f : Entry → Entry) : (s.mapRoutes f).meter = s.meter := rfl

/-! ### requestRebuild -/

@[simp] theorem State.requestRebuild_pending (s : State) : (s.requestRebuild).pending = s.pending := rfl
@[simp] theorem State.requestRebuild_block (s : State) : (s.requestRebuild).block = s.block := rfl
@[simp] theorem State.requestRebuild_marks (s : State) : (s.requestRebuild).marks = s.marks := rfl
@[simp] theorem State.requestRebuild_mem (s : State) : (s.requestRebuild).mem = s.mem := rfl
@[simp] theorem State.requestRebuild_port (s : State) : (s.requestRebuild).port = s.port := rfl
@[simp] theorem State.requestRebuild_linkA (s : State) : (s.requestRebuild).linkA = s.linkA := rfl
@[simp] theorem State.requestRebuild_linkB (s : State) : (s.requestRebuild).linkB = s.linkB := rfl
@[simp] theorem State.requestRebuild_sources (s : State) : (s.requestRebuild).sources = s.sources := rfl
@[simp] theorem State.requestRebuild_nom (s : State) : (s.requestRebuild).nom = s.nom := rfl
@[simp] theorem State.requestRebuild_zones (s : State) : (s.requestRebuild).zones = s.zones := rfl
@[simp] theorem State.requestRebuild_outIndex (s : State) : (s.requestRebuild).outIndex = s.outIndex := rfl
@[simp] theorem State.requestRebuild_outSlots (s : State) : (s.requestRebuild).outSlots = s.outSlots := rfl
@[simp] theorem State.requestRebuild_fillsTaken (s : State) : (s.requestRebuild).fillsTaken = s.fillsTaken := rfl
@[simp] theorem State.requestRebuild_routes (s : State) : (s.requestRebuild).routes = s.routes := rfl
@[simp] theorem State.requestRebuild_unserved (s : State) : (s.requestRebuild).unserved = s.unserved := rfl
@[simp] theorem State.requestRebuild_admitted (s : State) : (s.requestRebuild).admitted = s.admitted := rfl
@[simp] theorem State.requestRebuild_rebuild (s : State) : (s.requestRebuild).rebuild = if s.rebuild = .forced then .forced else .requested := rfl
@[simp] theorem State.requestRebuild_scenes (s : State) : (s.requestRebuild).scenes = s.scenes := rfl
@[simp] theorem State.requestRebuild_survey (s : State) : (s.requestRebuild).survey = s.survey := rfl
@[simp] theorem State.requestRebuild_live (s : State) : (s.requestRebuild).live = s.live := rfl
@[simp] theorem State.requestRebuild_adoption (s : State) : (s.requestRebuild).adoption = s.adoption := rfl
@[simp] theorem State.requestRebuild_takeList (s : State) : (s.requestRebuild).takeList = s.takeList := rfl
@[simp] theorem State.requestRebuild_sweepPos (s : State) : (s.requestRebuild).sweepPos = s.sweepPos := rfl
@[simp] theorem State.requestRebuild_hold (s : State) : (s.requestRebuild).hold = s.hold := rfl
@[simp] theorem State.requestRebuild_meter (s : State) : (s.requestRebuild).meter = s.meter := rfl

/-! ### countNom -/

@[simp] theorem State.countNom_pending (s : State) : (s.countNom).pending = s.pending := rfl
@[simp] theorem State.countNom_block (s : State) : (s.countNom).block = s.block := rfl
@[simp] theorem State.countNom_marks (s : State) : (s.countNom).marks = s.marks := rfl
@[simp] theorem State.countNom_mem (s : State) : (s.countNom).mem = s.mem := rfl
@[simp] theorem State.countNom_port (s : State) : (s.countNom).port = s.port := rfl
@[simp] theorem State.countNom_linkA (s : State) : (s.countNom).linkA = s.linkA := rfl
@[simp] theorem State.countNom_linkB (s : State) : (s.countNom).linkB = s.linkB := rfl
@[simp] theorem State.countNom_sources (s : State) : (s.countNom).sources = s.sources := rfl
@[simp] theorem State.countNom_nom (s : State) : (s.countNom).nom = s.countedGates := rfl
@[simp] theorem State.countNom_zones (s : State) : (s.countNom).zones = s.zones := rfl
@[simp] theorem State.countNom_outIndex (s : State) : (s.countNom).outIndex = s.outIndex := rfl
@[simp] theorem State.countNom_outSlots (s : State) : (s.countNom).outSlots = s.outSlots := rfl
@[simp] theorem State.countNom_fillsTaken (s : State) : (s.countNom).fillsTaken = s.fillsTaken := rfl
@[simp] theorem State.countNom_routes (s : State) : (s.countNom).routes = s.routes := rfl
@[simp] theorem State.countNom_unserved (s : State) : (s.countNom).unserved = s.unserved := rfl
@[simp] theorem State.countNom_admitted (s : State) : (s.countNom).admitted = s.admitted := rfl
@[simp] theorem State.countNom_rebuild (s : State) : (s.countNom).rebuild = s.rebuild := rfl
@[simp] theorem State.countNom_scenes (s : State) : (s.countNom).scenes = s.scenes := rfl
@[simp] theorem State.countNom_survey (s : State) : (s.countNom).survey = s.survey := rfl
@[simp] theorem State.countNom_live (s : State) : (s.countNom).live = s.live := rfl
@[simp] theorem State.countNom_adoption (s : State) : (s.countNom).adoption = s.adoption := rfl
@[simp] theorem State.countNom_takeList (s : State) : (s.countNom).takeList = s.takeList := rfl
@[simp] theorem State.countNom_sweepPos (s : State) : (s.countNom).sweepPos = s.sweepPos := rfl
@[simp] theorem State.countNom_hold (s : State) : (s.countNom).hold = s.hold := rfl
@[simp] theorem State.countNom_meter (s : State) : (s.countNom).meter = s.meter := rfl

/-! ### refreshHold -/

@[simp] theorem State.refreshHold_pending (s : State) : (s.refreshHold).pending = s.pending := rfl
@[simp] theorem State.refreshHold_block (s : State) : (s.refreshHold).block = s.block := rfl
@[simp] theorem State.refreshHold_marks (s : State) : (s.refreshHold).marks = s.marks := rfl
@[simp] theorem State.refreshHold_mem (s : State) : (s.refreshHold).mem = s.mem := rfl
@[simp] theorem State.refreshHold_port (s : State) : (s.refreshHold).port = s.port := rfl
@[simp] theorem State.refreshHold_linkA (s : State) : (s.refreshHold).linkA = s.linkA := rfl
@[simp] theorem State.refreshHold_linkB (s : State) : (s.refreshHold).linkB = s.linkB := rfl
@[simp] theorem State.refreshHold_sources (s : State) : (s.refreshHold).sources = s.sources := rfl
@[simp] theorem State.refreshHold_nom (s : State) : (s.refreshHold).nom = s.nom := rfl
@[simp] theorem State.refreshHold_zones (s : State) : (s.refreshHold).zones = s.zones := rfl
@[simp] theorem State.refreshHold_outIndex (s : State) : (s.refreshHold).outIndex = s.outIndex := rfl
@[simp] theorem State.refreshHold_outSlots (s : State) : (s.refreshHold).outSlots = s.outSlots := rfl
@[simp] theorem State.refreshHold_fillsTaken (s : State) : (s.refreshHold).fillsTaken = s.fillsTaken := rfl
@[simp] theorem State.refreshHold_routes (s : State) : (s.refreshHold).routes = s.routes := rfl
@[simp] theorem State.refreshHold_unserved (s : State) : (s.refreshHold).unserved = s.unserved := rfl
@[simp] theorem State.refreshHold_admitted (s : State) : (s.refreshHold).admitted = s.admitted := rfl
@[simp] theorem State.refreshHold_rebuild (s : State) : (s.refreshHold).rebuild = s.rebuild := rfl
@[simp] theorem State.refreshHold_scenes (s : State) : (s.refreshHold).scenes = s.scenes := rfl
@[simp] theorem State.refreshHold_survey (s : State) : (s.refreshHold).survey = s.survey := rfl
@[simp] theorem State.refreshHold_live (s : State) : (s.refreshHold).live = s.live := rfl
@[simp] theorem State.refreshHold_adoption (s : State) : (s.refreshHold).adoption = s.adoption := rfl
@[simp] theorem State.refreshHold_takeList (s : State) : (s.refreshHold).takeList = s.takeList := rfl
@[simp] theorem State.refreshHold_sweepPos (s : State) : (s.refreshHold).sweepPos = s.sweepPos := rfl
@[simp] theorem State.refreshHold_hold (s : State) : (s.refreshHold).hold = holdDecision s.intakeHolding s.survey.phase := rfl
@[simp] theorem State.refreshHold_meter (s : State) : (s.refreshHold).meter = s.meter := rfl

/-! ### decideHold -/

@[simp] theorem State.decideHold_pending (s : State) : (s.decideHold).pending = s.pending := rfl
@[simp] theorem State.decideHold_block (s : State) : (s.decideHold).block = s.block := rfl
@[simp] theorem State.decideHold_marks (s : State) : (s.decideHold).marks = s.marks := rfl
@[simp] theorem State.decideHold_mem (s : State) : (s.decideHold).mem = s.mem := rfl
@[simp] theorem State.decideHold_port (s : State) : (s.decideHold).port = s.port := rfl
@[simp] theorem State.decideHold_linkA (s : State) : (s.decideHold).linkA = s.linkA := rfl
@[simp] theorem State.decideHold_linkB (s : State) : (s.decideHold).linkB = s.linkB := rfl
@[simp] theorem State.decideHold_sources (s : State) : (s.decideHold).sources = s.sources := rfl
@[simp] theorem State.decideHold_nom (s : State) : (s.decideHold).nom = s.nom := rfl
@[simp] theorem State.decideHold_zones (s : State) : (s.decideHold).zones = s.zones := rfl
@[simp] theorem State.decideHold_outIndex (s : State) : (s.decideHold).outIndex = s.outIndex := rfl
@[simp] theorem State.decideHold_outSlots (s : State) : (s.decideHold).outSlots = s.outSlots := rfl
@[simp] theorem State.decideHold_fillsTaken (s : State) : (s.decideHold).fillsTaken = s.fillsTaken := rfl
@[simp] theorem State.decideHold_routes (s : State) : (s.decideHold).routes = s.routes := rfl
@[simp] theorem State.decideHold_unserved (s : State) : (s.decideHold).unserved = s.unserved := rfl
@[simp] theorem State.decideHold_admitted (s : State) : (s.decideHold).admitted = s.admitted := rfl
@[simp] theorem State.decideHold_rebuild (s : State) : (s.decideHold).rebuild = s.rebuild := rfl
@[simp] theorem State.decideHold_scenes (s : State) : (s.decideHold).scenes = s.scenes := rfl
@[simp] theorem State.decideHold_survey (s : State) : (s.decideHold).survey = s.survey := rfl
@[simp] theorem State.decideHold_live (s : State) : (s.decideHold).live = s.live := rfl
@[simp] theorem State.decideHold_adoption (s : State) : (s.decideHold).adoption = s.adoption := rfl
@[simp] theorem State.decideHold_takeList (s : State) : (s.decideHold).takeList = s.takeList := rfl
@[simp] theorem State.decideHold_sweepPos (s : State) : (s.decideHold).sweepPos = s.sweepPos := rfl
@[simp] theorem State.decideHold_hold (s : State) : (s.decideHold).hold = holdDecision s.port.holdIntake s.survey.phase := rfl
@[simp] theorem State.decideHold_meter (s : State) : (s.decideHold).meter = s.meter := rfl

end Sys2Proof.Machine
end

