-- ==== Sys2Proof/Laws/Frames.lean ====
section
/-! SUPPORT. The frame of every operation: the fields it leaves as they are. -/

namespace Sys2Proof.Machine

/-! ### Ops -/

@[simp] theorem State.raiseIf_frame (s : State) (c : Bool) (n : Notice) :
    (s.raiseIf c n).pending = s.pending ∧ (s.raiseIf c n).block = s.block ∧ (s.raiseIf c n).marks = s.marks ∧
    (s.raiseIf c n).mem = s.mem ∧ (s.raiseIf c n).linkA = s.linkA ∧ (s.raiseIf c n).linkB = s.linkB ∧ (s.raiseIf c
    n).sources = s.sources ∧ (s.raiseIf c n).nom = s.nom ∧ (s.raiseIf c n).zones = s.zones ∧ (s.raiseIf c
    n).outIndex = s.outIndex ∧ (s.raiseIf c n).outSlots = s.outSlots ∧ (s.raiseIf c n).fillsTaken = s.fillsTaken ∧
    (s.raiseIf c n).routes = s.routes ∧ (s.raiseIf c n).unserved = s.unserved ∧ (s.raiseIf c n).admitted =
    s.admitted ∧ (s.raiseIf c n).rebuild = s.rebuild ∧ (s.raiseIf c n).scenes = s.scenes ∧ (s.raiseIf c n).survey =
    s.survey ∧ (s.raiseIf c n).live = s.live ∧ (s.raiseIf c n).adoption = s.adoption ∧ (s.raiseIf c n).takeList =
    s.takeList ∧ (s.raiseIf c n).sweepPos = s.sweepPos ∧ (s.raiseIf c n).hold = s.hold ∧ (s.raiseIf c n).meter =
    s.meter := by
  unfold State.raiseIf
  (repeat' split) <;> simp

@[simp] theorem State.outcome_frame (s : State) (o : Origin) (claim : Bool) (code : ResultCode) (detail : Nat) :
    (s.outcome o claim code detail).pending = s.pending ∧ (s.outcome o claim code detail).block = s.block ∧
    (s.outcome o claim code detail).marks = s.marks ∧ (s.outcome o claim code detail).linkA = s.linkA ∧ (s.outcome o
    claim code detail).linkB = s.linkB ∧ (s.outcome o claim code detail).sources = s.sources ∧ (s.outcome o claim
    code detail).nom = s.nom ∧ (s.outcome o claim code detail).zones = s.zones ∧ (s.outcome o claim code
    detail).outIndex = s.outIndex ∧ (s.outcome o claim code detail).outSlots = s.outSlots ∧ (s.outcome o claim code
    detail).fillsTaken = s.fillsTaken ∧ (s.outcome o claim code detail).routes = s.routes ∧ (s.outcome o claim code
    detail).unserved = s.unserved ∧ (s.outcome o claim code detail).admitted = s.admitted ∧ (s.outcome o claim code
    detail).rebuild = s.rebuild ∧ (s.outcome o claim code detail).scenes = s.scenes ∧ (s.outcome o claim code
    detail).survey = s.survey ∧ (s.outcome o claim code detail).live = s.live ∧ (s.outcome o claim code
    detail).adoption = s.adoption ∧ (s.outcome o claim code detail).takeList = s.takeList ∧ (s.outcome o claim code
    detail).sweepPos = s.sweepPos ∧ (s.outcome o claim code detail).hold = s.hold ∧ (s.outcome o claim code
    detail).meter = s.meter := by
  unfold State.outcome
  (repeat' split) <;> simp

/-! ### Links -/

@[simp] theorem State.inputPeriod_frame (s : State) (a b : LinkFrame) :
    (s.inputPeriod a b).pending = s.pending ∧ (s.inputPeriod a b).block = s.block ∧ (s.inputPeriod a b).marks =
    s.marks ∧ (s.inputPeriod a b).mem = s.mem ∧ (s.inputPeriod a b).nom = s.nom ∧ (s.inputPeriod a b).zones =
    s.zones ∧ (s.inputPeriod a b).outIndex = s.outIndex ∧ (s.inputPeriod a b).outSlots = s.outSlots ∧ (s.inputPeriod
    a b).fillsTaken = s.fillsTaken ∧ (s.inputPeriod a b).routes = s.routes ∧ (s.inputPeriod a b).unserved =
    s.unserved ∧ (s.inputPeriod a b).admitted = s.admitted ∧ (s.inputPeriod a b).rebuild = s.rebuild ∧
    (s.inputPeriod a b).scenes = s.scenes ∧ (s.inputPeriod a b).survey = s.survey ∧ (s.inputPeriod a b).live =
    s.live ∧ (s.inputPeriod a b).adoption = s.adoption ∧ (s.inputPeriod a b).takeList = s.takeList ∧ (s.inputPeriod
    a b).sweepPos = s.sweepPos ∧ (s.inputPeriod a b).hold = s.hold ∧ (s.inputPeriod a b).meter = s.meter := by
  unfold State.inputPeriod
  simp

@[simp] theorem State.inputPeriodOf_frame (s : State) (l : LinkId) (a b : LinkFrame) :
    (s.inputPeriodOf l a b).pending = s.pending ∧ (s.inputPeriodOf l a b).block = s.block ∧ (s.inputPeriodOf l a
    b).marks = s.marks ∧ (s.inputPeriodOf l a b).mem = s.mem ∧ (s.inputPeriodOf l a b).nom = s.nom ∧
    (s.inputPeriodOf l a b).zones = s.zones ∧ (s.inputPeriodOf l a b).outIndex = s.outIndex ∧ (s.inputPeriodOf l a
    b).outSlots = s.outSlots ∧ (s.inputPeriodOf l a b).fillsTaken = s.fillsTaken ∧ (s.inputPeriodOf l a b).routes =
    s.routes ∧ (s.inputPeriodOf l a b).unserved = s.unserved ∧ (s.inputPeriodOf l a b).admitted = s.admitted ∧
    (s.inputPeriodOf l a b).rebuild = s.rebuild ∧ (s.inputPeriodOf l a b).scenes = s.scenes ∧ (s.inputPeriodOf l a
    b).survey = s.survey ∧ (s.inputPeriodOf l a b).live = s.live ∧ (s.inputPeriodOf l a b).adoption = s.adoption ∧
    (s.inputPeriodOf l a b).takeList = s.takeList ∧ (s.inputPeriodOf l a b).sweepPos = s.sweepPos ∧ (s.inputPeriodOf
    l a b).hold = s.hold ∧ (s.inputPeriodOf l a b).meter = s.meter := by
  unfold State.inputPeriodOf
  (repeat' split) <;> simp

@[simp] theorem State.outputPeriod_frame (s : State) :
    (s.outputPeriod).pending = s.pending ∧ (s.outputPeriod).block = s.block ∧ (s.outputPeriod).marks = s.marks ∧
    (s.outputPeriod).mem = s.mem ∧ (s.outputPeriod).port = s.port ∧ (s.outputPeriod).linkA = s.linkA ∧
    (s.outputPeriod).linkB = s.linkB ∧ (s.outputPeriod).sources = s.sources ∧ (s.outputPeriod).nom = s.nom ∧
    (s.outputPeriod).zones = s.zones ∧ (s.outputPeriod).routes = s.routes ∧ (s.outputPeriod).unserved = s.unserved ∧
    (s.outputPeriod).admitted = s.admitted ∧ (s.outputPeriod).rebuild = s.rebuild ∧ (s.outputPeriod).scenes =
    s.scenes ∧ (s.outputPeriod).survey = s.survey ∧ (s.outputPeriod).live = s.live ∧ (s.outputPeriod).adoption =
    s.adoption ∧ (s.outputPeriod).takeList = s.takeList ∧ (s.outputPeriod).sweepPos = s.sweepPos ∧
    (s.outputPeriod).hold = s.hold ∧ (s.outputPeriod).meter = s.meter := by
  unfold State.outputPeriod
  simp

/-! ### Gates -/

@[simp] theorem State.measureLevels_frame (s : State) :
    (s.measureLevels).pending = s.pending ∧ (s.measureLevels).block = s.block ∧ (s.measureLevels).marks = s.marks ∧
    (s.measureLevels).mem = s.mem ∧ (s.measureLevels).port = s.port ∧ (s.measureLevels).linkA = s.linkA ∧
    (s.measureLevels).linkB = s.linkB ∧ (s.measureLevels).sources = s.sources ∧ (s.measureLevels).nom = s.nom ∧
    (s.measureLevels).zones = s.zones ∧ (s.measureLevels).outIndex = s.outIndex ∧ (s.measureLevels).outSlots =
    s.outSlots ∧ (s.measureLevels).fillsTaken = s.fillsTaken ∧ (s.measureLevels).routes = s.routes ∧
    (s.measureLevels).unserved = s.unserved ∧ (s.measureLevels).admitted = s.admitted ∧ (s.measureLevels).rebuild =
    s.rebuild ∧ (s.measureLevels).scenes = s.scenes ∧ (s.measureLevels).survey = s.survey ∧ (s.measureLevels).live =
    s.live ∧ (s.measureLevels).adoption = s.adoption ∧ (s.measureLevels).takeList = s.takeList ∧
    (s.measureLevels).sweepPos = s.sweepPos ∧ (s.measureLevels).hold = s.hold := by
  unfold State.measureLevels
  simp

@[simp] theorem State.updateFloors_frame (s : State) :
    (s.updateFloors).pending = s.pending ∧ (s.updateFloors).block = s.block ∧ (s.updateFloors).marks = s.marks ∧
    (s.updateFloors).mem = s.mem ∧ (s.updateFloors).port = s.port ∧ (s.updateFloors).linkA = s.linkA ∧
    (s.updateFloors).linkB = s.linkB ∧ (s.updateFloors).nom = s.nom ∧ (s.updateFloors).zones = s.zones ∧
    (s.updateFloors).outIndex = s.outIndex ∧ (s.updateFloors).outSlots = s.outSlots ∧ (s.updateFloors).fillsTaken =
    s.fillsTaken ∧ (s.updateFloors).routes = s.routes ∧ (s.updateFloors).unserved = s.unserved ∧
    (s.updateFloors).admitted = s.admitted ∧ (s.updateFloors).rebuild = s.rebuild ∧ (s.updateFloors).scenes =
    s.scenes ∧ (s.updateFloors).survey = s.survey ∧ (s.updateFloors).live = s.live ∧ (s.updateFloors).adoption =
    s.adoption ∧ (s.updateFloors).takeList = s.takeList ∧ (s.updateFloors).sweepPos = s.sweepPos ∧
    (s.updateFloors).hold = s.hold ∧ (s.updateFloors).meter = s.meter := by
  unfold State.updateFloors
  simp

@[simp] theorem State.placeGates_frame (s : State) (g : List (GateState × Nat)) :
    (s.placeGates g).pending = s.pending ∧ (s.placeGates g).block = s.block ∧ (s.placeGates g).marks = s.marks ∧
    (s.placeGates g).mem = s.mem ∧ (s.placeGates g).port = s.port ∧ (s.placeGates g).linkA = s.linkA ∧ (s.placeGates
    g).linkB = s.linkB ∧ (s.placeGates g).nom = s.nom ∧ (s.placeGates g).zones = s.zones ∧ (s.placeGates g).outIndex
    = s.outIndex ∧ (s.placeGates g).outSlots = s.outSlots ∧ (s.placeGates g).fillsTaken = s.fillsTaken ∧
    (s.placeGates g).routes = s.routes ∧ (s.placeGates g).unserved = s.unserved ∧ (s.placeGates g).admitted =
    s.admitted ∧ (s.placeGates g).rebuild = s.rebuild ∧ (s.placeGates g).scenes = s.scenes ∧ (s.placeGates g).survey
    = s.survey ∧ (s.placeGates g).live = s.live ∧ (s.placeGates g).adoption = s.adoption ∧ (s.placeGates g).takeList
    = s.takeList ∧ (s.placeGates g).sweepPos = s.sweepPos ∧ (s.placeGates g).hold = s.hold ∧ (s.placeGates g).meter
    = s.meter := by
  unfold State.placeGates
  simp

@[simp] theorem State.unsetLostFloors_frame (s : State) :
    (s.unsetLostFloors).pending = s.pending ∧ (s.unsetLostFloors).block = s.block ∧ (s.unsetLostFloors).marks =
    s.marks ∧ (s.unsetLostFloors).mem = s.mem ∧ (s.unsetLostFloors).port = s.port ∧ (s.unsetLostFloors).linkA =
    s.linkA ∧ (s.unsetLostFloors).linkB = s.linkB ∧ (s.unsetLostFloors).nom = s.nom ∧ (s.unsetLostFloors).zones =
    s.zones ∧ (s.unsetLostFloors).outIndex = s.outIndex ∧ (s.unsetLostFloors).outSlots = s.outSlots ∧
    (s.unsetLostFloors).fillsTaken = s.fillsTaken ∧ (s.unsetLostFloors).routes = s.routes ∧
    (s.unsetLostFloors).unserved = s.unserved ∧ (s.unsetLostFloors).admitted = s.admitted ∧
    (s.unsetLostFloors).rebuild = s.rebuild ∧ (s.unsetLostFloors).scenes = s.scenes ∧ (s.unsetLostFloors).survey =
    s.survey ∧ (s.unsetLostFloors).live = s.live ∧ (s.unsetLostFloors).adoption = s.adoption ∧
    (s.unsetLostFloors).takeList = s.takeList ∧ (s.unsetLostFloors).sweepPos = s.sweepPos ∧ (s.unsetLostFloors).hold
    = s.hold ∧ (s.unsetLostFloors).meter = s.meter := by
  unfold State.unsetLostFloors
  simp

@[simp] theorem State.evaluateGates_frame (s : State) :
    (s.evaluateGates).pending = s.pending ∧ (s.evaluateGates).block = s.block ∧ (s.evaluateGates).marks = s.marks ∧
    (s.evaluateGates).mem = s.mem ∧ (s.evaluateGates).linkA = s.linkA ∧ (s.evaluateGates).linkB = s.linkB ∧
    (s.evaluateGates).nom = s.nom ∧ (s.evaluateGates).zones = s.zones ∧ (s.evaluateGates).outIndex = s.outIndex ∧
    (s.evaluateGates).outSlots = s.outSlots ∧ (s.evaluateGates).fillsTaken = s.fillsTaken ∧ (s.evaluateGates).routes
    = s.routes ∧ (s.evaluateGates).unserved = s.unserved ∧ (s.evaluateGates).admitted = s.admitted ∧
    (s.evaluateGates).rebuild = s.rebuild ∧ (s.evaluateGates).scenes = s.scenes ∧ (s.evaluateGates).survey =
    s.survey ∧ (s.evaluateGates).live = s.live ∧ (s.evaluateGates).adoption = s.adoption ∧
    (s.evaluateGates).takeList = s.takeList ∧ (s.evaluateGates).sweepPos = s.sweepPos ∧ (s.evaluateGates).hold =
    s.hold ∧ (s.evaluateGates).meter = s.meter := by
  unfold State.evaluateGates
  simp

@[simp] theorem State.rearbitrate_frame (s : State) :
    (s.rearbitrate).pending = s.pending ∧ (s.rearbitrate).block = s.block ∧ (s.rearbitrate).marks = s.marks ∧
    (s.rearbitrate).mem = s.mem ∧ (s.rearbitrate).port = s.port ∧ (s.rearbitrate).linkA = s.linkA ∧
    (s.rearbitrate).linkB = s.linkB ∧ (s.rearbitrate).nom = s.nom ∧ (s.rearbitrate).zones = s.zones ∧
    (s.rearbitrate).outIndex = s.outIndex ∧ (s.rearbitrate).outSlots = s.outSlots ∧ (s.rearbitrate).fillsTaken =
    s.fillsTaken ∧ (s.rearbitrate).routes = s.routes ∧ (s.rearbitrate).unserved = s.unserved ∧
    (s.rearbitrate).admitted = s.admitted ∧ (s.rearbitrate).rebuild = s.rebuild ∧ (s.rearbitrate).scenes = s.scenes
    ∧ (s.rearbitrate).survey = s.survey ∧ (s.rearbitrate).live = s.live ∧ (s.rearbitrate).adoption = s.adoption ∧
    (s.rearbitrate).takeList = s.takeList ∧ (s.rearbitrate).sweepPos = s.sweepPos ∧ (s.rearbitrate).hold = s.hold ∧
    (s.rearbitrate).meter = s.meter := by
  unfold State.rearbitrate
  (repeat' split) <;> simp

@[simp] theorem State.lowerHolds_frame (s : State) (n : Nat) :
    (s.lowerHolds n).pending = s.pending ∧ (s.lowerHolds n).block = s.block ∧ (s.lowerHolds n).marks = s.marks ∧
    (s.lowerHolds n).mem = s.mem ∧ (s.lowerHolds n).port = s.port ∧ (s.lowerHolds n).linkA = s.linkA ∧ (s.lowerHolds
    n).linkB = s.linkB ∧ (s.lowerHolds n).nom = s.nom ∧ (s.lowerHolds n).zones = s.zones ∧ (s.lowerHolds n).outIndex
    = s.outIndex ∧ (s.lowerHolds n).outSlots = s.outSlots ∧ (s.lowerHolds n).fillsTaken = s.fillsTaken ∧
    (s.lowerHolds n).routes = s.routes ∧ (s.lowerHolds n).unserved = s.unserved ∧ (s.lowerHolds n).admitted =
    s.admitted ∧ (s.lowerHolds n).rebuild = s.rebuild ∧ (s.lowerHolds n).scenes = s.scenes ∧ (s.lowerHolds n).survey
    = s.survey ∧ (s.lowerHolds n).live = s.live ∧ (s.lowerHolds n).adoption = s.adoption ∧ (s.lowerHolds n).takeList
    = s.takeList ∧ (s.lowerHolds n).sweepPos = s.sweepPos ∧ (s.lowerHolds n).hold = s.hold ∧ (s.lowerHolds n).meter
    = s.meter := by
  unfold State.lowerHolds
  simp

@[simp] theorem State.followForces_frame (s : State) (before : Fin 16 → ForceMode) :
    (s.followForces before).pending = s.pending ∧ (s.followForces before).block = s.block ∧ (s.followForces
    before).marks = s.marks ∧ (s.followForces before).mem = s.mem ∧ (s.followForces before).port = s.port ∧
    (s.followForces before).linkA = s.linkA ∧ (s.followForces before).linkB = s.linkB ∧ (s.followForces before).nom
    = s.nom ∧ (s.followForces before).zones = s.zones ∧ (s.followForces before).outIndex = s.outIndex ∧
    (s.followForces before).outSlots = s.outSlots ∧ (s.followForces before).fillsTaken = s.fillsTaken ∧
    (s.followForces before).routes = s.routes ∧ (s.followForces before).unserved = s.unserved ∧ (s.followForces
    before).admitted = s.admitted ∧ (s.followForces before).rebuild = s.rebuild ∧ (s.followForces before).scenes =
    s.scenes ∧ (s.followForces before).survey = s.survey ∧ (s.followForces before).live = s.live ∧ (s.followForces
    before).adoption = s.adoption ∧ (s.followForces before).takeList = s.takeList ∧ (s.followForces before).sweepPos
    = s.sweepPos ∧ (s.followForces before).hold = s.hold ∧ (s.followForces before).meter = s.meter := by
  unfold State.followForces
  simp

@[simp] theorem State.releaseLast_frame (s : State) :
    (s.releaseLast).pending = s.pending ∧ (s.releaseLast).block = s.block ∧ (s.releaseLast).marks = s.marks ∧
    (s.releaseLast).mem = s.mem ∧ (s.releaseLast).port = s.port ∧ (s.releaseLast).linkA = s.linkA ∧
    (s.releaseLast).linkB = s.linkB ∧ (s.releaseLast).nom = s.nom ∧ (s.releaseLast).zones = s.zones ∧
    (s.releaseLast).outIndex = s.outIndex ∧ (s.releaseLast).outSlots = s.outSlots ∧ (s.releaseLast).fillsTaken =
    s.fillsTaken ∧ (s.releaseLast).routes = s.routes ∧ (s.releaseLast).unserved = s.unserved ∧
    (s.releaseLast).admitted = s.admitted ∧ (s.releaseLast).rebuild = s.rebuild ∧ (s.releaseLast).scenes = s.scenes
    ∧ (s.releaseLast).survey = s.survey ∧ (s.releaseLast).live = s.live ∧ (s.releaseLast).adoption = s.adoption ∧
    (s.releaseLast).takeList = s.takeList ∧ (s.releaseLast).sweepPos = s.sweepPos ∧ (s.releaseLast).hold = s.hold ∧
    (s.releaseLast).meter = s.meter := by
  unfold State.releaseLast
  (repeat' split) <;> simp

@[simp] theorem State.expireHold_frame (s : State) (i : Fin 16) :
    (s.expireHold i).pending = s.pending ∧ (s.expireHold i).block = s.block ∧ (s.expireHold i).marks = s.marks ∧
    (s.expireHold i).mem = s.mem ∧ (s.expireHold i).port = s.port ∧ (s.expireHold i).linkA = s.linkA ∧ (s.expireHold
    i).linkB = s.linkB ∧ (s.expireHold i).nom = s.nom ∧ (s.expireHold i).zones = s.zones ∧ (s.expireHold i).outIndex
    = s.outIndex ∧ (s.expireHold i).outSlots = s.outSlots ∧ (s.expireHold i).fillsTaken = s.fillsTaken ∧
    (s.expireHold i).routes = s.routes ∧ (s.expireHold i).unserved = s.unserved ∧ (s.expireHold i).admitted =
    s.admitted ∧ (s.expireHold i).rebuild = s.rebuild ∧ (s.expireHold i).scenes = s.scenes ∧ (s.expireHold i).survey
    = s.survey ∧ (s.expireHold i).live = s.live ∧ (s.expireHold i).adoption = s.adoption ∧ (s.expireHold i).takeList
    = s.takeList ∧ (s.expireHold i).sweepPos = s.sweepPos ∧ (s.expireHold i).hold = s.hold ∧ (s.expireHold i).meter
    = s.meter := by
  unfold State.expireHold
  simp

/-! ### Delay -/

@[simp] theorem State.retarget_frame (s : State) (c : Fin 16 → Bool) :
    (s.retarget c).pending = s.pending ∧ (s.retarget c).block = s.block ∧ (s.retarget c).marks = s.marks ∧
    (s.retarget c).mem = s.mem ∧ (s.retarget c).port = s.port ∧ (s.retarget c).linkA = s.linkA ∧ (s.retarget
    c).linkB = s.linkB ∧ (s.retarget c).sources = s.sources ∧ (s.retarget c).nom = s.nom ∧ (s.retarget c).zones =
    s.zones ∧ (s.retarget c).outIndex = s.outIndex ∧ (s.retarget c).outSlots = s.outSlots ∧ (s.retarget
    c).fillsTaken = s.fillsTaken ∧ (s.retarget c).unserved = s.unserved ∧ (s.retarget c).admitted = s.admitted ∧
    (s.retarget c).rebuild = s.rebuild ∧ (s.retarget c).scenes = s.scenes ∧ (s.retarget c).survey = s.survey ∧
    (s.retarget c).live = s.live ∧ (s.retarget c).adoption = s.adoption ∧ (s.retarget c).takeList = s.takeList ∧
    (s.retarget c).sweepPos = s.sweepPos ∧ (s.retarget c).hold = s.hold ∧ (s.retarget c).meter = s.meter := by
  unfold State.retarget
  simp

@[simp] theorem State.motionSteps_frame (s : State) :
    (s.motionSteps).pending = s.pending ∧ (s.motionSteps).block = s.block ∧ (s.motionSteps).marks = s.marks ∧
    (s.motionSteps).mem = s.mem ∧ (s.motionSteps).port = s.port ∧ (s.motionSteps).linkA = s.linkA ∧
    (s.motionSteps).linkB = s.linkB ∧ (s.motionSteps).sources = s.sources ∧ (s.motionSteps).nom = s.nom ∧
    (s.motionSteps).zones = s.zones ∧ (s.motionSteps).outIndex = s.outIndex ∧ (s.motionSteps).outSlots = s.outSlots
    ∧ (s.motionSteps).fillsTaken = s.fillsTaken ∧ (s.motionSteps).unserved = s.unserved ∧ (s.motionSteps).admitted =
    s.admitted ∧ (s.motionSteps).rebuild = s.rebuild ∧ (s.motionSteps).scenes = s.scenes ∧ (s.motionSteps).survey =
    s.survey ∧ (s.motionSteps).live = s.live ∧ (s.motionSteps).adoption = s.adoption ∧ (s.motionSteps).takeList =
    s.takeList ∧ (s.motionSteps).sweepPos = s.sweepPos ∧ (s.motionSteps).hold = s.hold ∧ (s.motionSteps).meter =
    s.meter := by
  unfold State.motionSteps
  simp

@[simp] theorem State.grantFades_frame (s : State) :
    (s.grantFades).pending = s.pending ∧ (s.grantFades).block = s.block ∧ (s.grantFades).marks = s.marks ∧
    (s.grantFades).mem = s.mem ∧ (s.grantFades).port = s.port ∧ (s.grantFades).linkA = s.linkA ∧
    (s.grantFades).linkB = s.linkB ∧ (s.grantFades).sources = s.sources ∧ (s.grantFades).nom = s.nom ∧
    (s.grantFades).zones = s.zones ∧ (s.grantFades).outIndex = s.outIndex ∧ (s.grantFades).outSlots = s.outSlots ∧
    (s.grantFades).fillsTaken = s.fillsTaken ∧ (s.grantFades).unserved = s.unserved ∧ (s.grantFades).admitted =
    s.admitted ∧ (s.grantFades).rebuild = s.rebuild ∧ (s.grantFades).scenes = s.scenes ∧ (s.grantFades).survey =
    s.survey ∧ (s.grantFades).live = s.live ∧ (s.grantFades).adoption = s.adoption ∧ (s.grantFades).takeList =
    s.takeList ∧ (s.grantFades).sweepPos = s.sweepPos ∧ (s.grantFades).hold = s.hold ∧ (s.grantFades).meter =
    s.meter := by
  unfold State.grantFades
  simp

@[simp] theorem State.compose_frame (s : State) :
    (s.compose).pending = s.pending ∧ (s.compose).block = s.block ∧ (s.compose).marks = s.marks ∧ (s.compose).mem =
    s.mem ∧ (s.compose).port = s.port ∧ (s.compose).linkA = s.linkA ∧ (s.compose).linkB = s.linkB ∧
    (s.compose).sources = s.sources ∧ (s.compose).nom = s.nom ∧ (s.compose).zones = s.zones ∧ (s.compose).outIndex =
    s.outIndex ∧ (s.compose).outSlots = s.outSlots ∧ (s.compose).fillsTaken = s.fillsTaken ∧ (s.compose).unserved =
    s.unserved ∧ (s.compose).admitted = s.admitted ∧ (s.compose).rebuild = s.rebuild ∧ (s.compose).scenes = s.scenes
    ∧ (s.compose).survey = s.survey ∧ (s.compose).live = s.live ∧ (s.compose).adoption = s.adoption ∧
    (s.compose).takeList = s.takeList ∧ (s.compose).sweepPos = s.sweepPos ∧ (s.compose).hold = s.hold ∧
    (s.compose).meter = s.meter := by
  unfold State.compose
  simp

@[simp] theorem State.glide_frame (s : State) :
    (s.glide).pending = s.pending ∧ (s.glide).block = s.block ∧ (s.glide).marks = s.marks ∧ (s.glide).mem = s.mem ∧
    (s.glide).port = s.port ∧ (s.glide).linkA = s.linkA ∧ (s.glide).linkB = s.linkB ∧ (s.glide).sources = s.sources
    ∧ (s.glide).nom = s.nom ∧ (s.glide).zones = s.zones ∧ (s.glide).outIndex = s.outIndex ∧ (s.glide).outSlots =
    s.outSlots ∧ (s.glide).fillsTaken = s.fillsTaken ∧ (s.glide).unserved = s.unserved ∧ (s.glide).admitted =
    s.admitted ∧ (s.glide).rebuild = s.rebuild ∧ (s.glide).scenes = s.scenes ∧ (s.glide).survey = s.survey ∧
    (s.glide).live = s.live ∧ (s.glide).adoption = s.adoption ∧ (s.glide).takeList = s.takeList ∧ (s.glide).sweepPos
    = s.sweepPos ∧ (s.glide).hold = s.hold ∧ (s.glide).meter = s.meter := by
  unfold State.glide
  simp

/-! ### Routes -/

@[simp] theorem State.insertPairs_frame (s : State) (ps : List Pair) :
    (s.insertPairs ps).pending = s.pending ∧ (s.insertPairs ps).block = s.block ∧ (s.insertPairs ps).marks = s.marks
    ∧ (s.insertPairs ps).mem = s.mem ∧ (s.insertPairs ps).port = s.port ∧ (s.insertPairs ps).linkA = s.linkA ∧
    (s.insertPairs ps).linkB = s.linkB ∧ (s.insertPairs ps).sources = s.sources ∧ (s.insertPairs ps).nom = s.nom ∧
    (s.insertPairs ps).zones = s.zones ∧ (s.insertPairs ps).outIndex = s.outIndex ∧ (s.insertPairs ps).outSlots =
    s.outSlots ∧ (s.insertPairs ps).fillsTaken = s.fillsTaken ∧ (s.insertPairs ps).unserved = s.unserved ∧
    (s.insertPairs ps).admitted = s.admitted ∧ (s.insertPairs ps).rebuild = s.rebuild ∧ (s.insertPairs ps).scenes =
    s.scenes ∧ (s.insertPairs ps).survey = s.survey ∧ (s.insertPairs ps).live = s.live ∧ (s.insertPairs ps).adoption
    = s.adoption ∧ (s.insertPairs ps).takeList = s.takeList ∧ (s.insertPairs ps).sweepPos = s.sweepPos ∧
    (s.insertPairs ps).hold = s.hold ∧ (s.insertPairs ps).meter = s.meter := by
  unfold State.insertPairs
  simp

@[simp] theorem State.rebuildRoutes_frame (s : State) :
    (s.rebuildRoutes).pending = s.pending ∧ (s.rebuildRoutes).block = s.block ∧ (s.rebuildRoutes).marks = s.marks ∧
    (s.rebuildRoutes).mem = s.mem ∧ (s.rebuildRoutes).linkA = s.linkA ∧ (s.rebuildRoutes).linkB = s.linkB ∧
    (s.rebuildRoutes).sources = s.sources ∧ (s.rebuildRoutes).nom = s.nom ∧ (s.rebuildRoutes).zones = s.zones ∧
    (s.rebuildRoutes).outIndex = s.outIndex ∧ (s.rebuildRoutes).outSlots = s.outSlots ∧ (s.rebuildRoutes).fillsTaken
    = s.fillsTaken ∧ (s.rebuildRoutes).scenes = s.scenes ∧ (s.rebuildRoutes).survey = s.survey ∧
    (s.rebuildRoutes).live = s.live ∧ (s.rebuildRoutes).adoption = s.adoption ∧ (s.rebuildRoutes).takeList =
    s.takeList ∧ (s.rebuildRoutes).sweepPos = s.sweepPos ∧ (s.rebuildRoutes).hold = s.hold ∧ (s.rebuildRoutes).meter
    = s.meter := by
  unfold State.rebuildRoutes
  simp

@[simp] theorem State.serveRebuild_frame (s : State) :
    (s.serveRebuild).pending = s.pending ∧ (s.serveRebuild).block = s.block ∧ (s.serveRebuild).marks = s.marks ∧
    (s.serveRebuild).mem = s.mem ∧ (s.serveRebuild).linkA = s.linkA ∧ (s.serveRebuild).linkB = s.linkB ∧
    (s.serveRebuild).sources = s.sources ∧ (s.serveRebuild).nom = s.nom ∧ (s.serveRebuild).zones = s.zones ∧
    (s.serveRebuild).outIndex = s.outIndex ∧ (s.serveRebuild).outSlots = s.outSlots ∧ (s.serveRebuild).fillsTaken =
    s.fillsTaken ∧ (s.serveRebuild).scenes = s.scenes ∧ (s.serveRebuild).survey = s.survey ∧ (s.serveRebuild).live =
    s.live ∧ (s.serveRebuild).adoption = s.adoption ∧ (s.serveRebuild).takeList = s.takeList ∧
    (s.serveRebuild).sweepPos = s.sweepPos ∧ (s.serveRebuild).hold = s.hold ∧ (s.serveRebuild).meter = s.meter := by
  unfold State.serveRebuild
  (repeat' split) <;> simp

@[simp] theorem State.removeRetired_frame (s : State) :
    (s.removeRetired).pending = s.pending ∧ (s.removeRetired).block = s.block ∧ (s.removeRetired).marks = s.marks ∧
    (s.removeRetired).mem = s.mem ∧ (s.removeRetired).port = s.port ∧ (s.removeRetired).linkA = s.linkA ∧
    (s.removeRetired).linkB = s.linkB ∧ (s.removeRetired).sources = s.sources ∧ (s.removeRetired).nom = s.nom ∧
    (s.removeRetired).zones = s.zones ∧ (s.removeRetired).outIndex = s.outIndex ∧ (s.removeRetired).outSlots =
    s.outSlots ∧ (s.removeRetired).fillsTaken = s.fillsTaken ∧ (s.removeRetired).admitted = s.admitted ∧
    (s.removeRetired).rebuild = s.rebuild ∧ (s.removeRetired).scenes = s.scenes ∧ (s.removeRetired).survey =
    s.survey ∧ (s.removeRetired).live = s.live ∧ (s.removeRetired).adoption = s.adoption ∧
    (s.removeRetired).takeList = s.takeList ∧ (s.removeRetired).sweepPos = s.sweepPos ∧ (s.removeRetired).hold =
    s.hold ∧ (s.removeRetired).meter = s.meter := by
  unfold State.removeRetired
  simp

@[simp] theorem State.settle_frame (s : State) :
    (s.settle).pending = s.pending ∧ (s.settle).block = s.block ∧ (s.settle).marks = s.marks ∧ (s.settle).mem =
    s.mem ∧ (s.settle).linkA = s.linkA ∧ (s.settle).linkB = s.linkB ∧ (s.settle).zones = s.zones ∧
    (s.settle).outIndex = s.outIndex ∧ (s.settle).outSlots = s.outSlots ∧ (s.settle).fillsTaken = s.fillsTaken ∧
    (s.settle).scenes = s.scenes ∧ (s.settle).survey = s.survey ∧ (s.settle).live = s.live ∧ (s.settle).adoption =
    s.adoption ∧ (s.settle).takeList = s.takeList ∧ (s.settle).sweepPos = s.sweepPos ∧ (s.settle).meter = s.meter := by
  unfold State.settle
  simp

/-! ### Sums -/

@[simp] theorem State.endZones_frame (s : State) :
    (s.endZones).pending = s.pending ∧ (s.endZones).block = s.block ∧ (s.endZones).marks = s.marks ∧
    (s.endZones).mem = s.mem ∧ (s.endZones).linkA = s.linkA ∧ (s.endZones).linkB = s.linkB ∧ (s.endZones).sources =
    s.sources ∧ (s.endZones).nom = s.nom ∧ (s.endZones).outIndex = s.outIndex ∧ (s.endZones).outSlots = s.outSlots ∧
    (s.endZones).fillsTaken = s.fillsTaken ∧ (s.endZones).routes = s.routes ∧ (s.endZones).unserved = s.unserved ∧
    (s.endZones).admitted = s.admitted ∧ (s.endZones).rebuild = s.rebuild ∧ (s.endZones).scenes = s.scenes ∧
    (s.endZones).survey = s.survey ∧ (s.endZones).live = s.live ∧ (s.endZones).adoption = s.adoption ∧
    (s.endZones).takeList = s.takeList ∧ (s.endZones).sweepPos = s.sweepPos ∧ (s.endZones).hold = s.hold := by
  unfold State.endZones
  (repeat' split) <;> simp

/-! ### Cues -/

@[simp] theorem State.takeCall_frame (s : State) :
    (s.takeCall).pending = s.pending ∧ (s.takeCall).block = s.block ∧ (s.takeCall).marks = s.marks ∧
    (s.takeCall).mem = s.mem ∧ (s.takeCall).linkA = s.linkA ∧ (s.takeCall).linkB = s.linkB ∧ (s.takeCall).sources =
    s.sources ∧ (s.takeCall).nom = s.nom ∧ (s.takeCall).zones = s.zones ∧ (s.takeCall).outIndex = s.outIndex ∧
    (s.takeCall).outSlots = s.outSlots ∧ (s.takeCall).fillsTaken = s.fillsTaken ∧ (s.takeCall).routes = s.routes ∧
    (s.takeCall).unserved = s.unserved ∧ (s.takeCall).admitted = s.admitted ∧ (s.takeCall).rebuild = s.rebuild ∧
    (s.takeCall).scenes = s.scenes ∧ (s.takeCall).survey = s.survey ∧ (s.takeCall).live = s.live ∧
    (s.takeCall).adoption = s.adoption ∧ (s.takeCall).sweepPos = s.sweepPos ∧ (s.takeCall).hold = s.hold ∧
    (s.takeCall).meter = s.meter := by
  unfold State.takeCall
  simp

@[simp] theorem State.examineCall_frame (s : State) :
    (s.examineCall).pending = s.pending ∧ (s.examineCall).block = s.block ∧ (s.examineCall).marks = s.marks ∧
    (s.examineCall).mem = s.mem ∧ (s.examineCall).linkA = s.linkA ∧ (s.examineCall).linkB = s.linkB ∧
    (s.examineCall).sources = s.sources ∧ (s.examineCall).nom = s.nom ∧ (s.examineCall).zones = s.zones ∧
    (s.examineCall).outIndex = s.outIndex ∧ (s.examineCall).outSlots = s.outSlots ∧ (s.examineCall).fillsTaken =
    s.fillsTaken ∧ (s.examineCall).routes = s.routes ∧ (s.examineCall).unserved = s.unserved ∧
    (s.examineCall).admitted = s.admitted ∧ (s.examineCall).rebuild = s.rebuild ∧ (s.examineCall).scenes = s.scenes
    ∧ (s.examineCall).survey = s.survey ∧ (s.examineCall).live = s.live ∧ (s.examineCall).adoption = s.adoption ∧
    (s.examineCall).sweepPos = s.sweepPos ∧ (s.examineCall).hold = s.hold ∧ (s.examineCall).meter = s.meter := by
  unfold State.examineCall
  (repeat' split) <;> simp

@[simp] theorem State.takeSlot_frame (s : State) (k : Fin 32) :
    (s.takeSlot k).pending = s.pending ∧ (s.takeSlot k).block = s.block ∧ (s.takeSlot k).marks = s.marks ∧
    (s.takeSlot k).port = s.port ∧ (s.takeSlot k).linkA = s.linkA ∧ (s.takeSlot k).linkB = s.linkB ∧ (s.takeSlot
    k).sources = s.sources ∧ (s.takeSlot k).nom = s.nom ∧ (s.takeSlot k).zones = s.zones ∧ (s.takeSlot k).outIndex =
    s.outIndex ∧ (s.takeSlot k).outSlots = s.outSlots ∧ (s.takeSlot k).fillsTaken = s.fillsTaken ∧ (s.takeSlot
    k).routes = s.routes ∧ (s.takeSlot k).unserved = s.unserved ∧ (s.takeSlot k).admitted = s.admitted ∧ (s.takeSlot
    k).rebuild = s.rebuild ∧ (s.takeSlot k).scenes = s.scenes ∧ (s.takeSlot k).survey = s.survey ∧ (s.takeSlot
    k).live = s.live ∧ (s.takeSlot k).adoption = s.adoption ∧ (s.takeSlot k).sweepPos = s.sweepPos ∧ (s.takeSlot
    k).hold = s.hold ∧ (s.takeSlot k).meter = s.meter := by
  unfold State.takeSlot
  simp

@[simp] theorem State.examineSlot_frame (s : State) (k : Fin 32) :
    (s.examineSlot k).pending = s.pending ∧ (s.examineSlot k).block = s.block ∧ (s.examineSlot k).marks = s.marks ∧
    (s.examineSlot k).port = s.port ∧ (s.examineSlot k).linkA = s.linkA ∧ (s.examineSlot k).linkB = s.linkB ∧
    (s.examineSlot k).sources = s.sources ∧ (s.examineSlot k).nom = s.nom ∧ (s.examineSlot k).zones = s.zones ∧
    (s.examineSlot k).outIndex = s.outIndex ∧ (s.examineSlot k).outSlots = s.outSlots ∧ (s.examineSlot k).fillsTaken
    = s.fillsTaken ∧ (s.examineSlot k).routes = s.routes ∧ (s.examineSlot k).unserved = s.unserved ∧ (s.examineSlot
    k).admitted = s.admitted ∧ (s.examineSlot k).rebuild = s.rebuild ∧ (s.examineSlot k).scenes = s.scenes ∧
    (s.examineSlot k).survey = s.survey ∧ (s.examineSlot k).live = s.live ∧ (s.examineSlot k).adoption = s.adoption
    ∧ (s.examineSlot k).sweepPos = s.sweepPos ∧ (s.examineSlot k).hold = s.hold ∧ (s.examineSlot k).meter = s.meter := by
  unfold State.examineSlot
  (repeat' split) <;> simp

@[simp] theorem State.examineNext_frame (s : State) :
    (s.examineNext).pending = s.pending ∧ (s.examineNext).block = s.block ∧ (s.examineNext).marks = s.marks ∧
    (s.examineNext).linkA = s.linkA ∧ (s.examineNext).linkB = s.linkB ∧ (s.examineNext).sources = s.sources ∧
    (s.examineNext).nom = s.nom ∧ (s.examineNext).zones = s.zones ∧ (s.examineNext).outIndex = s.outIndex ∧
    (s.examineNext).outSlots = s.outSlots ∧ (s.examineNext).fillsTaken = s.fillsTaken ∧ (s.examineNext).routes =
    s.routes ∧ (s.examineNext).unserved = s.unserved ∧ (s.examineNext).admitted = s.admitted ∧
    (s.examineNext).rebuild = s.rebuild ∧ (s.examineNext).scenes = s.scenes ∧ (s.examineNext).survey = s.survey ∧
    (s.examineNext).live = s.live ∧ (s.examineNext).adoption = s.adoption ∧ (s.examineNext).hold = s.hold ∧
    (s.examineNext).meter = s.meter := by
  unfold State.examineNext
  (repeat' split) <;> simp

@[simp] theorem State.faulted_frame (s : State) (item : CueItem) (f : ResultCode × Nat) :
    (s.faulted item f).pending = s.pending ∧ (s.faulted item f).block = s.block ∧ (s.faulted item f).marks = s.marks
    ∧ (s.faulted item f).linkA = s.linkA ∧ (s.faulted item f).linkB = s.linkB ∧ (s.faulted item f).sources =
    s.sources ∧ (s.faulted item f).nom = s.nom ∧ (s.faulted item f).zones = s.zones ∧ (s.faulted item f).outIndex =
    s.outIndex ∧ (s.faulted item f).outSlots = s.outSlots ∧ (s.faulted item f).fillsTaken = s.fillsTaken ∧
    (s.faulted item f).routes = s.routes ∧ (s.faulted item f).unserved = s.unserved ∧ (s.faulted item f).admitted =
    s.admitted ∧ (s.faulted item f).rebuild = s.rebuild ∧ (s.faulted item f).scenes = s.scenes ∧ (s.faulted item
    f).survey = s.survey ∧ (s.faulted item f).live = s.live ∧ (s.faulted item f).adoption = s.adoption ∧ (s.faulted
    item f).takeList = s.takeList ∧ (s.faulted item f).sweepPos = s.sweepPos ∧ (s.faulted item f).hold = s.hold ∧
    (s.faulted item f).meter = s.meter := by
  unfold State.faulted
  simp

@[simp] theorem State.doneClamped_frame (s : State) (item : CueItem) (n : Nat) :
    (s.doneClamped item n).pending = s.pending ∧ (s.doneClamped item n).block = s.block ∧ (s.doneClamped item
    n).marks = s.marks ∧ (s.doneClamped item n).linkA = s.linkA ∧ (s.doneClamped item n).linkB = s.linkB ∧
    (s.doneClamped item n).sources = s.sources ∧ (s.doneClamped item n).nom = s.nom ∧ (s.doneClamped item n).zones =
    s.zones ∧ (s.doneClamped item n).outIndex = s.outIndex ∧ (s.doneClamped item n).outSlots = s.outSlots ∧
    (s.doneClamped item n).fillsTaken = s.fillsTaken ∧ (s.doneClamped item n).routes = s.routes ∧ (s.doneClamped
    item n).unserved = s.unserved ∧ (s.doneClamped item n).admitted = s.admitted ∧ (s.doneClamped item n).rebuild =
    s.rebuild ∧ (s.doneClamped item n).scenes = s.scenes ∧ (s.doneClamped item n).survey = s.survey ∧ (s.doneClamped
    item n).live = s.live ∧ (s.doneClamped item n).adoption = s.adoption ∧ (s.doneClamped item n).takeList =
    s.takeList ∧ (s.doneClamped item n).sweepPos = s.sweepPos ∧ (s.doneClamped item n).hold = s.hold ∧
    (s.doneClamped item n).meter = s.meter := by
  unfold State.doneClamped
  (repeat' split) <;> simp

@[simp] theorem State.setSources_frame (s : State) (body : List Word) (mask : Word) :
    (s.setSources body mask).pending = s.pending ∧ (s.setSources body mask).block = s.block ∧ (s.setSources body
    mask).marks = s.marks ∧ (s.setSources body mask).mem = s.mem ∧ (s.setSources body mask).port = s.port ∧
    (s.setSources body mask).linkA = s.linkA ∧ (s.setSources body mask).linkB = s.linkB ∧ (s.setSources body
    mask).nom = s.nom ∧ (s.setSources body mask).zones = s.zones ∧ (s.setSources body mask).outIndex = s.outIndex ∧
    (s.setSources body mask).outSlots = s.outSlots ∧ (s.setSources body mask).fillsTaken = s.fillsTaken ∧
    (s.setSources body mask).unserved = s.unserved ∧ (s.setSources body mask).admitted = s.admitted ∧ (s.setSources
    body mask).scenes = s.scenes ∧ (s.setSources body mask).survey = s.survey ∧ (s.setSources body mask).live =
    s.live ∧ (s.setSources body mask).adoption = s.adoption ∧ (s.setSources body mask).takeList = s.takeList ∧
    (s.setSources body mask).sweepPos = s.sweepPos ∧ (s.setSources body mask).hold = s.hold ∧ (s.setSources body
    mask).meter = s.meter := by
  unfold State.setSources
  (repeat' split) <;> simp

@[simp] theorem State.carrySourceSet_frame (s : State) (item : CueItem) :
    (s.carrySourceSet item).pending = s.pending ∧ (s.carrySourceSet item).block = s.block ∧ (s.carrySourceSet
    item).marks = s.marks ∧ (s.carrySourceSet item).linkA = s.linkA ∧ (s.carrySourceSet item).linkB = s.linkB ∧
    (s.carrySourceSet item).nom = s.nom ∧ (s.carrySourceSet item).zones = s.zones ∧ (s.carrySourceSet item).outIndex
    = s.outIndex ∧ (s.carrySourceSet item).outSlots = s.outSlots ∧ (s.carrySourceSet item).fillsTaken = s.fillsTaken
    ∧ (s.carrySourceSet item).unserved = s.unserved ∧ (s.carrySourceSet item).admitted = s.admitted ∧
    (s.carrySourceSet item).scenes = s.scenes ∧ (s.carrySourceSet item).survey = s.survey ∧ (s.carrySourceSet
    item).live = s.live ∧ (s.carrySourceSet item).adoption = s.adoption ∧ (s.carrySourceSet item).takeList =
    s.takeList ∧ (s.carrySourceSet item).sweepPos = s.sweepPos ∧ (s.carrySourceSet item).hold = s.hold ∧
    (s.carrySourceSet item).meter = s.meter := by
  unfold State.carrySourceSet
  simp

@[simp] theorem State.applySourceSet_frame (s : State) (item : CueItem) :
    (s.applySourceSet item).pending = s.pending ∧ (s.applySourceSet item).block = s.block ∧ (s.applySourceSet
    item).marks = s.marks ∧ (s.applySourceSet item).linkA = s.linkA ∧ (s.applySourceSet item).linkB = s.linkB ∧
    (s.applySourceSet item).nom = s.nom ∧ (s.applySourceSet item).zones = s.zones ∧ (s.applySourceSet item).outIndex
    = s.outIndex ∧ (s.applySourceSet item).outSlots = s.outSlots ∧ (s.applySourceSet item).fillsTaken = s.fillsTaken
    ∧ (s.applySourceSet item).unserved = s.unserved ∧ (s.applySourceSet item).admitted = s.admitted ∧
    (s.applySourceSet item).scenes = s.scenes ∧ (s.applySourceSet item).survey = s.survey ∧ (s.applySourceSet
    item).live = s.live ∧ (s.applySourceSet item).adoption = s.adoption ∧ (s.applySourceSet item).takeList =
    s.takeList ∧ (s.applySourceSet item).sweepPos = s.sweepPos ∧ (s.applySourceSet item).hold = s.hold ∧
    (s.applySourceSet item).meter = s.meter := by
  unfold State.applySourceSet
  (repeat' split) <;> simp

@[simp] theorem State.setZones_frame (s : State) (body : List Word) (low high : Word) :
    (s.setZones body low high).pending = s.pending ∧ (s.setZones body low high).block = s.block ∧ (s.setZones body
    low high).marks = s.marks ∧ (s.setZones body low high).mem = s.mem ∧ (s.setZones body low high).port = s.port ∧
    (s.setZones body low high).linkA = s.linkA ∧ (s.setZones body low high).linkB = s.linkB ∧ (s.setZones body low
    high).sources = s.sources ∧ (s.setZones body low high).nom = s.nom ∧ (s.setZones body low high).outIndex =
    s.outIndex ∧ (s.setZones body low high).outSlots = s.outSlots ∧ (s.setZones body low high).fillsTaken =
    s.fillsTaken ∧ (s.setZones body low high).routes = s.routes ∧ (s.setZones body low high).unserved = s.unserved ∧
    (s.setZones body low high).admitted = s.admitted ∧ (s.setZones body low high).rebuild = s.rebuild ∧ (s.setZones
    body low high).scenes = s.scenes ∧ (s.setZones body low high).survey = s.survey ∧ (s.setZones body low
    high).live = s.live ∧ (s.setZones body low high).adoption = s.adoption ∧ (s.setZones body low high).takeList =
    s.takeList ∧ (s.setZones body low high).sweepPos = s.sweepPos ∧ (s.setZones body low high).hold = s.hold ∧
    (s.setZones body low high).meter = s.meter := by
  unfold State.setZones
  simp

@[simp] theorem State.carryZoneSet_frame (s : State) (item : CueItem) :
    (s.carryZoneSet item).pending = s.pending ∧ (s.carryZoneSet item).block = s.block ∧ (s.carryZoneSet item).marks
    = s.marks ∧ (s.carryZoneSet item).linkA = s.linkA ∧ (s.carryZoneSet item).linkB = s.linkB ∧ (s.carryZoneSet
    item).sources = s.sources ∧ (s.carryZoneSet item).nom = s.nom ∧ (s.carryZoneSet item).outIndex = s.outIndex ∧
    (s.carryZoneSet item).outSlots = s.outSlots ∧ (s.carryZoneSet item).fillsTaken = s.fillsTaken ∧ (s.carryZoneSet
    item).routes = s.routes ∧ (s.carryZoneSet item).unserved = s.unserved ∧ (s.carryZoneSet item).admitted =
    s.admitted ∧ (s.carryZoneSet item).rebuild = s.rebuild ∧ (s.carryZoneSet item).scenes = s.scenes ∧
    (s.carryZoneSet item).survey = s.survey ∧ (s.carryZoneSet item).live = s.live ∧ (s.carryZoneSet item).adoption =
    s.adoption ∧ (s.carryZoneSet item).takeList = s.takeList ∧ (s.carryZoneSet item).sweepPos = s.sweepPos ∧
    (s.carryZoneSet item).hold = s.hold ∧ (s.carryZoneSet item).meter = s.meter := by
  unfold State.carryZoneSet
  simp

@[simp] theorem State.applyZoneSet_frame (s : State) (item : CueItem) :
    (s.applyZoneSet item).pending = s.pending ∧ (s.applyZoneSet item).block = s.block ∧ (s.applyZoneSet item).marks
    = s.marks ∧ (s.applyZoneSet item).linkA = s.linkA ∧ (s.applyZoneSet item).linkB = s.linkB ∧ (s.applyZoneSet
    item).sources = s.sources ∧ (s.applyZoneSet item).nom = s.nom ∧ (s.applyZoneSet item).outIndex = s.outIndex ∧
    (s.applyZoneSet item).outSlots = s.outSlots ∧ (s.applyZoneSet item).fillsTaken = s.fillsTaken ∧ (s.applyZoneSet
    item).routes = s.routes ∧ (s.applyZoneSet item).unserved = s.unserved ∧ (s.applyZoneSet item).admitted =
    s.admitted ∧ (s.applyZoneSet item).rebuild = s.rebuild ∧ (s.applyZoneSet item).scenes = s.scenes ∧
    (s.applyZoneSet item).survey = s.survey ∧ (s.applyZoneSet item).live = s.live ∧ (s.applyZoneSet item).adoption =
    s.adoption ∧ (s.applyZoneSet item).takeList = s.takeList ∧ (s.applyZoneSet item).sweepPos = s.sweepPos ∧
    (s.applyZoneSet item).hold = s.hold ∧ (s.applyZoneSet item).meter = s.meter := by
  unfold State.applyZoneSet
  (repeat' split) <;> simp

@[simp] theorem State.applyBadKind_frame (s : State) (item : CueItem) :
    (s.applyBadKind item).pending = s.pending ∧ (s.applyBadKind item).block = s.block ∧ (s.applyBadKind item).marks
    = s.marks ∧ (s.applyBadKind item).linkA = s.linkA ∧ (s.applyBadKind item).linkB = s.linkB ∧ (s.applyBadKind
    item).sources = s.sources ∧ (s.applyBadKind item).nom = s.nom ∧ (s.applyBadKind item).zones = s.zones ∧
    (s.applyBadKind item).outIndex = s.outIndex ∧ (s.applyBadKind item).outSlots = s.outSlots ∧ (s.applyBadKind
    item).fillsTaken = s.fillsTaken ∧ (s.applyBadKind item).routes = s.routes ∧ (s.applyBadKind item).unserved =
    s.unserved ∧ (s.applyBadKind item).admitted = s.admitted ∧ (s.applyBadKind item).rebuild = s.rebuild ∧
    (s.applyBadKind item).scenes = s.scenes ∧ (s.applyBadKind item).survey = s.survey ∧ (s.applyBadKind item).live =
    s.live ∧ (s.applyBadKind item).adoption = s.adoption ∧ (s.applyBadKind item).takeList = s.takeList ∧
    (s.applyBadKind item).sweepPos = s.sweepPos ∧ (s.applyBadKind item).hold = s.hold ∧ (s.applyBadKind item).meter
    = s.meter := by
  unfold State.applyBadKind
  simp

@[simp] theorem State.examineMany_frame (n : Nat) (s : State) :
    (State.examineMany n s).pending = s.pending ∧ (State.examineMany n s).block = s.block ∧ (State.examineMany n
    s).marks = s.marks ∧ (State.examineMany n s).linkA = s.linkA ∧ (State.examineMany n s).linkB = s.linkB ∧
    (State.examineMany n s).sources = s.sources ∧ (State.examineMany n s).nom = s.nom ∧ (State.examineMany n
    s).zones = s.zones ∧ (State.examineMany n s).outIndex = s.outIndex ∧ (State.examineMany n s).outSlots =
    s.outSlots ∧ (State.examineMany n s).fillsTaken = s.fillsTaken ∧ (State.examineMany n s).routes = s.routes ∧
    (State.examineMany n s).unserved = s.unserved ∧ (State.examineMany n s).admitted = s.admitted ∧
    (State.examineMany n s).rebuild = s.rebuild ∧ (State.examineMany n s).scenes = s.scenes ∧ (State.examineMany n
    s).survey = s.survey ∧ (State.examineMany n s).live = s.live ∧ (State.examineMany n s).adoption = s.adoption ∧
    (State.examineMany n s).hold = s.hold ∧ (State.examineMany n s).meter = s.meter := by
  induction n generalizing s with
  | zero => simp [State.examineMany]
  | succ n ih => simp [State.examineMany, ih s.examineNext]

/-! ### Scenes -/

@[simp] theorem State.pushScene_frame (s : State) (body : List Word) :
    (s.pushScene body).pending = s.pending ∧ (s.pushScene body).block = s.block ∧ (s.pushScene body).marks = s.marks
    ∧ (s.pushScene body).mem = s.mem ∧ (s.pushScene body).port = s.port ∧ (s.pushScene body).linkA = s.linkA ∧
    (s.pushScene body).linkB = s.linkB ∧ (s.pushScene body).nom = s.nom ∧ (s.pushScene body).outIndex = s.outIndex ∧
    (s.pushScene body).outSlots = s.outSlots ∧ (s.pushScene body).fillsTaken = s.fillsTaken ∧ (s.pushScene
    body).unserved = s.unserved ∧ (s.pushScene body).admitted = s.admitted ∧ (s.pushScene body).survey = s.survey ∧
    (s.pushScene body).live = s.live ∧ (s.pushScene body).adoption = s.adoption ∧ (s.pushScene body).takeList =
    s.takeList ∧ (s.pushScene body).sweepPos = s.sweepPos ∧ (s.pushScene body).hold = s.hold ∧ (s.pushScene
    body).meter = s.meter := by
  unfold State.pushScene
  simp

@[simp] theorem State.carryScenePush_frame (s : State) (item : CueItem) :
    (s.carryScenePush item).pending = s.pending ∧ (s.carryScenePush item).block = s.block ∧ (s.carryScenePush
    item).marks = s.marks ∧ (s.carryScenePush item).linkA = s.linkA ∧ (s.carryScenePush item).linkB = s.linkB ∧
    (s.carryScenePush item).nom = s.nom ∧ (s.carryScenePush item).outIndex = s.outIndex ∧ (s.carryScenePush
    item).outSlots = s.outSlots ∧ (s.carryScenePush item).fillsTaken = s.fillsTaken ∧ (s.carryScenePush
    item).unserved = s.unserved ∧ (s.carryScenePush item).admitted = s.admitted ∧ (s.carryScenePush item).survey =
    s.survey ∧ (s.carryScenePush item).live = s.live ∧ (s.carryScenePush item).adoption = s.adoption ∧
    (s.carryScenePush item).takeList = s.takeList ∧ (s.carryScenePush item).sweepPos = s.sweepPos ∧
    (s.carryScenePush item).hold = s.hold ∧ (s.carryScenePush item).meter = s.meter := by
  unfold State.carryScenePush
  simp

@[simp] theorem State.applyScenePush_frame (s : State) (item : CueItem) :
    (s.applyScenePush item).pending = s.pending ∧ (s.applyScenePush item).block = s.block ∧ (s.applyScenePush
    item).marks = s.marks ∧ (s.applyScenePush item).linkA = s.linkA ∧ (s.applyScenePush item).linkB = s.linkB ∧
    (s.applyScenePush item).nom = s.nom ∧ (s.applyScenePush item).outIndex = s.outIndex ∧ (s.applyScenePush
    item).outSlots = s.outSlots ∧ (s.applyScenePush item).fillsTaken = s.fillsTaken ∧ (s.applyScenePush
    item).unserved = s.unserved ∧ (s.applyScenePush item).admitted = s.admitted ∧ (s.applyScenePush item).survey =
    s.survey ∧ (s.applyScenePush item).live = s.live ∧ (s.applyScenePush item).adoption = s.adoption ∧
    (s.applyScenePush item).takeList = s.takeList ∧ (s.applyScenePush item).sweepPos = s.sweepPos ∧
    (s.applyScenePush item).hold = s.hold ∧ (s.applyScenePush item).meter = s.meter := by
  unfold State.applyScenePush
  (repeat' split) <;> simp

@[simp] theorem State.restoreScene_frame (s : State) (c : Scene) :
    (s.restoreScene c).pending = s.pending ∧ (s.restoreScene c).block = s.block ∧ (s.restoreScene c).marks = s.marks
    ∧ (s.restoreScene c).mem = s.mem ∧ (s.restoreScene c).port = s.port ∧ (s.restoreScene c).linkA = s.linkA ∧
    (s.restoreScene c).linkB = s.linkB ∧ (s.restoreScene c).nom = s.nom ∧ (s.restoreScene c).outIndex = s.outIndex ∧
    (s.restoreScene c).outSlots = s.outSlots ∧ (s.restoreScene c).fillsTaken = s.fillsTaken ∧ (s.restoreScene
    c).routes = s.routes ∧ (s.restoreScene c).unserved = s.unserved ∧ (s.restoreScene c).admitted = s.admitted ∧
    (s.restoreScene c).rebuild = s.rebuild ∧ (s.restoreScene c).scenes = s.scenes ∧ (s.restoreScene c).survey =
    s.survey ∧ (s.restoreScene c).live = s.live ∧ (s.restoreScene c).adoption = s.adoption ∧ (s.restoreScene
    c).takeList = s.takeList ∧ (s.restoreScene c).sweepPos = s.sweepPos ∧ (s.restoreScene c).hold = s.hold ∧
    (s.restoreScene c).meter = s.meter := by
  unfold State.restoreScene
  simp

@[simp] theorem State.carryScenePop_frame (s : State) (item : CueItem) :
    (s.carryScenePop item).pending = s.pending ∧ (s.carryScenePop item).block = s.block ∧ (s.carryScenePop
    item).marks = s.marks ∧ (s.carryScenePop item).linkA = s.linkA ∧ (s.carryScenePop item).linkB = s.linkB ∧
    (s.carryScenePop item).nom = s.nom ∧ (s.carryScenePop item).outIndex = s.outIndex ∧ (s.carryScenePop
    item).outSlots = s.outSlots ∧ (s.carryScenePop item).fillsTaken = s.fillsTaken ∧ (s.carryScenePop item).routes =
    s.routes ∧ (s.carryScenePop item).unserved = s.unserved ∧ (s.carryScenePop item).admitted = s.admitted ∧
    (s.carryScenePop item).rebuild = s.rebuild ∧ (s.carryScenePop item).survey = s.survey ∧ (s.carryScenePop
    item).live = s.live ∧ (s.carryScenePop item).adoption = s.adoption ∧ (s.carryScenePop item).takeList =
    s.takeList ∧ (s.carryScenePop item).sweepPos = s.sweepPos ∧ (s.carryScenePop item).hold = s.hold ∧
    (s.carryScenePop item).meter = s.meter := by
  unfold State.carryScenePop
  (repeat' split) <;> simp

@[simp] theorem State.applyScenePop_frame (s : State) (item : CueItem) :
    (s.applyScenePop item).pending = s.pending ∧ (s.applyScenePop item).block = s.block ∧ (s.applyScenePop
    item).marks = s.marks ∧ (s.applyScenePop item).linkA = s.linkA ∧ (s.applyScenePop item).linkB = s.linkB ∧
    (s.applyScenePop item).nom = s.nom ∧ (s.applyScenePop item).outIndex = s.outIndex ∧ (s.applyScenePop
    item).outSlots = s.outSlots ∧ (s.applyScenePop item).fillsTaken = s.fillsTaken ∧ (s.applyScenePop item).routes =
    s.routes ∧ (s.applyScenePop item).unserved = s.unserved ∧ (s.applyScenePop item).admitted = s.admitted ∧
    (s.applyScenePop item).rebuild = s.rebuild ∧ (s.applyScenePop item).survey = s.survey ∧ (s.applyScenePop
    item).live = s.live ∧ (s.applyScenePop item).adoption = s.adoption ∧ (s.applyScenePop item).takeList =
    s.takeList ∧ (s.applyScenePop item).sweepPos = s.sweepPos ∧ (s.applyScenePop item).hold = s.hold ∧
    (s.applyScenePop item).meter = s.meter := by
  unfold State.applyScenePop
  (repeat' split) <;> simp

@[simp] theorem State.applySceneClear_frame (s : State) (item : CueItem) :
    (s.applySceneClear item).pending = s.pending ∧ (s.applySceneClear item).block = s.block ∧ (s.applySceneClear
    item).marks = s.marks ∧ (s.applySceneClear item).linkA = s.linkA ∧ (s.applySceneClear item).linkB = s.linkB ∧
    (s.applySceneClear item).sources = s.sources ∧ (s.applySceneClear item).nom = s.nom ∧ (s.applySceneClear
    item).zones = s.zones ∧ (s.applySceneClear item).outIndex = s.outIndex ∧ (s.applySceneClear item).outSlots =
    s.outSlots ∧ (s.applySceneClear item).fillsTaken = s.fillsTaken ∧ (s.applySceneClear item).routes = s.routes ∧
    (s.applySceneClear item).unserved = s.unserved ∧ (s.applySceneClear item).admitted = s.admitted ∧
    (s.applySceneClear item).rebuild = s.rebuild ∧ (s.applySceneClear item).survey = s.survey ∧ (s.applySceneClear
    item).live = s.live ∧ (s.applySceneClear item).adoption = s.adoption ∧ (s.applySceneClear item).takeList =
    s.takeList ∧ (s.applySceneClear item).sweepPos = s.sweepPos ∧ (s.applySceneClear item).hold = s.hold ∧
    (s.applySceneClear item).meter = s.meter := by
  unfold State.applySceneClear
  (repeat' split) <;> simp

/-! ### Surveys -/

@[simp] theorem State.beginSurvey_frame (s : State) (b : Bank) (item : CueItem) (body : List Word) (z : Fin 24) :
    (s.beginSurvey b item body z).pending = s.pending ∧ (s.beginSurvey b item body z).block = s.block ∧
    (s.beginSurvey b item body z).port = s.port ∧ (s.beginSurvey b item body z).linkA = s.linkA ∧ (s.beginSurvey b
    item body z).linkB = s.linkB ∧ (s.beginSurvey b item body z).sources = s.sources ∧ (s.beginSurvey b item body
    z).nom = s.nom ∧ (s.beginSurvey b item body z).zones = s.zones ∧ (s.beginSurvey b item body z).outIndex =
    s.outIndex ∧ (s.beginSurvey b item body z).outSlots = s.outSlots ∧ (s.beginSurvey b item body z).fillsTaken =
    s.fillsTaken ∧ (s.beginSurvey b item body z).unserved = s.unserved ∧ (s.beginSurvey b item body z).admitted =
    s.admitted ∧ (s.beginSurvey b item body z).rebuild = s.rebuild ∧ (s.beginSurvey b item body z).scenes = s.scenes
    ∧ (s.beginSurvey b item body z).live = s.live ∧ (s.beginSurvey b item body z).adoption = s.adoption ∧
    (s.beginSurvey b item body z).takeList = s.takeList ∧ (s.beginSurvey b item body z).sweepPos = s.sweepPos ∧
    (s.beginSurvey b item body z).hold = s.hold ∧ (s.beginSurvey b item body z).meter = s.meter := by
  unfold State.beginSurvey
  simp

@[simp] theorem State.carrySurveyStart_frame (s : State) (item : CueItem) :
    (s.carrySurveyStart item).pending = s.pending ∧ (s.carrySurveyStart item).block = s.block ∧ (s.carrySurveyStart
    item).port = s.port ∧ (s.carrySurveyStart item).linkA = s.linkA ∧ (s.carrySurveyStart item).linkB = s.linkB ∧
    (s.carrySurveyStart item).sources = s.sources ∧ (s.carrySurveyStart item).nom = s.nom ∧ (s.carrySurveyStart
    item).zones = s.zones ∧ (s.carrySurveyStart item).outIndex = s.outIndex ∧ (s.carrySurveyStart item).outSlots =
    s.outSlots ∧ (s.carrySurveyStart item).fillsTaken = s.fillsTaken ∧ (s.carrySurveyStart item).unserved =
    s.unserved ∧ (s.carrySurveyStart item).admitted = s.admitted ∧ (s.carrySurveyStart item).rebuild = s.rebuild ∧
    (s.carrySurveyStart item).scenes = s.scenes ∧ (s.carrySurveyStart item).live = s.live ∧ (s.carrySurveyStart
    item).adoption = s.adoption ∧ (s.carrySurveyStart item).takeList = s.takeList ∧ (s.carrySurveyStart
    item).sweepPos = s.sweepPos ∧ (s.carrySurveyStart item).hold = s.hold ∧ (s.carrySurveyStart item).meter =
    s.meter := by
  unfold State.carrySurveyStart
  (repeat' split) <;> simp

@[simp] theorem State.applySurveyStart_frame (s : State) (item : CueItem) :
    (s.applySurveyStart item).pending = s.pending ∧ (s.applySurveyStart item).block = s.block ∧ (s.applySurveyStart
    item).linkA = s.linkA ∧ (s.applySurveyStart item).linkB = s.linkB ∧ (s.applySurveyStart item).sources =
    s.sources ∧ (s.applySurveyStart item).nom = s.nom ∧ (s.applySurveyStart item).zones = s.zones ∧
    (s.applySurveyStart item).outIndex = s.outIndex ∧ (s.applySurveyStart item).outSlots = s.outSlots ∧
    (s.applySurveyStart item).fillsTaken = s.fillsTaken ∧ (s.applySurveyStart item).unserved = s.unserved ∧
    (s.applySurveyStart item).admitted = s.admitted ∧ (s.applySurveyStart item).rebuild = s.rebuild ∧
    (s.applySurveyStart item).scenes = s.scenes ∧ (s.applySurveyStart item).live = s.live ∧ (s.applySurveyStart
    item).adoption = s.adoption ∧ (s.applySurveyStart item).takeList = s.takeList ∧ (s.applySurveyStart
    item).sweepPos = s.sweepPos ∧ (s.applySurveyStart item).hold = s.hold ∧ (s.applySurveyStart item).meter =
    s.meter := by
  unfold State.applySurveyStart
  (repeat' split) <;> simp

@[simp] theorem State.completeSurvey_frame (s : State) :
    (s.completeSurvey).pending = s.pending ∧ (s.completeSurvey).block = s.block ∧ (s.completeSurvey).marks = s.marks
    ∧ (s.completeSurvey).linkA = s.linkA ∧ (s.completeSurvey).linkB = s.linkB ∧ (s.completeSurvey).sources =
    s.sources ∧ (s.completeSurvey).nom = s.nom ∧ (s.completeSurvey).zones = s.zones ∧ (s.completeSurvey).outIndex =
    s.outIndex ∧ (s.completeSurvey).outSlots = s.outSlots ∧ (s.completeSurvey).fillsTaken = s.fillsTaken ∧
    (s.completeSurvey).routes = s.routes ∧ (s.completeSurvey).unserved = s.unserved ∧ (s.completeSurvey).admitted =
    s.admitted ∧ (s.completeSurvey).scenes = s.scenes ∧ (s.completeSurvey).live = s.live ∧
    (s.completeSurvey).adoption = s.adoption ∧ (s.completeSurvey).takeList = s.takeList ∧
    (s.completeSurvey).sweepPos = s.sweepPos ∧ (s.completeSurvey).hold = s.hold ∧ (s.completeSurvey).meter = s.meter := by
  unfold State.completeSurvey
  simp

@[simp] theorem State.abandonSurvey_frame (s : State) (c : ResultCode) :
    (s.abandonSurvey c).pending = s.pending ∧ (s.abandonSurvey c).block = s.block ∧ (s.abandonSurvey c).marks =
    s.marks ∧ (s.abandonSurvey c).linkA = s.linkA ∧ (s.abandonSurvey c).linkB = s.linkB ∧ (s.abandonSurvey
    c).sources = s.sources ∧ (s.abandonSurvey c).nom = s.nom ∧ (s.abandonSurvey c).zones = s.zones ∧
    (s.abandonSurvey c).outIndex = s.outIndex ∧ (s.abandonSurvey c).outSlots = s.outSlots ∧ (s.abandonSurvey
    c).fillsTaken = s.fillsTaken ∧ (s.abandonSurvey c).routes = s.routes ∧ (s.abandonSurvey c).unserved = s.unserved
    ∧ (s.abandonSurvey c).admitted = s.admitted ∧ (s.abandonSurvey c).rebuild = s.rebuild ∧ (s.abandonSurvey
    c).scenes = s.scenes ∧ (s.abandonSurvey c).live = s.live ∧ (s.abandonSurvey c).adoption = s.adoption ∧
    (s.abandonSurvey c).takeList = s.takeList ∧ (s.abandonSurvey c).sweepPos = s.sweepPos ∧ (s.abandonSurvey c).hold
    = s.hold ∧ (s.abandonSurvey c).meter = s.meter := by
  unfold State.abandonSurvey
  simp

@[simp] theorem State.stopProbe_frame (s : State) :
    (s.stopProbe).pending = s.pending ∧ (s.stopProbe).block = s.block ∧ (s.stopProbe).marks = s.marks ∧
    (s.stopProbe).mem = s.mem ∧ (s.stopProbe).port = s.port ∧ (s.stopProbe).linkA = s.linkA ∧ (s.stopProbe).linkB =
    s.linkB ∧ (s.stopProbe).sources = s.sources ∧ (s.stopProbe).nom = s.nom ∧ (s.stopProbe).outIndex = s.outIndex ∧
    (s.stopProbe).outSlots = s.outSlots ∧ (s.stopProbe).fillsTaken = s.fillsTaken ∧ (s.stopProbe).routes = s.routes
    ∧ (s.stopProbe).unserved = s.unserved ∧ (s.stopProbe).admitted = s.admitted ∧ (s.stopProbe).rebuild = s.rebuild
    ∧ (s.stopProbe).scenes = s.scenes ∧ (s.stopProbe).survey = s.survey ∧ (s.stopProbe).live = s.live ∧
    (s.stopProbe).adoption = s.adoption ∧ (s.stopProbe).takeList = s.takeList ∧ (s.stopProbe).sweepPos = s.sweepPos
    ∧ (s.stopProbe).hold = s.hold ∧ (s.stopProbe).meter = s.meter := by
  unfold State.stopProbe
  (repeat' split) <;> simp

@[simp] theorem State.carrySurveyAbort_frame (s : State) (item : CueItem) :
    (s.carrySurveyAbort item).pending = s.pending ∧ (s.carrySurveyAbort item).block = s.block ∧ (s.carrySurveyAbort
    item).marks = s.marks ∧ (s.carrySurveyAbort item).linkA = s.linkA ∧ (s.carrySurveyAbort item).linkB = s.linkB ∧
    (s.carrySurveyAbort item).sources = s.sources ∧ (s.carrySurveyAbort item).nom = s.nom ∧ (s.carrySurveyAbort
    item).outIndex = s.outIndex ∧ (s.carrySurveyAbort item).outSlots = s.outSlots ∧ (s.carrySurveyAbort
    item).fillsTaken = s.fillsTaken ∧ (s.carrySurveyAbort item).routes = s.routes ∧ (s.carrySurveyAbort
    item).unserved = s.unserved ∧ (s.carrySurveyAbort item).admitted = s.admitted ∧ (s.carrySurveyAbort item).scenes
    = s.scenes ∧ (s.carrySurveyAbort item).live = s.live ∧ (s.carrySurveyAbort item).adoption = s.adoption ∧
    (s.carrySurveyAbort item).takeList = s.takeList ∧ (s.carrySurveyAbort item).sweepPos = s.sweepPos ∧
    (s.carrySurveyAbort item).hold = s.hold ∧ (s.carrySurveyAbort item).meter = s.meter := by
  unfold State.carrySurveyAbort
  simp

@[simp] theorem State.applySurveyAbort_frame (s : State) (item : CueItem) :
    (s.applySurveyAbort item).pending = s.pending ∧ (s.applySurveyAbort item).block = s.block ∧ (s.applySurveyAbort
    item).marks = s.marks ∧ (s.applySurveyAbort item).linkA = s.linkA ∧ (s.applySurveyAbort item).linkB = s.linkB ∧
    (s.applySurveyAbort item).sources = s.sources ∧ (s.applySurveyAbort item).nom = s.nom ∧ (s.applySurveyAbort
    item).outIndex = s.outIndex ∧ (s.applySurveyAbort item).outSlots = s.outSlots ∧ (s.applySurveyAbort
    item).fillsTaken = s.fillsTaken ∧ (s.applySurveyAbort item).routes = s.routes ∧ (s.applySurveyAbort
    item).unserved = s.unserved ∧ (s.applySurveyAbort item).admitted = s.admitted ∧ (s.applySurveyAbort item).scenes
    = s.scenes ∧ (s.applySurveyAbort item).live = s.live ∧ (s.applySurveyAbort item).adoption = s.adoption ∧
    (s.applySurveyAbort item).takeList = s.takeList ∧ (s.applySurveyAbort item).sweepPos = s.sweepPos ∧
    (s.applySurveyAbort item).hold = s.hold ∧ (s.applySurveyAbort item).meter = s.meter := by
  unfold State.applySurveyAbort
  (repeat' split) <;> simp

@[simp] theorem State.mutingEnd_frame (s : State) :
    (s.mutingEnd).pending = s.pending ∧ (s.mutingEnd).block = s.block ∧ (s.mutingEnd).marks = s.marks ∧
    (s.mutingEnd).mem = s.mem ∧ (s.mutingEnd).port = s.port ∧ (s.mutingEnd).linkA = s.linkA ∧ (s.mutingEnd).linkB =
    s.linkB ∧ (s.mutingEnd).sources = s.sources ∧ (s.mutingEnd).nom = s.nom ∧ (s.mutingEnd).zones = s.zones ∧
    (s.mutingEnd).outIndex = s.outIndex ∧ (s.mutingEnd).outSlots = s.outSlots ∧ (s.mutingEnd).fillsTaken =
    s.fillsTaken ∧ (s.mutingEnd).routes = s.routes ∧ (s.mutingEnd).unserved = s.unserved ∧ (s.mutingEnd).admitted =
    s.admitted ∧ (s.mutingEnd).rebuild = s.rebuild ∧ (s.mutingEnd).scenes = s.scenes ∧ (s.mutingEnd).live = s.live ∧
    (s.mutingEnd).adoption = s.adoption ∧ (s.mutingEnd).takeList = s.takeList ∧ (s.mutingEnd).sweepPos = s.sweepPos
    ∧ (s.mutingEnd).hold = s.hold ∧ (s.mutingEnd).meter = s.meter := by
  unfold State.mutingEnd
  (repeat' split) <;> simp

@[simp] theorem State.quietEnd_frame (s : State) :
    (s.quietEnd).pending = s.pending ∧ (s.quietEnd).block = s.block ∧ (s.quietEnd).marks = s.marks ∧
    (s.quietEnd).mem = s.mem ∧ (s.quietEnd).port = s.port ∧ (s.quietEnd).linkA = s.linkA ∧ (s.quietEnd).linkB =
    s.linkB ∧ (s.quietEnd).sources = s.sources ∧ (s.quietEnd).nom = s.nom ∧ (s.quietEnd).zones = s.zones ∧
    (s.quietEnd).outIndex = s.outIndex ∧ (s.quietEnd).outSlots = s.outSlots ∧ (s.quietEnd).fillsTaken = s.fillsTaken
    ∧ (s.quietEnd).routes = s.routes ∧ (s.quietEnd).unserved = s.unserved ∧ (s.quietEnd).admitted = s.admitted ∧
    (s.quietEnd).rebuild = s.rebuild ∧ (s.quietEnd).scenes = s.scenes ∧ (s.quietEnd).live = s.live ∧
    (s.quietEnd).adoption = s.adoption ∧ (s.quietEnd).takeList = s.takeList ∧ (s.quietEnd).sweepPos = s.sweepPos ∧
    (s.quietEnd).hold = s.hold ∧ (s.quietEnd).meter = s.meter := by
  unfold State.quietEnd
  (repeat' split) <;> simp

@[simp] theorem State.settleEnd_frame (s : State) :
    (s.settleEnd).pending = s.pending ∧ (s.settleEnd).block = s.block ∧ (s.settleEnd).marks = s.marks ∧
    (s.settleEnd).mem = s.mem ∧ (s.settleEnd).port = s.port ∧ (s.settleEnd).linkA = s.linkA ∧ (s.settleEnd).linkB =
    s.linkB ∧ (s.settleEnd).sources = s.sources ∧ (s.settleEnd).nom = s.nom ∧ (s.settleEnd).zones = s.zones ∧
    (s.settleEnd).outIndex = s.outIndex ∧ (s.settleEnd).outSlots = s.outSlots ∧ (s.settleEnd).fillsTaken =
    s.fillsTaken ∧ (s.settleEnd).routes = s.routes ∧ (s.settleEnd).unserved = s.unserved ∧ (s.settleEnd).admitted =
    s.admitted ∧ (s.settleEnd).rebuild = s.rebuild ∧ (s.settleEnd).scenes = s.scenes ∧ (s.settleEnd).live = s.live ∧
    (s.settleEnd).adoption = s.adoption ∧ (s.settleEnd).takeList = s.takeList ∧ (s.settleEnd).sweepPos = s.sweepPos
    ∧ (s.settleEnd).hold = s.hold ∧ (s.settleEnd).meter = s.meter := by
  unfold State.settleEnd
  (repeat' split) <;> simp

@[simp] theorem State.measureEnd_frame (s : State) :
    (s.measureEnd).pending = s.pending ∧ (s.measureEnd).block = s.block ∧ (s.measureEnd).marks = s.marks ∧
    (s.measureEnd).linkA = s.linkA ∧ (s.measureEnd).linkB = s.linkB ∧ (s.measureEnd).sources = s.sources ∧
    (s.measureEnd).nom = s.nom ∧ (s.measureEnd).zones = s.zones ∧ (s.measureEnd).outIndex = s.outIndex ∧
    (s.measureEnd).outSlots = s.outSlots ∧ (s.measureEnd).fillsTaken = s.fillsTaken ∧ (s.measureEnd).routes =
    s.routes ∧ (s.measureEnd).unserved = s.unserved ∧ (s.measureEnd).admitted = s.admitted ∧ (s.measureEnd).scenes =
    s.scenes ∧ (s.measureEnd).live = s.live ∧ (s.measureEnd).adoption = s.adoption ∧ (s.measureEnd).takeList =
    s.takeList ∧ (s.measureEnd).sweepPos = s.sweepPos ∧ (s.measureEnd).hold = s.hold ∧ (s.measureEnd).meter =
    s.meter := by
  unfold State.measureEnd
  (repeat' split) <;> simp

@[simp] theorem State.tailEnd_frame (s : State) :
    (s.tailEnd).pending = s.pending ∧ (s.tailEnd).block = s.block ∧ (s.tailEnd).marks = s.marks ∧ (s.tailEnd).linkA
    = s.linkA ∧ (s.tailEnd).linkB = s.linkB ∧ (s.tailEnd).sources = s.sources ∧ (s.tailEnd).nom = s.nom ∧
    (s.tailEnd).zones = s.zones ∧ (s.tailEnd).outIndex = s.outIndex ∧ (s.tailEnd).outSlots = s.outSlots ∧
    (s.tailEnd).fillsTaken = s.fillsTaken ∧ (s.tailEnd).routes = s.routes ∧ (s.tailEnd).unserved = s.unserved ∧
    (s.tailEnd).admitted = s.admitted ∧ (s.tailEnd).scenes = s.scenes ∧ (s.tailEnd).live = s.live ∧
    (s.tailEnd).adoption = s.adoption ∧ (s.tailEnd).takeList = s.takeList ∧ (s.tailEnd).sweepPos = s.sweepPos ∧
    (s.tailEnd).hold = s.hold ∧ (s.tailEnd).meter = s.meter := by
  unfold State.tailEnd
  (repeat' split) <;> simp

@[simp] theorem State.advanceSurvey_frame (s : State) :
    (s.advanceSurvey).pending = s.pending ∧ (s.advanceSurvey).block = s.block ∧ (s.advanceSurvey).marks = s.marks ∧
    (s.advanceSurvey).linkA = s.linkA ∧ (s.advanceSurvey).linkB = s.linkB ∧ (s.advanceSurvey).sources = s.sources ∧
    (s.advanceSurvey).nom = s.nom ∧ (s.advanceSurvey).zones = s.zones ∧ (s.advanceSurvey).outIndex = s.outIndex ∧
    (s.advanceSurvey).outSlots = s.outSlots ∧ (s.advanceSurvey).fillsTaken = s.fillsTaken ∧ (s.advanceSurvey).routes
    = s.routes ∧ (s.advanceSurvey).unserved = s.unserved ∧ (s.advanceSurvey).admitted = s.admitted ∧
    (s.advanceSurvey).scenes = s.scenes ∧ (s.advanceSurvey).live = s.live ∧ (s.advanceSurvey).adoption = s.adoption
    ∧ (s.advanceSurvey).takeList = s.takeList ∧ (s.advanceSurvey).sweepPos = s.sweepPos ∧ (s.advanceSurvey).hold =
    s.hold ∧ (s.advanceSurvey).meter = s.meter := by
  unfold State.advanceSurvey
  (repeat' split) <;> simp

/-! ### Banks -/

@[simp] theorem State.beginAdoption_frame (s : State) (item : CueItem) (b : BankId) :
    (s.beginAdoption item b).pending = s.pending ∧ (s.beginAdoption item b).block = s.block ∧ (s.beginAdoption item
    b).marks = s.marks ∧ (s.beginAdoption item b).port = s.port ∧ (s.beginAdoption item b).linkA = s.linkA ∧
    (s.beginAdoption item b).linkB = s.linkB ∧ (s.beginAdoption item b).sources = s.sources ∧ (s.beginAdoption item
    b).nom = s.nom ∧ (s.beginAdoption item b).zones = s.zones ∧ (s.beginAdoption item b).outIndex = s.outIndex ∧
    (s.beginAdoption item b).outSlots = s.outSlots ∧ (s.beginAdoption item b).fillsTaken = s.fillsTaken ∧
    (s.beginAdoption item b).routes = s.routes ∧ (s.beginAdoption item b).unserved = s.unserved ∧ (s.beginAdoption
    item b).admitted = s.admitted ∧ (s.beginAdoption item b).rebuild = s.rebuild ∧ (s.beginAdoption item b).scenes =
    s.scenes ∧ (s.beginAdoption item b).survey = s.survey ∧ (s.beginAdoption item b).live = s.live ∧
    (s.beginAdoption item b).takeList = s.takeList ∧ (s.beginAdoption item b).sweepPos = s.sweepPos ∧
    (s.beginAdoption item b).hold = s.hold ∧ (s.beginAdoption item b).meter = s.meter := by
  unfold State.beginAdoption
  simp

@[simp] theorem State.carryBankAdopt_frame (s : State) (item : CueItem) :
    (s.carryBankAdopt item).pending = s.pending ∧ (s.carryBankAdopt item).block = s.block ∧ (s.carryBankAdopt
    item).marks = s.marks ∧ (s.carryBankAdopt item).port = s.port ∧ (s.carryBankAdopt item).linkA = s.linkA ∧
    (s.carryBankAdopt item).linkB = s.linkB ∧ (s.carryBankAdopt item).sources = s.sources ∧ (s.carryBankAdopt
    item).nom = s.nom ∧ (s.carryBankAdopt item).zones = s.zones ∧ (s.carryBankAdopt item).outIndex = s.outIndex ∧
    (s.carryBankAdopt item).outSlots = s.outSlots ∧ (s.carryBankAdopt item).fillsTaken = s.fillsTaken ∧
    (s.carryBankAdopt item).routes = s.routes ∧ (s.carryBankAdopt item).unserved = s.unserved ∧ (s.carryBankAdopt
    item).admitted = s.admitted ∧ (s.carryBankAdopt item).rebuild = s.rebuild ∧ (s.carryBankAdopt item).scenes =
    s.scenes ∧ (s.carryBankAdopt item).survey = s.survey ∧ (s.carryBankAdopt item).live = s.live ∧ (s.carryBankAdopt
    item).takeList = s.takeList ∧ (s.carryBankAdopt item).sweepPos = s.sweepPos ∧ (s.carryBankAdopt item).hold =
    s.hold ∧ (s.carryBankAdopt item).meter = s.meter := by
  unfold State.carryBankAdopt
  (repeat' split) <;> simp

@[simp] theorem State.applyBankAdopt_frame (s : State) (item : CueItem) :
    (s.applyBankAdopt item).pending = s.pending ∧ (s.applyBankAdopt item).block = s.block ∧ (s.applyBankAdopt
    item).marks = s.marks ∧ (s.applyBankAdopt item).linkA = s.linkA ∧ (s.applyBankAdopt item).linkB = s.linkB ∧
    (s.applyBankAdopt item).sources = s.sources ∧ (s.applyBankAdopt item).nom = s.nom ∧ (s.applyBankAdopt
    item).zones = s.zones ∧ (s.applyBankAdopt item).outIndex = s.outIndex ∧ (s.applyBankAdopt item).outSlots =
    s.outSlots ∧ (s.applyBankAdopt item).fillsTaken = s.fillsTaken ∧ (s.applyBankAdopt item).routes = s.routes ∧
    (s.applyBankAdopt item).unserved = s.unserved ∧ (s.applyBankAdopt item).admitted = s.admitted ∧
    (s.applyBankAdopt item).rebuild = s.rebuild ∧ (s.applyBankAdopt item).scenes = s.scenes ∧ (s.applyBankAdopt
    item).survey = s.survey ∧ (s.applyBankAdopt item).live = s.live ∧ (s.applyBankAdopt item).takeList = s.takeList
    ∧ (s.applyBankAdopt item).sweepPos = s.sweepPos ∧ (s.applyBankAdopt item).hold = s.hold ∧ (s.applyBankAdopt
    item).meter = s.meter := by
  unfold State.applyBankAdopt
  (repeat' split) <;> simp

@[simp] theorem State.validate_frame (s : State) :
    (s.validate).pending = s.pending ∧ (s.validate).block = s.block ∧ (s.validate).marks = s.marks ∧
    (s.validate).mem = s.mem ∧ (s.validate).port = s.port ∧ (s.validate).linkA = s.linkA ∧ (s.validate).linkB =
    s.linkB ∧ (s.validate).sources = s.sources ∧ (s.validate).nom = s.nom ∧ (s.validate).zones = s.zones ∧
    (s.validate).outIndex = s.outIndex ∧ (s.validate).outSlots = s.outSlots ∧ (s.validate).fillsTaken = s.fillsTaken
    ∧ (s.validate).routes = s.routes ∧ (s.validate).unserved = s.unserved ∧ (s.validate).admitted = s.admitted ∧
    (s.validate).rebuild = s.rebuild ∧ (s.validate).scenes = s.scenes ∧ (s.validate).survey = s.survey ∧
    (s.validate).live = s.live ∧ (s.validate).takeList = s.takeList ∧ (s.validate).sweepPos = s.sweepPos ∧
    (s.validate).hold = s.hold ∧ (s.validate).meter = s.meter := by
  unfold State.validate
  simp

@[simp] theorem State.rejectBank_frame (s : State) (a : Adoption) (r : RejectReason) (n : Nat) :
    (s.rejectBank a r n).pending = s.pending ∧ (s.rejectBank a r n).block = s.block ∧ (s.rejectBank a r n).linkA =
    s.linkA ∧ (s.rejectBank a r n).linkB = s.linkB ∧ (s.rejectBank a r n).sources = s.sources ∧ (s.rejectBank a r
    n).nom = s.nom ∧ (s.rejectBank a r n).zones = s.zones ∧ (s.rejectBank a r n).outIndex = s.outIndex ∧
    (s.rejectBank a r n).outSlots = s.outSlots ∧ (s.rejectBank a r n).fillsTaken = s.fillsTaken ∧ (s.rejectBank a r
    n).routes = s.routes ∧ (s.rejectBank a r n).unserved = s.unserved ∧ (s.rejectBank a r n).admitted = s.admitted ∧
    (s.rejectBank a r n).rebuild = s.rebuild ∧ (s.rejectBank a r n).scenes = s.scenes ∧ (s.rejectBank a r n).survey
    = s.survey ∧ (s.rejectBank a r n).live = s.live ∧ (s.rejectBank a r n).takeList = s.takeList ∧ (s.rejectBank a r
    n).sweepPos = s.sweepPos ∧ (s.rejectBank a r n).hold = s.hold ∧ (s.rejectBank a r n).meter = s.meter := by
  unfold State.rejectBank
  simp

@[simp] theorem State.bankReject_frame (s : State) :
    (s.bankReject).pending = s.pending ∧ (s.bankReject).block = s.block ∧ (s.bankReject).linkA = s.linkA ∧
    (s.bankReject).linkB = s.linkB ∧ (s.bankReject).sources = s.sources ∧ (s.bankReject).nom = s.nom ∧
    (s.bankReject).zones = s.zones ∧ (s.bankReject).outIndex = s.outIndex ∧ (s.bankReject).outSlots = s.outSlots ∧
    (s.bankReject).fillsTaken = s.fillsTaken ∧ (s.bankReject).routes = s.routes ∧ (s.bankReject).unserved =
    s.unserved ∧ (s.bankReject).admitted = s.admitted ∧ (s.bankReject).rebuild = s.rebuild ∧ (s.bankReject).scenes =
    s.scenes ∧ (s.bankReject).survey = s.survey ∧ (s.bankReject).live = s.live ∧ (s.bankReject).takeList =
    s.takeList ∧ (s.bankReject).sweepPos = s.sweepPos ∧ (s.bankReject).hold = s.hold ∧ (s.bankReject).meter =
    s.meter := by
  unfold State.bankReject
  (repeat' split) <;> simp

@[simp] theorem State.installBank_frame (s : State) (a : Adoption) :
    (s.installBank a).pending = s.pending ∧ (s.installBank a).block = s.block ∧ (s.installBank a).linkA = s.linkA ∧
    (s.installBank a).linkB = s.linkB ∧ (s.installBank a).nom = s.nom ∧ (s.installBank a).zones = s.zones ∧
    (s.installBank a).outIndex = s.outIndex ∧ (s.installBank a).outSlots = s.outSlots ∧ (s.installBank a).fillsTaken
    = s.fillsTaken ∧ (s.installBank a).routes = s.routes ∧ (s.installBank a).unserved = s.unserved ∧ (s.installBank
    a).admitted = s.admitted ∧ (s.installBank a).rebuild = s.rebuild ∧ (s.installBank a).scenes = s.scenes ∧
    (s.installBank a).survey = s.survey ∧ (s.installBank a).takeList = s.takeList ∧ (s.installBank a).sweepPos =
    s.sweepPos ∧ (s.installBank a).hold = s.hold ∧ (s.installBank a).meter = s.meter := by
  unfold State.installBank
  (repeat' split) <;> simp

@[simp] theorem State.installDue_frame (s : State) :
    (s.installDue).pending = s.pending ∧ (s.installDue).block = s.block ∧ (s.installDue).linkA = s.linkA ∧
    (s.installDue).linkB = s.linkB ∧ (s.installDue).nom = s.nom ∧ (s.installDue).zones = s.zones ∧
    (s.installDue).outIndex = s.outIndex ∧ (s.installDue).outSlots = s.outSlots ∧ (s.installDue).fillsTaken =
    s.fillsTaken ∧ (s.installDue).routes = s.routes ∧ (s.installDue).unserved = s.unserved ∧ (s.installDue).admitted
    = s.admitted ∧ (s.installDue).rebuild = s.rebuild ∧ (s.installDue).scenes = s.scenes ∧ (s.installDue).survey =
    s.survey ∧ (s.installDue).takeList = s.takeList ∧ (s.installDue).sweepPos = s.sweepPos ∧ (s.installDue).hold =
    s.hold ∧ (s.installDue).meter = s.meter := by
  unfold State.installDue
  (repeat' split) <;> simp

@[simp] theorem State.reloadMix_frame (s : State) :
    (s.reloadMix).pending = s.pending ∧ (s.reloadMix).block = s.block ∧ (s.reloadMix).marks = s.marks ∧
    (s.reloadMix).mem = s.mem ∧ (s.reloadMix).port = s.port ∧ (s.reloadMix).linkA = s.linkA ∧ (s.reloadMix).linkB =
    s.linkB ∧ (s.reloadMix).nom = s.nom ∧ (s.reloadMix).outIndex = s.outIndex ∧ (s.reloadMix).outSlots = s.outSlots
    ∧ (s.reloadMix).fillsTaken = s.fillsTaken ∧ (s.reloadMix).unserved = s.unserved ∧ (s.reloadMix).admitted =
    s.admitted ∧ (s.reloadMix).scenes = s.scenes ∧ (s.reloadMix).survey = s.survey ∧ (s.reloadMix).live = s.live ∧
    (s.reloadMix).adoption = s.adoption ∧ (s.reloadMix).takeList = s.takeList ∧ (s.reloadMix).sweepPos = s.sweepPos
    ∧ (s.reloadMix).hold = s.hold ∧ (s.reloadMix).meter = s.meter := by
  unfold State.reloadMix
  (repeat' split) <;> simp

@[simp] theorem State.abandonAdoption_frame (s : State) :
    (s.abandonAdoption).pending = s.pending ∧ (s.abandonAdoption).block = s.block ∧ (s.abandonAdoption).marks =
    s.marks ∧ (s.abandonAdoption).linkA = s.linkA ∧ (s.abandonAdoption).linkB = s.linkB ∧
    (s.abandonAdoption).sources = s.sources ∧ (s.abandonAdoption).nom = s.nom ∧ (s.abandonAdoption).zones = s.zones
    ∧ (s.abandonAdoption).outIndex = s.outIndex ∧ (s.abandonAdoption).outSlots = s.outSlots ∧
    (s.abandonAdoption).fillsTaken = s.fillsTaken ∧ (s.abandonAdoption).routes = s.routes ∧
    (s.abandonAdoption).unserved = s.unserved ∧ (s.abandonAdoption).admitted = s.admitted ∧
    (s.abandonAdoption).rebuild = s.rebuild ∧ (s.abandonAdoption).scenes = s.scenes ∧ (s.abandonAdoption).survey =
    s.survey ∧ (s.abandonAdoption).live = s.live ∧ (s.abandonAdoption).takeList = s.takeList ∧
    (s.abandonAdoption).sweepPos = s.sweepPos ∧ (s.abandonAdoption).hold = s.hold ∧ (s.abandonAdoption).meter =
    s.meter := by
  unfold State.abandonAdoption
  (repeat' split) <;> simp

/-! ### Resets -/

@[simp] theorem State.emptyLists_frame (s : State) :
    (s.emptyLists).pending = s.pending ∧ (s.emptyLists).block = s.block ∧ (s.emptyLists).marks = s.marks ∧
    (s.emptyLists).mem = s.mem ∧ (s.emptyLists).port = s.port ∧ (s.emptyLists).linkA = s.linkA ∧
    (s.emptyLists).linkB = s.linkB ∧ (s.emptyLists).sources = s.sources ∧ (s.emptyLists).nom = s.nom ∧
    (s.emptyLists).zones = s.zones ∧ (s.emptyLists).outIndex = s.outIndex ∧ (s.emptyLists).outSlots = s.outSlots ∧
    (s.emptyLists).fillsTaken = s.fillsTaken ∧ (s.emptyLists).survey = s.survey ∧ (s.emptyLists).live = s.live ∧
    (s.emptyLists).adoption = s.adoption ∧ (s.emptyLists).takeList = s.takeList ∧ (s.emptyLists).sweepPos =
    s.sweepPos ∧ (s.emptyLists).hold = s.hold ∧ (s.emptyLists).meter = s.meter := by
  unfold State.emptyLists
  (repeat' split) <;> simp

@[simp] theorem State.resetSurvey_frame (s : State) :
    (s.resetSurvey).pending = s.pending ∧ (s.resetSurvey).block = s.block ∧ (s.resetSurvey).marks = s.marks ∧
    (s.resetSurvey).linkA = s.linkA ∧ (s.resetSurvey).linkB = s.linkB ∧ (s.resetSurvey).sources = s.sources ∧
    (s.resetSurvey).nom = s.nom ∧ (s.resetSurvey).zones = s.zones ∧ (s.resetSurvey).outIndex = s.outIndex ∧
    (s.resetSurvey).outSlots = s.outSlots ∧ (s.resetSurvey).fillsTaken = s.fillsTaken ∧ (s.resetSurvey).routes =
    s.routes ∧ (s.resetSurvey).unserved = s.unserved ∧ (s.resetSurvey).admitted = s.admitted ∧
    (s.resetSurvey).rebuild = s.rebuild ∧ (s.resetSurvey).scenes = s.scenes ∧ (s.resetSurvey).live = s.live ∧
    (s.resetSurvey).adoption = s.adoption ∧ (s.resetSurvey).takeList = s.takeList ∧ (s.resetSurvey).sweepPos =
    s.sweepPos ∧ (s.resetSurvey).hold = s.hold ∧ (s.resetSurvey).meter = s.meter := by
  unfold State.resetSurvey
  (repeat' split) <;> simp

@[simp] theorem State.carryReset_frame (s : State) :
    (s.carryReset).pending = s.pending ∧ (s.carryReset).block = s.block ∧ (s.carryReset).linkA = s.linkA ∧
    (s.carryReset).linkB = s.linkB ∧ (s.carryReset).nom = s.nom ∧ (s.carryReset).outIndex = s.outIndex ∧
    (s.carryReset).outSlots = s.outSlots ∧ (s.carryReset).fillsTaken = s.fillsTaken ∧ (s.carryReset).live = s.live ∧
    (s.carryReset).takeList = s.takeList ∧ (s.carryReset).sweepPos = s.sweepPos ∧ (s.carryReset).hold = s.hold ∧
    (s.carryReset).meter = s.meter := by
  unfold State.carryReset
  simp

/-! ### Meters -/

@[simp] theorem State.gatherLoad_frame (s : State) :
    (s.gatherLoad).pending = s.pending ∧ (s.gatherLoad).block = s.block ∧ (s.gatherLoad).marks = s.marks ∧
    (s.gatherLoad).mem = s.mem ∧ (s.gatherLoad).port = s.port ∧ (s.gatherLoad).linkA = s.linkA ∧
    (s.gatherLoad).linkB = s.linkB ∧ (s.gatherLoad).sources = s.sources ∧ (s.gatherLoad).nom = s.nom ∧
    (s.gatherLoad).zones = s.zones ∧ (s.gatherLoad).outIndex = s.outIndex ∧ (s.gatherLoad).outSlots = s.outSlots ∧
    (s.gatherLoad).fillsTaken = s.fillsTaken ∧ (s.gatherLoad).routes = s.routes ∧ (s.gatherLoad).unserved =
    s.unserved ∧ (s.gatherLoad).admitted = s.admitted ∧ (s.gatherLoad).rebuild = s.rebuild ∧ (s.gatherLoad).scenes =
    s.scenes ∧ (s.gatherLoad).survey = s.survey ∧ (s.gatherLoad).live = s.live ∧ (s.gatherLoad).adoption =
    s.adoption ∧ (s.gatherLoad).takeList = s.takeList ∧ (s.gatherLoad).sweepPos = s.sweepPos ∧ (s.gatherLoad).hold =
    s.hold := by
  unfold State.gatherLoad
  simp

@[simp] theorem State.captureFor_frame (s : State) (b : MeterBuffer) :
    (s.captureFor b).pending = s.pending ∧ (s.captureFor b).block = s.block ∧ (s.captureFor b).marks = s.marks ∧
    (s.captureFor b).port = s.port ∧ (s.captureFor b).linkA = s.linkA ∧ (s.captureFor b).linkB = s.linkB ∧
    (s.captureFor b).sources = s.sources ∧ (s.captureFor b).nom = s.nom ∧ (s.captureFor b).zones = s.zones ∧
    (s.captureFor b).outIndex = s.outIndex ∧ (s.captureFor b).outSlots = s.outSlots ∧ (s.captureFor b).fillsTaken =
    s.fillsTaken ∧ (s.captureFor b).routes = s.routes ∧ (s.captureFor b).unserved = s.unserved ∧ (s.captureFor
    b).admitted = s.admitted ∧ (s.captureFor b).rebuild = s.rebuild ∧ (s.captureFor b).scenes = s.scenes ∧
    (s.captureFor b).survey = s.survey ∧ (s.captureFor b).live = s.live ∧ (s.captureFor b).adoption = s.adoption ∧
    (s.captureFor b).takeList = s.takeList ∧ (s.captureFor b).sweepPos = s.sweepPos ∧ (s.captureFor b).hold = s.hold := by
  unfold State.captureFor
  simp

@[simp] theorem State.skipSnapshot_frame (s : State) :
    (s.skipSnapshot).pending = s.pending ∧ (s.skipSnapshot).block = s.block ∧ (s.skipSnapshot).marks = s.marks ∧
    (s.skipSnapshot).mem = s.mem ∧ (s.skipSnapshot).port = s.port ∧ (s.skipSnapshot).linkA = s.linkA ∧
    (s.skipSnapshot).linkB = s.linkB ∧ (s.skipSnapshot).sources = s.sources ∧ (s.skipSnapshot).nom = s.nom ∧
    (s.skipSnapshot).zones = s.zones ∧ (s.skipSnapshot).outIndex = s.outIndex ∧ (s.skipSnapshot).outSlots =
    s.outSlots ∧ (s.skipSnapshot).fillsTaken = s.fillsTaken ∧ (s.skipSnapshot).routes = s.routes ∧
    (s.skipSnapshot).unserved = s.unserved ∧ (s.skipSnapshot).admitted = s.admitted ∧ (s.skipSnapshot).rebuild =
    s.rebuild ∧ (s.skipSnapshot).scenes = s.scenes ∧ (s.skipSnapshot).survey = s.survey ∧ (s.skipSnapshot).live =
    s.live ∧ (s.skipSnapshot).adoption = s.adoption ∧ (s.skipSnapshot).takeList = s.takeList ∧
    (s.skipSnapshot).sweepPos = s.sweepPos ∧ (s.skipSnapshot).hold = s.hold := by
  unfold State.skipSnapshot
  simp

@[simp] theorem State.takeSnapshot_frame (s : State) :
    (s.takeSnapshot).pending = s.pending ∧ (s.takeSnapshot).block = s.block ∧ (s.takeSnapshot).marks = s.marks ∧
    (s.takeSnapshot).port = s.port ∧ (s.takeSnapshot).linkA = s.linkA ∧ (s.takeSnapshot).linkB = s.linkB ∧
    (s.takeSnapshot).sources = s.sources ∧ (s.takeSnapshot).nom = s.nom ∧ (s.takeSnapshot).zones = s.zones ∧
    (s.takeSnapshot).outIndex = s.outIndex ∧ (s.takeSnapshot).outSlots = s.outSlots ∧ (s.takeSnapshot).fillsTaken =
    s.fillsTaken ∧ (s.takeSnapshot).routes = s.routes ∧ (s.takeSnapshot).unserved = s.unserved ∧
    (s.takeSnapshot).admitted = s.admitted ∧ (s.takeSnapshot).rebuild = s.rebuild ∧ (s.takeSnapshot).scenes =
    s.scenes ∧ (s.takeSnapshot).survey = s.survey ∧ (s.takeSnapshot).live = s.live ∧ (s.takeSnapshot).adoption =
    s.adoption ∧ (s.takeSnapshot).takeList = s.takeList ∧ (s.takeSnapshot).sweepPos = s.sweepPos ∧
    (s.takeSnapshot).hold = s.hold := by
  unfold State.takeSnapshot
  dsimp only
  (repeat' split) <;> simp

@[simp] theorem State.snapshotTime_frame (s : State) :
    (s.snapshotTime).pending = s.pending ∧ (s.snapshotTime).block = s.block ∧ (s.snapshotTime).marks = s.marks ∧
    (s.snapshotTime).port = s.port ∧ (s.snapshotTime).linkA = s.linkA ∧ (s.snapshotTime).linkB = s.linkB ∧
    (s.snapshotTime).sources = s.sources ∧ (s.snapshotTime).nom = s.nom ∧ (s.snapshotTime).zones = s.zones ∧
    (s.snapshotTime).outIndex = s.outIndex ∧ (s.snapshotTime).outSlots = s.outSlots ∧ (s.snapshotTime).fillsTaken =
    s.fillsTaken ∧ (s.snapshotTime).routes = s.routes ∧ (s.snapshotTime).unserved = s.unserved ∧
    (s.snapshotTime).admitted = s.admitted ∧ (s.snapshotTime).rebuild = s.rebuild ∧ (s.snapshotTime).scenes =
    s.scenes ∧ (s.snapshotTime).survey = s.survey ∧ (s.snapshotTime).live = s.live ∧ (s.snapshotTime).adoption =
    s.adoption ∧ (s.snapshotTime).takeList = s.takeList ∧ (s.snapshotTime).sweepPos = s.sweepPos ∧
    (s.snapshotTime).hold = s.hold := by
  unfold State.snapshotTime
  (repeat' split) <;> simp

@[simp] theorem State.writeCapture_frame (s : State) (c : Capture) :
    (s.writeCapture c).pending = s.pending ∧ (s.writeCapture c).block = s.block ∧ (s.writeCapture c).marks = s.marks
    ∧ (s.writeCapture c).linkA = s.linkA ∧ (s.writeCapture c).linkB = s.linkB ∧ (s.writeCapture c).sources =
    s.sources ∧ (s.writeCapture c).nom = s.nom ∧ (s.writeCapture c).zones = s.zones ∧ (s.writeCapture c).outIndex =
    s.outIndex ∧ (s.writeCapture c).outSlots = s.outSlots ∧ (s.writeCapture c).fillsTaken = s.fillsTaken ∧
    (s.writeCapture c).routes = s.routes ∧ (s.writeCapture c).unserved = s.unserved ∧ (s.writeCapture c).admitted =
    s.admitted ∧ (s.writeCapture c).rebuild = s.rebuild ∧ (s.writeCapture c).scenes = s.scenes ∧ (s.writeCapture
    c).survey = s.survey ∧ (s.writeCapture c).live = s.live ∧ (s.writeCapture c).adoption = s.adoption ∧
    (s.writeCapture c).takeList = s.takeList ∧ (s.writeCapture c).sweepPos = s.sweepPos ∧ (s.writeCapture c).hold =
    s.hold := by
  unfold State.writeCapture
  simp

@[simp] theorem State.snapshotWrite_frame (s : State) :
    (s.snapshotWrite).pending = s.pending ∧ (s.snapshotWrite).block = s.block ∧ (s.snapshotWrite).marks = s.marks ∧
    (s.snapshotWrite).linkA = s.linkA ∧ (s.snapshotWrite).linkB = s.linkB ∧ (s.snapshotWrite).sources = s.sources ∧
    (s.snapshotWrite).nom = s.nom ∧ (s.snapshotWrite).zones = s.zones ∧ (s.snapshotWrite).outIndex = s.outIndex ∧
    (s.snapshotWrite).outSlots = s.outSlots ∧ (s.snapshotWrite).fillsTaken = s.fillsTaken ∧ (s.snapshotWrite).routes
    = s.routes ∧ (s.snapshotWrite).unserved = s.unserved ∧ (s.snapshotWrite).admitted = s.admitted ∧
    (s.snapshotWrite).rebuild = s.rebuild ∧ (s.snapshotWrite).scenes = s.scenes ∧ (s.snapshotWrite).survey =
    s.survey ∧ (s.snapshotWrite).live = s.live ∧ (s.snapshotWrite).adoption = s.adoption ∧
    (s.snapshotWrite).takeList = s.takeList ∧ (s.snapshotWrite).sweepPos = s.sweepPos ∧ (s.snapshotWrite).hold =
    s.hold := by
  unfold State.snapshotWrite
  (repeat' split) <;> simp

@[simp] theorem State.meterStep_frame (s : State) :
    (s.meterStep).pending = s.pending ∧ (s.meterStep).block = s.block ∧ (s.meterStep).marks = s.marks ∧
    (s.meterStep).linkA = s.linkA ∧ (s.meterStep).linkB = s.linkB ∧ (s.meterStep).sources = s.sources ∧
    (s.meterStep).nom = s.nom ∧ (s.meterStep).zones = s.zones ∧ (s.meterStep).outIndex = s.outIndex ∧
    (s.meterStep).outSlots = s.outSlots ∧ (s.meterStep).fillsTaken = s.fillsTaken ∧ (s.meterStep).routes = s.routes
    ∧ (s.meterStep).unserved = s.unserved ∧ (s.meterStep).admitted = s.admitted ∧ (s.meterStep).rebuild = s.rebuild
    ∧ (s.meterStep).scenes = s.scenes ∧ (s.meterStep).survey = s.survey ∧ (s.meterStep).live = s.live ∧
    (s.meterStep).adoption = s.adoption ∧ (s.meterStep).takeList = s.takeList ∧ (s.meterStep).sweepPos = s.sweepPos
    ∧ (s.meterStep).hold = s.hold := by
  unfold State.meterStep
  simp

/-! ### ExchangePort -/

@[simp] theorem State.drop_frame (s : State) (a : Addr) :
    (s.drop a).pending = s.pending ∧ (s.drop a).block = s.block ∧ (s.drop a).marks = s.marks ∧ (s.drop a).mem =
    s.mem ∧ (s.drop a).linkA = s.linkA ∧ (s.drop a).linkB = s.linkB ∧ (s.drop a).sources = s.sources ∧ (s.drop
    a).nom = s.nom ∧ (s.drop a).zones = s.zones ∧ (s.drop a).outIndex = s.outIndex ∧ (s.drop a).outSlots =
    s.outSlots ∧ (s.drop a).fillsTaken = s.fillsTaken ∧ (s.drop a).routes = s.routes ∧ (s.drop a).unserved =
    s.unserved ∧ (s.drop a).admitted = s.admitted ∧ (s.drop a).rebuild = s.rebuild ∧ (s.drop a).scenes = s.scenes ∧
    (s.drop a).survey = s.survey ∧ (s.drop a).live = s.live ∧ (s.drop a).adoption = s.adoption ∧ (s.drop a).takeList
    = s.takeList ∧ (s.drop a).sweepPos = s.sweepPos ∧ (s.drop a).hold = s.hold ∧ (s.drop a).meter = s.meter := by
  unfold State.drop
  (repeat' split) <;> simp

@[simp] theorem State.accept_frame (s : State) (a : Addr) (v : Word) :
    (s.accept a v).pending = s.pending ∧ (s.accept a v).block = s.block ∧ (s.accept a v).marks = s.marks ∧ (s.accept
    a v).port = s.port ∧ (s.accept a v).linkA = s.linkA ∧ (s.accept a v).linkB = s.linkB ∧ (s.accept a v).sources =
    s.sources ∧ (s.accept a v).nom = s.nom ∧ (s.accept a v).zones = s.zones ∧ (s.accept a v).outIndex = s.outIndex ∧
    (s.accept a v).outSlots = s.outSlots ∧ (s.accept a v).fillsTaken = s.fillsTaken ∧ (s.accept a v).routes =
    s.routes ∧ (s.accept a v).unserved = s.unserved ∧ (s.accept a v).admitted = s.admitted ∧ (s.accept a v).rebuild
    = s.rebuild ∧ (s.accept a v).scenes = s.scenes ∧ (s.accept a v).survey = s.survey ∧ (s.accept a v).live = s.live
    ∧ (s.accept a v).adoption = s.adoption ∧ (s.accept a v).takeList = s.takeList ∧ (s.accept a v).sweepPos =
    s.sweepPos ∧ (s.accept a v).hold = s.hold ∧ (s.accept a v).meter = s.meter := by
  unfold State.accept
  simp

@[simp] theorem State.writeCall_frame (s : State) (v : Word) :
    (s.writeCall v).pending = s.pending ∧ (s.writeCall v).block = s.block ∧ (s.writeCall v).marks = s.marks ∧
    (s.writeCall v).mem = s.mem ∧ (s.writeCall v).linkA = s.linkA ∧ (s.writeCall v).linkB = s.linkB ∧ (s.writeCall
    v).sources = s.sources ∧ (s.writeCall v).nom = s.nom ∧ (s.writeCall v).zones = s.zones ∧ (s.writeCall
    v).outIndex = s.outIndex ∧ (s.writeCall v).outSlots = s.outSlots ∧ (s.writeCall v).fillsTaken = s.fillsTaken ∧
    (s.writeCall v).routes = s.routes ∧ (s.writeCall v).unserved = s.unserved ∧ (s.writeCall v).admitted =
    s.admitted ∧ (s.writeCall v).rebuild = s.rebuild ∧ (s.writeCall v).scenes = s.scenes ∧ (s.writeCall v).survey =
    s.survey ∧ (s.writeCall v).live = s.live ∧ (s.writeCall v).adoption = s.adoption ∧ (s.writeCall v).takeList =
    s.takeList ∧ (s.writeCall v).sweepPos = s.sweepPos ∧ (s.writeCall v).hold = s.hold ∧ (s.writeCall v).meter =
    s.meter := by
  unfold State.writeCall
  (repeat' split) <;> simp

@[simp] theorem State.portInit_frame (s : State) :
    (s.portInit).pending = s.pending ∧ (s.portInit).block = s.block ∧ (s.portInit).marks = s.marks ∧
    (s.portInit).mem = s.mem ∧ (s.portInit).linkA = s.linkA ∧ (s.portInit).linkB = s.linkB ∧ (s.portInit).sources =
    s.sources ∧ (s.portInit).nom = s.nom ∧ (s.portInit).zones = s.zones ∧ (s.portInit).outIndex = s.outIndex ∧
    (s.portInit).outSlots = s.outSlots ∧ (s.portInit).fillsTaken = s.fillsTaken ∧ (s.portInit).routes = s.routes ∧
    (s.portInit).unserved = s.unserved ∧ (s.portInit).admitted = s.admitted ∧ (s.portInit).rebuild = s.rebuild ∧
    (s.portInit).scenes = s.scenes ∧ (s.portInit).live = s.live ∧ (s.portInit).sweepPos = s.sweepPos ∧
    (s.portInit).hold = s.hold ∧ (s.portInit).meter = s.meter := by
  unfold State.portInit
  simp

@[simp] theorem State.writeControl_frame (s : State) (v : Word) :
    (s.writeControl v).pending = s.pending ∧ (s.writeControl v).block = s.block ∧ (s.writeControl v).marks = s.marks
    ∧ (s.writeControl v).mem = s.mem ∧ (s.writeControl v).linkA = s.linkA ∧ (s.writeControl v).linkB = s.linkB ∧
    (s.writeControl v).sources = s.sources ∧ (s.writeControl v).nom = s.nom ∧ (s.writeControl v).zones = s.zones ∧
    (s.writeControl v).outIndex = s.outIndex ∧ (s.writeControl v).outSlots = s.outSlots ∧ (s.writeControl
    v).fillsTaken = s.fillsTaken ∧ (s.writeControl v).routes = s.routes ∧ (s.writeControl v).unserved = s.unserved ∧
    (s.writeControl v).admitted = s.admitted ∧ (s.writeControl v).rebuild = s.rebuild ∧ (s.writeControl v).scenes =
    s.scenes ∧ (s.writeControl v).live = s.live ∧ (s.writeControl v).sweepPos = s.sweepPos ∧ (s.writeControl v).hold
    = s.hold ∧ (s.writeControl v).meter = s.meter := by
  unfold State.writeControl
  (repeat' split) <;> simp

@[simp] theorem State.writeNotice_frame (s : State) (v : Word) :
    (s.writeNotice v).pending = s.pending ∧ (s.writeNotice v).block = s.block ∧ (s.writeNotice v).marks = s.marks ∧
    (s.writeNotice v).mem = s.mem ∧ (s.writeNotice v).linkA = s.linkA ∧ (s.writeNotice v).linkB = s.linkB ∧
    (s.writeNotice v).sources = s.sources ∧ (s.writeNotice v).nom = s.nom ∧ (s.writeNotice v).zones = s.zones ∧
    (s.writeNotice v).outIndex = s.outIndex ∧ (s.writeNotice v).outSlots = s.outSlots ∧ (s.writeNotice v).fillsTaken
    = s.fillsTaken ∧ (s.writeNotice v).routes = s.routes ∧ (s.writeNotice v).unserved = s.unserved ∧ (s.writeNotice
    v).admitted = s.admitted ∧ (s.writeNotice v).rebuild = s.rebuild ∧ (s.writeNotice v).scenes = s.scenes ∧
    (s.writeNotice v).survey = s.survey ∧ (s.writeNotice v).live = s.live ∧ (s.writeNotice v).adoption = s.adoption
    ∧ (s.writeNotice v).takeList = s.takeList ∧ (s.writeNotice v).sweepPos = s.sweepPos ∧ (s.writeNotice v).hold =
    s.hold ∧ (s.writeNotice v).meter = s.meter := by
  unfold State.writeNotice
  simp

@[simp] theorem State.writeMask_frame (s : State) (v : Word) :
    (s.writeMask v).pending = s.pending ∧ (s.writeMask v).block = s.block ∧ (s.writeMask v).marks = s.marks ∧
    (s.writeMask v).mem = s.mem ∧ (s.writeMask v).linkA = s.linkA ∧ (s.writeMask v).linkB = s.linkB ∧ (s.writeMask
    v).sources = s.sources ∧ (s.writeMask v).nom = s.nom ∧ (s.writeMask v).zones = s.zones ∧ (s.writeMask
    v).outIndex = s.outIndex ∧ (s.writeMask v).outSlots = s.outSlots ∧ (s.writeMask v).fillsTaken = s.fillsTaken ∧
    (s.writeMask v).routes = s.routes ∧ (s.writeMask v).unserved = s.unserved ∧ (s.writeMask v).admitted =
    s.admitted ∧ (s.writeMask v).rebuild = s.rebuild ∧ (s.writeMask v).scenes = s.scenes ∧ (s.writeMask v).survey =
    s.survey ∧ (s.writeMask v).live = s.live ∧ (s.writeMask v).adoption = s.adoption ∧ (s.writeMask v).takeList =
    s.takeList ∧ (s.writeMask v).sweepPos = s.sweepPos ∧ (s.writeMask v).hold = s.hold ∧ (s.writeMask v).meter =
    s.meter := by
  unfold State.writeMask
  simp

@[simp] theorem State.writeRegister_frame (s : State) (n : Nat) (a : Addr) (v : Word) :
    (s.writeRegister n a v).pending = s.pending ∧ (s.writeRegister n a v).block = s.block ∧ (s.writeRegister n a
    v).marks = s.marks ∧ (s.writeRegister n a v).mem = s.mem ∧ (s.writeRegister n a v).linkA = s.linkA ∧
    (s.writeRegister n a v).linkB = s.linkB ∧ (s.writeRegister n a v).sources = s.sources ∧ (s.writeRegister n a
    v).nom = s.nom ∧ (s.writeRegister n a v).zones = s.zones ∧ (s.writeRegister n a v).outIndex = s.outIndex ∧
    (s.writeRegister n a v).outSlots = s.outSlots ∧ (s.writeRegister n a v).fillsTaken = s.fillsTaken ∧
    (s.writeRegister n a v).routes = s.routes ∧ (s.writeRegister n a v).unserved = s.unserved ∧ (s.writeRegister n a
    v).admitted = s.admitted ∧ (s.writeRegister n a v).rebuild = s.rebuild ∧ (s.writeRegister n a v).scenes =
    s.scenes ∧ (s.writeRegister n a v).live = s.live ∧ (s.writeRegister n a v).sweepPos = s.sweepPos ∧
    (s.writeRegister n a v).hold = s.hold ∧ (s.writeRegister n a v).meter = s.meter := by
  unfold State.writeRegister
  (repeat' split) <;> simp

@[simp] theorem State.writeSlot_frame (s : State) (k : Fin 32) (w : Nat) (a : Addr) (v : Word) :
    (s.writeSlot k w a v).pending = s.pending ∧ (s.writeSlot k w a v).block = s.block ∧ (s.writeSlot k w a v).marks
    = s.marks ∧ (s.writeSlot k w a v).linkA = s.linkA ∧ (s.writeSlot k w a v).linkB = s.linkB ∧ (s.writeSlot k w a
    v).sources = s.sources ∧ (s.writeSlot k w a v).nom = s.nom ∧ (s.writeSlot k w a v).zones = s.zones ∧
    (s.writeSlot k w a v).outIndex = s.outIndex ∧ (s.writeSlot k w a v).outSlots = s.outSlots ∧ (s.writeSlot k w a
    v).fillsTaken = s.fillsTaken ∧ (s.writeSlot k w a v).routes = s.routes ∧ (s.writeSlot k w a v).unserved =
    s.unserved ∧ (s.writeSlot k w a v).admitted = s.admitted ∧ (s.writeSlot k w a v).rebuild = s.rebuild ∧
    (s.writeSlot k w a v).scenes = s.scenes ∧ (s.writeSlot k w a v).survey = s.survey ∧ (s.writeSlot k w a v).live =
    s.live ∧ (s.writeSlot k w a v).adoption = s.adoption ∧ (s.writeSlot k w a v).takeList = s.takeList ∧
    (s.writeSlot k w a v).sweepPos = s.sweepPos ∧ (s.writeSlot k w a v).hold = s.hold ∧ (s.writeSlot k w a v).meter
    = s.meter := by
  unfold State.writeSlot
  dsimp only
  (repeat' split) <;> simp

@[simp] theorem State.presentWrite_frame (s : State) (a : Addr) (v : Word) :
    (s.presentWrite a v).pending = s.pending ∧ (s.presentWrite a v).block = s.block ∧ (s.presentWrite a v).marks =
    s.marks ∧ (s.presentWrite a v).linkA = s.linkA ∧ (s.presentWrite a v).linkB = s.linkB ∧ (s.presentWrite a
    v).sources = s.sources ∧ (s.presentWrite a v).nom = s.nom ∧ (s.presentWrite a v).zones = s.zones ∧
    (s.presentWrite a v).outIndex = s.outIndex ∧ (s.presentWrite a v).outSlots = s.outSlots ∧ (s.presentWrite a
    v).fillsTaken = s.fillsTaken ∧ (s.presentWrite a v).routes = s.routes ∧ (s.presentWrite a v).unserved =
    s.unserved ∧ (s.presentWrite a v).admitted = s.admitted ∧ (s.presentWrite a v).rebuild = s.rebuild ∧
    (s.presentWrite a v).scenes = s.scenes ∧ (s.presentWrite a v).live = s.live ∧ (s.presentWrite a v).sweepPos =
    s.sweepPos ∧ (s.presentWrite a v).hold = s.hold ∧ (s.presentWrite a v).meter = s.meter := by
  unfold State.presentWrite
  (repeat' split) <;> simp

@[simp] theorem State.stageByte_frame (s : State) (a : Addr) (l : Lane) (b : Byte) :
    (s.stageByte a l b).pending = s.pending ∧ (s.stageByte a l b).block = s.block ∧ (s.stageByte a l b).marks =
    s.marks ∧ (s.stageByte a l b).linkA = s.linkA ∧ (s.stageByte a l b).linkB = s.linkB ∧ (s.stageByte a l
    b).sources = s.sources ∧ (s.stageByte a l b).nom = s.nom ∧ (s.stageByte a l b).zones = s.zones ∧ (s.stageByte a
    l b).outIndex = s.outIndex ∧ (s.stageByte a l b).outSlots = s.outSlots ∧ (s.stageByte a l b).fillsTaken =
    s.fillsTaken ∧ (s.stageByte a l b).routes = s.routes ∧ (s.stageByte a l b).unserved = s.unserved ∧ (s.stageByte
    a l b).admitted = s.admitted ∧ (s.stageByte a l b).rebuild = s.rebuild ∧ (s.stageByte a l b).scenes = s.scenes ∧
    (s.stageByte a l b).live = s.live ∧ (s.stageByte a l b).sweepPos = s.sweepPos ∧ (s.stageByte a l b).hold =
    s.hold ∧ (s.stageByte a l b).meter = s.meter := by
  unfold State.stageByte
  (repeat' split) <;> simp

@[simp] theorem State.hostWrite_frame (s : State) (a : Addr) (v : Word) :
    (s.hostWrite a v).pending = s.pending ∧ (s.hostWrite a v).block = s.block ∧ (s.hostWrite a v).marks = s.marks ∧
    (s.hostWrite a v).linkA = s.linkA ∧ (s.hostWrite a v).linkB = s.linkB ∧ (s.hostWrite a v).sources = s.sources ∧
    (s.hostWrite a v).nom = s.nom ∧ (s.hostWrite a v).zones = s.zones ∧ (s.hostWrite a v).outIndex = s.outIndex ∧
    (s.hostWrite a v).outSlots = s.outSlots ∧ (s.hostWrite a v).fillsTaken = s.fillsTaken ∧ (s.hostWrite a v).routes
    = s.routes ∧ (s.hostWrite a v).unserved = s.unserved ∧ (s.hostWrite a v).admitted = s.admitted ∧ (s.hostWrite a
    v).rebuild = s.rebuild ∧ (s.hostWrite a v).scenes = s.scenes ∧ (s.hostWrite a v).live = s.live ∧ (s.hostWrite a
    v).sweepPos = s.sweepPos ∧ (s.hostWrite a v).hold = s.hold ∧ (s.hostWrite a v).meter = s.meter := by
  unfold State.hostWrite
  (repeat' split) <;> simp

@[simp] theorem State.latchByte_frame (s : State) (a : Addr) (l : Lane) :
    (s.latchByte a l).pending = s.pending ∧ (s.latchByte a l).block = s.block ∧ (s.latchByte a l).marks = s.marks ∧
    (s.latchByte a l).mem = s.mem ∧ (s.latchByte a l).linkA = s.linkA ∧ (s.latchByte a l).linkB = s.linkB ∧
    (s.latchByte a l).sources = s.sources ∧ (s.latchByte a l).nom = s.nom ∧ (s.latchByte a l).zones = s.zones ∧
    (s.latchByte a l).outIndex = s.outIndex ∧ (s.latchByte a l).outSlots = s.outSlots ∧ (s.latchByte a l).fillsTaken
    = s.fillsTaken ∧ (s.latchByte a l).routes = s.routes ∧ (s.latchByte a l).unserved = s.unserved ∧ (s.latchByte a
    l).admitted = s.admitted ∧ (s.latchByte a l).rebuild = s.rebuild ∧ (s.latchByte a l).scenes = s.scenes ∧
    (s.latchByte a l).survey = s.survey ∧ (s.latchByte a l).live = s.live ∧ (s.latchByte a l).adoption = s.adoption
    ∧ (s.latchByte a l).takeList = s.takeList ∧ (s.latchByte a l).sweepPos = s.sweepPos ∧ (s.latchByte a l).hold =
    s.hold ∧ (s.latchByte a l).meter = s.meter := by
  unfold State.latchByte
  (repeat' split) <;> simp

/-! ### BlockStart -/

@[simp] theorem State.applyItem_frame (s : State) (item : CueItem) :
    (s.applyItem item).pending = s.pending ∧ (s.applyItem item).block = s.block ∧ (s.applyItem item).linkA = s.linkA
    ∧ (s.applyItem item).linkB = s.linkB ∧ (s.applyItem item).nom = s.nom ∧ (s.applyItem item).outIndex = s.outIndex
    ∧ (s.applyItem item).outSlots = s.outSlots ∧ (s.applyItem item).fillsTaken = s.fillsTaken ∧ (s.applyItem
    item).unserved = s.unserved ∧ (s.applyItem item).admitted = s.admitted ∧ (s.applyItem item).live = s.live ∧
    (s.applyItem item).takeList = s.takeList ∧ (s.applyItem item).sweepPos = s.sweepPos ∧ (s.applyItem item).hold =
    s.hold ∧ (s.applyItem item).meter = s.meter := by
  unfold State.applyItem
  (repeat' split) <;> simp

@[simp] theorem State.endBlock_frame (s : State) :
    (s.endBlock).pending = s.pending ∧ (s.endBlock).block = s.block ∧ (s.endBlock).mem = s.mem ∧ (s.endBlock).linkA
    = s.linkA ∧ (s.endBlock).linkB = s.linkB ∧ (s.endBlock).sources = s.sources ∧ (s.endBlock).nom = s.nom ∧
    (s.endBlock).outIndex = s.outIndex ∧ (s.endBlock).outSlots = s.outSlots ∧ (s.endBlock).fillsTaken = s.fillsTaken
    ∧ (s.endBlock).routes = s.routes ∧ (s.endBlock).unserved = s.unserved ∧ (s.endBlock).admitted = s.admitted ∧
    (s.endBlock).rebuild = s.rebuild ∧ (s.endBlock).scenes = s.scenes ∧ (s.endBlock).live = s.live ∧
    (s.endBlock).takeList = s.takeList ∧ (s.endBlock).sweepPos = s.sweepPos ∧ (s.endBlock).hold = s.hold := by
  unfold State.endBlock
  simp

@[simp] theorem State.nextBlock_frame (s : State) :
    (s.nextBlock).pending = s.pending ∧ (s.nextBlock).marks = s.marks ∧ (s.nextBlock).mem = s.mem ∧
    (s.nextBlock).port = s.port ∧ (s.nextBlock).linkA = s.linkA ∧ (s.nextBlock).linkB = s.linkB ∧
    (s.nextBlock).sources = s.sources ∧ (s.nextBlock).nom = s.nom ∧ (s.nextBlock).zones = s.zones ∧
    (s.nextBlock).outSlots = s.outSlots ∧ (s.nextBlock).fillsTaken = s.fillsTaken ∧ (s.nextBlock).routes = s.routes
    ∧ (s.nextBlock).unserved = s.unserved ∧ (s.nextBlock).admitted = s.admitted ∧ (s.nextBlock).rebuild = s.rebuild
    ∧ (s.nextBlock).scenes = s.scenes ∧ (s.nextBlock).survey = s.survey ∧ (s.nextBlock).live = s.live ∧
    (s.nextBlock).adoption = s.adoption ∧ (s.nextBlock).takeList = s.takeList ∧ (s.nextBlock).sweepPos = s.sweepPos
    ∧ (s.nextBlock).hold = s.hold ∧ (s.nextBlock).meter = s.meter := by
  unfold State.nextBlock
  simp

@[simp] theorem State.openBlock_frame (s : State) :
    (s.openBlock).pending = s.pending ∧ (s.openBlock).block = s.block ∧ (s.openBlock).marks = s.marks ∧
    (s.openBlock).mem = s.mem ∧ (s.openBlock).port = s.port ∧ (s.openBlock).sources = s.sources ∧ (s.openBlock).nom
    = s.nom ∧ (s.openBlock).zones = s.zones ∧ (s.openBlock).outIndex = s.outIndex ∧ (s.openBlock).outSlots =
    s.outSlots ∧ (s.openBlock).fillsTaken = s.fillsTaken ∧ (s.openBlock).routes = s.routes ∧ (s.openBlock).unserved
    = s.unserved ∧ (s.openBlock).admitted = s.admitted ∧ (s.openBlock).rebuild = s.rebuild ∧ (s.openBlock).scenes =
    s.scenes ∧ (s.openBlock).survey = s.survey ∧ (s.openBlock).live = s.live ∧ (s.openBlock).adoption = s.adoption ∧
    (s.openBlock).takeList = s.takeList ∧ (s.openBlock).meter = s.meter := by
  unfold State.openBlock
  simp

@[simp] theorem State.bankOutcome_frame (s : State) :
    (s.bankOutcome).pending = s.pending ∧ (s.bankOutcome).block = s.block ∧ (s.bankOutcome).linkA = s.linkA ∧
    (s.bankOutcome).linkB = s.linkB ∧ (s.bankOutcome).nom = s.nom ∧ (s.bankOutcome).outIndex = s.outIndex ∧
    (s.bankOutcome).outSlots = s.outSlots ∧ (s.bankOutcome).fillsTaken = s.fillsTaken ∧ (s.bankOutcome).unserved =
    s.unserved ∧ (s.bankOutcome).admitted = s.admitted ∧ (s.bankOutcome).scenes = s.scenes ∧ (s.bankOutcome).survey
    = s.survey ∧ (s.bankOutcome).takeList = s.takeList ∧ (s.bankOutcome).sweepPos = s.sweepPos ∧
    (s.bankOutcome).hold = s.hold ∧ (s.bankOutcome).meter = s.meter := by
  unfold State.bankOutcome
  (repeat' split) <;> simp

@[simp] theorem State.resetBoundary_frame (s : State) (r : BlockRaces) :
    (s.resetBoundary r).pending = s.pending ∧ (s.resetBoundary r).block = s.block ∧ (s.resetBoundary r).linkA =
    s.linkA ∧ (s.resetBoundary r).linkB = s.linkB ∧ (s.resetBoundary r).nom = s.nom ∧ (s.resetBoundary r).outIndex =
    s.outIndex ∧ (s.resetBoundary r).outSlots = s.outSlots ∧ (s.resetBoundary r).fillsTaken = s.fillsTaken ∧
    (s.resetBoundary r).takeList = s.takeList ∧ (s.resetBoundary r).sweepPos = s.sweepPos ∧ (s.resetBoundary r).hold
    = s.hold ∧ (s.resetBoundary r).meter = s.meter := by
  unfold State.resetBoundary
  (repeat' split) <;> simp

@[simp] theorem State.plainBoundary_frame (s : State) (r : BlockRaces) :
    (s.plainBoundary r).pending = s.pending ∧ (s.plainBoundary r).block = s.block ∧ (s.plainBoundary r).linkA =
    s.linkA ∧ (s.plainBoundary r).linkB = s.linkB ∧ (s.plainBoundary r).nom = s.nom ∧ (s.plainBoundary r).outIndex =
    s.outIndex ∧ (s.plainBoundary r).outSlots = s.outSlots ∧ (s.plainBoundary r).fillsTaken = s.fillsTaken ∧
    (s.plainBoundary r).unserved = s.unserved ∧ (s.plainBoundary r).admitted = s.admitted ∧ (s.plainBoundary
    r).scenes = s.scenes ∧ (s.plainBoundary r).takeList = s.takeList ∧ (s.plainBoundary r).sweepPos = s.sweepPos ∧
    (s.plainBoundary r).hold = s.hold ∧ (s.plainBoundary r).meter = s.meter := by
  unfold State.plainBoundary
  dsimp only
  (repeat' split) <;> simp

@[simp] theorem State.lateCompletion_frame (s : State) :
    (s.lateCompletion).pending = s.pending ∧ (s.lateCompletion).block = s.block ∧ (s.lateCompletion).marks = s.marks
    ∧ (s.lateCompletion).linkA = s.linkA ∧ (s.lateCompletion).linkB = s.linkB ∧ (s.lateCompletion).sources =
    s.sources ∧ (s.lateCompletion).nom = s.nom ∧ (s.lateCompletion).zones = s.zones ∧ (s.lateCompletion).outIndex =
    s.outIndex ∧ (s.lateCompletion).outSlots = s.outSlots ∧ (s.lateCompletion).fillsTaken = s.fillsTaken ∧
    (s.lateCompletion).routes = s.routes ∧ (s.lateCompletion).unserved = s.unserved ∧ (s.lateCompletion).admitted =
    s.admitted ∧ (s.lateCompletion).scenes = s.scenes ∧ (s.lateCompletion).live = s.live ∧
    (s.lateCompletion).adoption = s.adoption ∧ (s.lateCompletion).takeList = s.takeList ∧
    (s.lateCompletion).sweepPos = s.sweepPos ∧ (s.lateCompletion).hold = s.hold ∧ (s.lateCompletion).meter = s.meter := by
  unfold State.lateCompletion
  (repeat' split) <;> simp

@[simp] theorem State.foldl_applyItem_frame (items : List CueItem) (s : State) :
    (items.foldl State.applyItem s).pending = s.pending ∧ (items.foldl State.applyItem s).block = s.block ∧
    (items.foldl State.applyItem s).linkA = s.linkA ∧ (items.foldl State.applyItem s).linkB = s.linkB ∧ (items.foldl
    State.applyItem s).nom = s.nom ∧ (items.foldl State.applyItem s).outIndex = s.outIndex ∧ (items.foldl
    State.applyItem s).outSlots = s.outSlots ∧ (items.foldl State.applyItem s).fillsTaken = s.fillsTaken ∧
    (items.foldl State.applyItem s).unserved = s.unserved ∧ (items.foldl State.applyItem s).admitted = s.admitted ∧
    (items.foldl State.applyItem s).live = s.live ∧ (items.foldl State.applyItem s).takeList = s.takeList ∧
    (items.foldl State.applyItem s).sweepPos = s.sweepPos ∧ (items.foldl State.applyItem s).hold = s.hold ∧
    (items.foldl State.applyItem s).meter = s.meter := by
  induction items generalizing s with
  | nil => simp
  | cons item rest ih => simp [ih (s.applyItem item)]

@[simp] theorem State.applyTaken_frame (s : State) :
    (s.applyTaken).pending = s.pending ∧ (s.applyTaken).block = s.block ∧ (s.applyTaken).linkA = s.linkA ∧
    (s.applyTaken).linkB = s.linkB ∧ (s.applyTaken).nom = s.nom ∧ (s.applyTaken).outIndex = s.outIndex ∧
    (s.applyTaken).outSlots = s.outSlots ∧ (s.applyTaken).fillsTaken = s.fillsTaken ∧ (s.applyTaken).unserved =
    s.unserved ∧ (s.applyTaken).admitted = s.admitted ∧ (s.applyTaken).live = s.live ∧ (s.applyTaken).sweepPos =
    s.sweepPos ∧ (s.applyTaken).hold = s.hold ∧ (s.applyTaken).meter = s.meter := by
  unfold State.applyTaken
  simp

@[simp] theorem State.finishSweep_frame (s : State) :
    (s.finishSweep).pending = s.pending ∧ (s.finishSweep).block = s.block ∧ (s.finishSweep).marks = s.marks ∧
    (s.finishSweep).linkA = s.linkA ∧ (s.finishSweep).linkB = s.linkB ∧ (s.finishSweep).sources = s.sources ∧
    (s.finishSweep).nom = s.nom ∧ (s.finishSweep).zones = s.zones ∧ (s.finishSweep).outIndex = s.outIndex ∧
    (s.finishSweep).outSlots = s.outSlots ∧ (s.finishSweep).fillsTaken = s.fillsTaken ∧ (s.finishSweep).routes =
    s.routes ∧ (s.finishSweep).unserved = s.unserved ∧ (s.finishSweep).admitted = s.admitted ∧
    (s.finishSweep).rebuild = s.rebuild ∧ (s.finishSweep).scenes = s.scenes ∧ (s.finishSweep).survey = s.survey ∧
    (s.finishSweep).live = s.live ∧ (s.finishSweep).adoption = s.adoption ∧ (s.finishSweep).hold = s.hold ∧
    (s.finishSweep).meter = s.meter := by
  unfold State.finishSweep
  simp

@[simp] theorem State.changeMix_frame (s : State) (r : BlockRaces) (f : Fin 16 → ForceMode) :
    (s.changeMix r f).pending = s.pending ∧ (s.changeMix r f).block = s.block ∧ (s.changeMix r f).linkA = s.linkA ∧
    (s.changeMix r f).linkB = s.linkB ∧ (s.changeMix r f).outIndex = s.outIndex ∧ (s.changeMix r f).outSlots =
    s.outSlots ∧ (s.changeMix r f).fillsTaken = s.fillsTaken ∧ (s.changeMix r f).live = s.live ∧ (s.changeMix r
    f).sweepPos = s.sweepPos ∧ (s.changeMix r f).hold = s.hold ∧ (s.changeMix r f).meter = s.meter := by
  unfold State.changeMix
  (repeat' split) <;> simp

end Sys2Proof.Machine
end

