-- ==== Sys2Proof/Laws/Ops.lean ====
section
/-! SUPPORT. One lemma per shared operation over values: searches, clamps, saturation, gains, entries and grants. -/

namespace Sys2Proof.Machine

/-! ### Searches -/

/-- The search answers the greatest value below `acc + 2^bits` that a downward closed test admits. -/
theorem bitSearch_greatest (p : Nat → Bool) (down : ∀ a b, a ≤ b → p b = true → p a = true) :
    ∀ bits acc, p acc = true →
      p (bitSearch p bits acc) = true ∧ acc ≤ bitSearch p bits acc ∧ bitSearch p bits acc < acc + 2 ^ bits
      ∧ ∀ m, m < acc + 2 ^ bits → p m = true → m ≤ bitSearch p bits acc := by
  intro bits
  induction bits with
  | zero =>
    intro acc h
    refine ⟨h, le_refl _, by simp [bitSearch], ?_⟩
    intro m hm _
    simp only [bitSearch]
    omega
  | succ n ih =>
    intro acc h
    have two : 2 ^ (n + 1) = 2 ^ n + 2 ^ n := by ring
    simp only [bitSearch]
    split
    · rename_i hp
      obtain ⟨h1, h2, h3, h4⟩ := ih _ hp
      exact ⟨h1, by omega, by omega, fun m hm hpm => h4 m (by omega) hpm⟩
    · rename_i hp
      obtain ⟨h1, h2, h3, h4⟩ := ih _ h
      refine ⟨h1, h2, by omega, fun m hm hpm => h4 m ?_ hpm⟩
      by_contra hge
      exact hp (down _ _ (by omega) hpm)

/-- Where the test does not admit 0 it admits nothing, and the search from 0 answers 0. -/
theorem bitSearch_none (p : Nat → Bool) (none : ∀ m, p m = false) : ∀ bits acc, bitSearch p bits acc = acc := by
  intro bits
  induction bits with
  | zero => intro acc; rfl
  | succ n ih => intro acc; simp [bitSearch, none, ih]

/-- The whole square root: its square does not exceed the value, and the next square does. -/
theorem floorSqrt_spec (v : Nat) (h : v < 2 ^ 24) : floorSqrt v ^ 2 ≤ v ∧ v < (floorSqrt v + 1) ^ 2 := by
  have down : ∀ a b, a ≤ b → decide (b * b ≤ v) = true → decide (a * a ≤ v) = true := by
    intro a b hab hb
    simp only [decide_eq_true_iff] at *
    exact le_trans (Nat.mul_le_mul hab hab) hb
  obtain ⟨h1, _, h3, h4⟩ := bitSearch_greatest (fun m => m * m ≤ v) down 12 0 (by simp)
  simp only [decide_eq_true_iff] at h1 h4
  unfold floorSqrt
  refine ⟨by nlinarith, ?_⟩
  by_contra hc
  have next : (bitSearch (fun m => decide (m * m ≤ v)) 12 0 + 1) * (bitSearch (fun m => decide (m * m ≤ v)) 12 0 + 1) ≤ v := by
    nlinarith
  by_cases top : bitSearch (fun m => decide (m * m ≤ v)) 12 0 + 1 < 0 + 2 ^ 12
  · have := h4 _ top next
    omega
  · have : 2 ^ 12 ≤ bitSearch (fun m => decide (m * m ≤ v)) 12 0 + 1 := by omega
    have : 2 ^ 12 * 2 ^ 12 ≤ v := le_trans (Nat.mul_le_mul this this) next
    omega

/-- A level lies in -192..0 (R7). -/
theorem levelOf_range (sum samples : Nat) : -192 ≤ levelOf sum samples ∧ levelOf sum samples ≤ 0 := by
  unfold levelOf
  split
  · omega
  · have le : ∀ (q : Nat → Bool) bits acc, acc ≤ 192 → (∀ j, q j = true → j ≤ 192) → bitSearch q bits acc ≤ 192 := by
      intro q bits
      induction bits with
      | zero => intro acc h _; exact h
      | succ n ih =>
        intro acc h hq
        simp only [bitSearch]
        split
        · rename_i hp
          exact ih _ (hq _ hp) hq
        · exact ih _ h hq
    have := le (fun j => j ≤ 192 && (samples * 2 ^ 46) ^ 40 ≤ sum ^ 40 * 10 ^ (385 - 2 * j)) 8 0 (by omega)
      (fun j hj => by simp only [Bool.and_eq_true, decide_eq_true_iff] at hj; exact hj.1)
    omega

/-! ### Clamps and saturation -/

/-- A clamp brings a value to the nearer end of the range. -/
theorem clampInt_eq (lo hi v : Int) (h : lo ≤ hi) : clampInt lo hi v = max lo (min hi v) := by
  unfold clampInt
  split
  · omega
  · split <;> omega

/-- A clamp brings a value to the nearer end of the range. -/
theorem clampNat_eq (lo hi v : Nat) (h : lo ≤ hi) : clampNat lo hi v = max lo (min hi v) := by
  unfold clampNat
  split
  · omega
  · split <;> omega

/-- A 24-bit value of a number in the range of 24 bits reads as that number. -/
theorem toInt_ofInt24 (v : Int) (h1 : -8388608 ≤ v) (h2 : v ≤ 8388607) : (BitVec.ofInt 24 v).toInt = v := by
  rw [BitVec.toInt_ofInt]
  exact Int.bmod_eq_of_le (by norm_num; omega) (by norm_num; omega)

/-- A saturated sum is the sum brought to the nearer end of the 24-bit range (R100). -/
theorem saturate24_toInt (v : Int) : (saturate24 v).toInt = max (-8388608) (min 8388607 v) := by
  unfold saturate24
  rw [clampInt_eq _ _ _ (by norm_num)]
  exact toInt_ofInt24 _ (by omega) (by omega)

/-- A 24-bit word stands in the top 24 bits of its slot, whatever the fill (R160). -/
theorem wideSlot_top (v : Sample) (fill : Word) : (wideSlot v fill).extractLsb' 8 24 = v := by
  apply BitVec.eq_of_getLsbD_eq
  intro i hi
  have high : (v ++ fill.extractLsb' 0 8 : BitVec (24 + 8)).getLsbD (8 + i) = v.getLsbD i := by
    rw [BitVec.getLsbD_append]
    simp
  rw [BitVec.getLsbD_extractLsb', decide_eq_true hi, Bool.true_and]
  exact high

/-- A 16-bit word stands in the top 16 bits of its slot, whatever the fill (R160). -/
theorem narrowSlot_top (w fill : Word) : (narrowSlot w fill).extractLsb' 16 16 = w := by
  apply BitVec.eq_of_getLsbD_eq
  intro i hi
  have high : (w ++ fill : BitVec (16 + 16)).getLsbD (16 + i) = w.getLsbD i := by
    rw [BitVec.getLsbD_append]
    simp
  rw [BitVec.getLsbD_extractLsb', decide_eq_true hi, Bool.true_and]
  exact high

/-- A word of a signed number in the range of 16 bits reads as that number. -/
theorem signedWord_toInt (v : Int) (h1 : -32768 ≤ v) (h2 : v ≤ 32767) : (signedWord v).toInt = v := by
  unfold signedWord
  rw [BitVec.toInt_ofInt]
  exact Int.bmod_eq_of_le (by norm_num; omega) (by norm_num; omega)

/-- A word of a number below 2^16 reads as that number. -/
theorem natWord_toNat (n : Nat) (h : n < 65536) : (natWord n).toNat = n := by
  unfold natWord
  rw [BitVec.toNat_ofNat]
  omega

/-! ### Gains -/

/-- A gain read from a word is OFF or lies in -192..+24 (R168, R134). -/
theorem gainOfWord_range (w : Word) (c : Int) (h : gainOfWord w = .code c) : -192 ≤ c ∧ c ≤ 24 := by
  unfold gainOfWord at h
  split at h
  · cases h
  · split at h
    · cases h; omega
    · cases h; omega

/-- A composed gain is OFF or lies in -192..+24 (R86 to R88). -/
theorem limitSum_range (sum : Int) (coupling : Option Int) (margin : Nat) (c : Int)
    (h : (limitSum sum coupling margin).gain = .code c) : -192 ≤ c ∧ c ≤ 24 := by
  unfold limitSum at h
  split at h
  · cases h
  · cases coupling with
    | none =>
      simp only [Gain.code.injEq] at h
      omega
    | some k =>
      simp only at h
      split at h
      · cases h
      · split at h <;> (simp only [Gain.code.injEq] at h; omega)

/-- A glide step between two gains in -192..+24 stays there (R94). -/
theorem glideStep_range (slope : Nat) (g t : Gain) (hg : ∀ c, g = .code c → -192 ≤ c ∧ c ≤ 24)
    (ht : ∀ c, t = .code c → -192 ≤ c ∧ c ≤ 24) (c : Int) (h : glideStep slope g t = .code c) :
    -192 ≤ c ∧ c ≤ 24 := by
  cases g with
  | off =>
    cases t with
    | off => cases h
    | code t => cases h; omega
  | code g =>
    have hg := hg g rfl
    cases t with
    | off =>
      simp only [glideStep] at h
      split at h
      · cases h
      · simp only [Gain.code.injEq] at h
        omega
    | code t =>
      have ht := ht t rfl
      simp only [glideStep] at h
      split at h <;> (simp only [Gain.code.injEq] at h; omega)

/-! ### Delays and motion -/

/-- A target delay lies in the delay line (R60). -/
theorem clampRaw_range (raw : Int) : (clampRaw raw).delay ≤ 16383 := by
  unfold clampRaw
  split
  · exact Nat.zero_le _
  · split
    · exact le_refl _
    · simp only
      omega

/-- A slip step goes no further than its target (R66). -/
theorem stepTowards_between (delay target : Nat) (h : delay ≠ target) :
    min delay target ≤ stepTowards delay target ∧ stepTowards delay target ≤ max delay target := by
  unfold stepTowards
  split <;> omega

/-- A weight of a fade under way does not exceed 32,768 (R70). -/
theorem fadeWeight_le (unitLength k i : Nat) (hk : k < unitLength) (hi : i < 48) : fadeWeight unitLength k i ≤ 32768 := by
  unfold fadeWeight
  apply Nat.div_le_of_le_mul
  have : 48 * k + i + 1 ≤ 48 * unitLength := by omega
  calc 32768 * (48 * k + i + 1) ≤ 32768 * (48 * unitLength) := Nat.mul_le_mul_left _ this
    _ = 48 * unitLength * 32768 := by ring

/-- A crossfaded sample lies between its two taps (R70). -/
theorem crossfade_between (old new : Int) (w : Nat) (hw : w ≤ 32768) :
    min old new ≤ crossfade old new w ∧ crossfade old new w ≤ max old new := by
  have bound : (w : Int) ≤ 32768 := by exact_mod_cast hw
  unfold crossfade
  constructor
  · rw [Int.le_ediv_iff_mul_le (by norm_num)]
    rcases le_total old new with h | h
    · rw [min_eq_left h]
      nlinarith
    · rw [min_eq_right h]
      nlinarith
  · rw [← Int.lt_add_one_iff, Int.ediv_lt_iff_lt_mul (by norm_num)]
    rcases le_total old new with h | h
    · rw [max_eq_right h]
      nlinarith
    · rw [max_eq_left h]
      nlinarith

/-- A block of taps inside the line has 48 samples (R4). -/
theorem tapBlock_length (line : List Sample) (delay : Nat) (hl : line.length = 16384 + 95) (hd : delay ≤ 16383) :
    (tapBlock line delay).length = 48 := by
  simp only [tapBlock, List.length_reverse, List.length_take, List.length_drop, Config.blockLength]
  omega

/-! ### Entries -/

/-- The entries of a list with one inserted are that one and the list's. -/
theorem mem_insertEntry (e x : Entry) (l : List Entry) : x ∈ insertEntry e l ↔ x = e ∨ x ∈ l := by
  induction l with
  | nil => simp [insertEntry]
  | cons a l ih =>
    unfold insertEntry
    split
    · simp
    · simp only [List.mem_cons, ih]
      tauto

/-- A list with one entry inserted is one longer. -/
theorem insertEntry_length (e : Entry) (l : List Entry) : (insertEntry e l).length = l.length + 1 := by
  induction l with
  | nil => rfl
  | cons a l ih =>
    unfold insertEntry
    split
    · rfl
    · simp [ih]

/-- An entry of a new pair inserted into a list in pair order leaves it in pair order (R38). -/
theorem insertEntry_ordered (e : Entry) (l : List Entry) (h : l.Pairwise (fun x y => pairRank x.pair < pairRank y.pair))
    (new : ∀ x ∈ l, pairRank x.pair ≠ pairRank e.pair) :
    (insertEntry e l).Pairwise (fun x y => pairRank x.pair < pairRank y.pair) := by
  induction l with
  | nil => simp [insertEntry]
  | cons a l ih =>
    rw [List.pairwise_cons] at h
    unfold insertEntry
    split
    · rename_i hlt
      rw [List.pairwise_cons]
      refine ⟨fun x hx => ?_, List.pairwise_cons.2 h⟩
      rcases List.mem_cons.1 hx with rfl | hx
      · exact hlt
      · exact lt_trans hlt (h.1 x hx)
    · rename_i hge
      rw [List.pairwise_cons]
      refine ⟨fun x hx => ?_, ih h.2 (fun x hx => new x (List.mem_cons_of_mem _ hx))⟩
      rcases (mem_insertEntry e x l).1 hx with rfl | hx
      · have := new a (List.mem_cons_self ..)
        omega
      · exact h.1 x hx

/-- Places in pair order tell pairs apart (R38). -/
theorem pairRank_injective (p q : Pair) (h : pairRank p = pairRank q) : p = q := by
  obtain ⟨i, z⟩ := p
  obtain ⟨j, w⟩ := q
  unfold pairRank at h
  simp only at h
  have : i = j := Fin.ext (by omega)
  have : z = w := Fin.ext (by omega)
  subst_vars
  rfl

/-! ### Grants (R75) -/

/-- Grants change motions alone, and no more of them than there are free units. -/
theorem grantUnits_held (fadeLength : Nat) : ∀ (l : List Entry) (free : Nat),
    heldUnits (grantUnits fadeLength free l) ≤ heldUnits l + free := by
  intro l
  induction l with
  | nil => intro free; simp [grantUnits, heldUnits]
  | cons a l ih =>
    intro free
    cases free with
    | zero => simp [grantUnits]
    | succ n =>
      simp only [grantUnits]
      split
      · rename_i waits
        have below := ih n
        have rest : a.motion.isFading = false := by rw [waits]; rfl
        have held : (a.grant fadeLength).motion.isFading = true := rfl
        simp only [heldUnits, List.filter_cons, rest, held, if_true, Bool.false_eq_true, if_false,
          List.length_cons] at *
        omega
      · have below := ih (n + 1)
        simp only [heldUnits, List.filter_cons] at *
        split
        · simp only [List.length_cons]
          omega
        · exact below

/-- Grants keep the list's length. -/
theorem grantUnits_length (fadeLength : Nat) : ∀ (l : List Entry) (free : Nat),
    (grantUnits fadeLength free l).length = l.length := by
  intro l
  induction l with
  | nil => intro free; simp [grantUnits]
  | cons a l ih =>
    intro free
    cases free with
    | zero => rfl
    | succ n =>
      simp only [grantUnits]
      split <;> simp [ih]

end Sys2Proof.Machine
end

