-- ==== Sys2Proof/Laws/Members.lean ====
section
/-! SUPPORT. How a property of every source, every zone or every entry passes through the operations that change them all. -/

namespace Sys2Proof.Machine

/-! ### Lookups -/

/-- A source that stands in the list is read by its number. -/
theorem State.source_mem (s : State) (h : s.sources.length = 16) (i : Fin 16) : s.source i ∈ s.sources := by
  have inside : i.val < s.sources.length := by rw [h]; exact i.isLt
  unfold State.source
  rw [List.getD_eq_getElem _ _ inside]
  exact List.getElem_mem _

/-- A zone that stands in the list is read by its number. -/
theorem State.zone_mem (s : State) (h : s.zones.length = 24) (z : Fin 24) : s.zone z ∈ s.zones := by
  have inside : z.val < s.zones.length := by rw [h]; exact z.isLt
  unfold State.zone
  rw [List.getD_eq_getElem _ _ inside]
  exact List.getElem_mem _

/-- Every source after a change of all is the change of the source before. -/
theorem State.source_mapSources (s : State) (f : Fin 16 → Source → Source) (i : Fin 16) :
    (s.mapSources f).source i = f i (s.source i) := by
  have inside : i.val < (allSources.map (fun j => f j (s.source j))).length := by
    simp [allSources]
  show (allSources.map (fun j => f j (s.source j))).getD i.val Source.reset = _
  rw [List.getD_eq_getElem _ _ inside]
  simp [allSources]

/-- Every zone after a change of all is the change of the zone before. -/
theorem State.zone_mapZones (s : State) (f : Fin 24 → Zone → Zone) (z : Fin 24) :
    (s.mapZones f).zone z = f z (s.zone z) := by
  have inside : z.val < (allZones.map (fun j => f j (s.zone j))).length := by
    simp [allZones]
  show (allZones.map (fun j => f j (s.zone j))).getD z.val Zone.reset = _
  rw [List.getD_eq_getElem _ _ inside]
  simp [allZones]

/-- A change of all sources leaves sixteen. -/
theorem State.mapSources_length (s : State) (f : Fin 16 → Source → Source) : (s.mapSources f).sources.length = 16 := by
  simp [State.mapSources, allSources]

/-- A change of all zones leaves twenty-four. -/
theorem State.mapZones_length (s : State) (f : Fin 24 → Zone → Zone) : (s.mapZones f).zones.length = 24 := by
  simp [State.mapZones, allZones]

/-! ### Force-mode changes -/

/-- What a force-mode change leaves of a source, and what it makes of the gate and the hold counter (R17). -/
theorem Source.followForce_spec (x : Source) (before : ForceMode) :
    (x.followForce before).mix = x.mix ∧ (x.followForce before).pos = x.pos ∧ (x.followForce before).line = x.line
    ∧ (x.followForce before).floor = x.floor ∧ (x.followForce before).rise = x.rise
    ∧ (x.followForce before).gate = (if x.mix.force = before then x.gate else forcedGate x.mix.force x.gate)
    ∧ (x.followForce before).holdCount
      = (if x.mix.force = before ∨ forcedGate x.mix.force x.gate = .hold then x.holdCount else 0) := by
  unfold Source.followForce
  by_cases h : x.mix.force = before <;> simp [h]

/-- A source after the force-mode changes of a block start (R17). -/
theorem State.source_followForces (s : State) (before : Fin 16 → ForceMode) (i : Fin 16) :
    (s.followForces before).source i = (s.source i).followForce (before i) :=
  State.source_mapSources s _ i

/-- With every force mode as it was, the force-mode changes of a block start leave every source (R17). -/
theorem State.source_followForces_same (s : State) (before : Fin 16 → ForceMode) (i : Fin 16)
    (h : s.forceMode i = before i) : (s.followForces before).source i = s.source i := by
  rw [State.source_followForces]
  exact if_pos h

/-! ### Cues -/

/-- A state whose sources differ from another's in mix and position alone. -/
def State.sameBeyondMix (s t : State) : Prop :=
  ∀ i, ∃ m p, t.source i = { s.source i with mix := m, pos := p }

theorem State.sameBeyondMix_of_sources {s t : State} (h : t.sources = s.sources) : s.sameBeyondMix t := by
  intro i
  refine ⟨(s.source i).mix, (s.source i).pos, ?_⟩
  unfold State.source
  rw [h]

theorem State.sameBeyondMix_trans {s t u : State} (h : s.sameBeyondMix t) (k : t.sameBeyondMix u) :
    s.sameBeyondMix u := by
  intro i
  obtain ⟨m, p, hm⟩ := h i
  obtain ⟨n, q, hn⟩ := k i
  exact ⟨n, q, by rw [hn, hm]⟩

theorem State.setSources_sameBeyondMix (s : State) (body : List Word) (mask : Word) :
    s.sameBeyondMix (s.setSources body mask) := by
  refine State.sameBeyondMix_trans
    (t := s.mapSources (fun i x => if namesSource mask i then x.takeBody body else x)) ?_
    (State.sameBeyondMix_of_sources (by unfold State.setSources; split <;> simp))
  intro i
  rw [State.source_mapSources]
  split
  · exact ⟨_, _, rfl⟩
  · exact ⟨(s.source i).mix, (s.source i).pos, rfl⟩

/-- A cue applied leaves lines, floors, gates and hold counters; the gates follow the force modes later (R166, R17). -/
theorem State.applyItem_sameBeyondMix (s : State) (item : CueItem) : s.sameBeyondMix (s.applyItem item) := by
  unfold State.applyItem
  split
  · unfold State.applySourceSet
    split
    · exact State.sameBeyondMix_of_sources (by simp)
    · exact State.sameBeyondMix_trans (State.setSources_sameBeyondMix s (cueBody item) (bodyWord (cueBody item) 7))
        (State.sameBeyondMix_of_sources (by simp [State.carrySourceSet]))
  · exact State.sameBeyondMix_of_sources (by simp)
  · unfold State.applyScenePush
    split
    · exact State.sameBeyondMix_of_sources (by simp)
    · refine State.sameBeyondMix_trans (t := { s with scenes := s.currentScene :: s.scenes })
        (State.sameBeyondMix_of_sources rfl) ?_
      exact State.sameBeyondMix_trans
        (State.setSources_sameBeyondMix _ (cueBody item) (pushSourceMask (cueBody item)))
        (State.sameBeyondMix_of_sources (by simp [State.carryScenePush, State.pushScene]))
  · unfold State.applyScenePop
    split
    · exact State.sameBeyondMix_of_sources (by simp)
    · unfold State.carryScenePop
      split
      · exact State.sameBeyondMix_of_sources rfl
      · rename_i scene rest _
        refine State.sameBeyondMix_trans
          (t := s.mapSources (fun i x => { x with mix := scene.sources.getD i.val x.mix })) ?_
          (State.sameBeyondMix_of_sources (by simp [State.restoreScene]))
        intro i
        rw [State.source_mapSources]
        exact ⟨_, _, rfl⟩
  all_goals exact State.sameBeyondMix_of_sources (by simp)

/-- The cues of a block start leave lines, floors, gates and hold counters (R166, R17). -/
theorem State.applyTaken_sameBeyondMix (s : State) : s.sameBeyondMix s.applyTaken := by
  unfold State.applyTaken
  refine State.sameBeyondMix_trans (t := { s with takeList := [] }) (State.sameBeyondMix_of_sources rfl) ?_
  generalize ({ s with takeList := [] } : State) = u
  induction s.takeList generalizing u with
  | nil => exact State.sameBeyondMix_of_sources rfl
  | cons item rest ih => exact State.sameBeyondMix_trans (State.applyItem_sameBeyondMix u item) (ih _)

/-! ### Properties of every member -/

/-- A property that the change gives every source it finds holds of every source after it. -/
theorem State.mapSources_forall {P : Source → Prop} (s : State) (f : Fin 16 → Source → Source)
    (h : ∀ i, P (f i (s.source i))) : ∀ x ∈ (s.mapSources f).sources, P x := by
  intro x hx
  simp only [State.mapSources, State.withSources_sources, List.mem_map] at hx
  obtain ⟨i, _, rfl⟩ := hx
  exact h i

/-- A property that the change gives every zone it finds holds of every zone after it. -/
theorem State.mapZones_forall {P : Zone → Prop} (s : State) (f : Fin 24 → Zone → Zone)
    (h : ∀ z, P (f z (s.zone z))) : ∀ x ∈ (s.mapZones f).zones, P x := by
  intro x hx
  simp only [State.mapZones, State.withZones_zones, List.mem_map] at hx
  obtain ⟨z, _, rfl⟩ := hx
  exact h z

/-- A property of every source, kept by the change of one. -/
theorem State.setSource_forall {P : Source → Prop} (s : State) (i : Fin 16) (x : Source) (h : ∀ y ∈ s.sources, P y)
    (hx : P x) : ∀ y ∈ (s.setSource i x).sources, P y := by
  intro y hy
  simp only [State.setSource, State.withSources_sources] at hy
  rcases List.mem_or_eq_of_mem_set hy with hy | rfl
  · exact h _ hy
  · exact hx

/-- A property of every zone, kept by the change of one. -/
theorem State.setZone_forall {P : Zone → Prop} (s : State) (z : Fin 24) (x : Zone) (h : ∀ y ∈ s.zones, P y)
    (hx : P x) : ∀ y ∈ (s.setZone z x).zones, P y := by
  intro y hy
  simp only [State.setZone, State.withZones_zones] at hy
  rcases List.mem_or_eq_of_mem_set hy with hy | rfl
  · exact h _ hy
  · exact hx

/-- A property of every entry, through a change of all. -/
theorem State.mapRoutes_forall {P Q : Entry → Prop} (s : State) (f : Entry → Entry) (h : ∀ e ∈ s.routes, P e)
    (hf : ∀ e, P e → Q (f e)) : ∀ e ∈ (s.mapRoutes f).routes, Q e := by
  intro x hx
  simp only [State.mapRoutes, State.withRoutes_routes, List.mem_map] at hx
  obtain ⟨e, he, rfl⟩ := hx
  exact hf _ (h _ he)

/-- A property of every entry, kept when new entries have it. -/
theorem State.insertPairs_forall {P : Entry → Prop} (s : State) (ps : List Pair) (h : ∀ e ∈ s.routes, P e)
    (new : ∀ p ∈ ps, P (s.newEntry p)) : ∀ e ∈ (s.insertPairs ps).routes, P e := by
  have all : ∀ (ps : List Pair) (routes : List Entry), (∀ p ∈ ps, P (s.newEntry p)) → (∀ e ∈ routes, P e) →
      ∀ e ∈ ps.foldl (fun routes p => insertEntry (s.newEntry p) routes) routes, P e := by
    intro ps
    induction ps with
    | nil => intro routes _ h; exact h
    | cons p ps ih =>
      intro routes new h
      refine ih _ (fun q hq => new q (List.mem_cons_of_mem _ hq)) ?_
      intro x hx
      rcases (mem_insertEntry _ x routes).1 hx with rfl | hx
      · exact new p (List.mem_cons_self ..)
      · exact h _ hx
  exact all ps s.routes new h

/-- The entries after an insertion are those before and the new ones. -/
theorem State.mem_insertPairs (s : State) (ps : List Pair) (e : Entry) :
    e ∈ (s.insertPairs ps).routes ↔ e ∈ s.routes ∨ ∃ p ∈ ps, e = s.newEntry p := by
  have all : ∀ (ps : List Pair) (routes : List Entry),
      e ∈ ps.foldl (fun routes p => insertEntry (s.newEntry p) routes) routes
        ↔ e ∈ routes ∨ ∃ p ∈ ps, e = s.newEntry p := by
    intro ps
    induction ps with
    | nil => intro routes; simp
    | cons p ps ih =>
      intro routes
      rw [List.foldl_cons, ih, mem_insertEntry]
      simp only [List.mem_cons, exists_eq_or_imp]
      tauto
  exact all ps s.routes

/-- The list after an insertion is longer by the number of new pairs. -/
theorem State.insertPairs_length (s : State) (ps : List Pair) :
    (s.insertPairs ps).routes.length = s.routes.length + ps.length := by
  have all : ∀ (ps : List Pair) (routes : List Entry),
      (ps.foldl (fun routes p => insertEntry (s.newEntry p) routes) routes).length = routes.length + ps.length := by
    intro ps
    induction ps with
    | nil => intro routes; rfl
    | cons p ps ih =>
      intro routes
      rw [List.foldl_cons, ih, insertEntry_length, List.length_cons]
      omega
  exact all ps s.routes

/-- A property of every entry, kept by grants that keep it. -/
theorem grantUnits_forall {P : Entry → Prop} (fadeLength : Nat)
    (hg : ∀ e, P e → e.motion = .awaitingFade → P (e.grant fadeLength)) :
    ∀ (l : List Entry) (free : Nat), (∀ e ∈ l, P e) → ∀ e ∈ grantUnits fadeLength free l, P e := by
  intro l
  induction l with
  | nil => intro free _; simp [grantUnits]
  | cons a l ih =>
    intro free h
    have first := h a (List.mem_cons_self ..)
    have rest : ∀ e ∈ l, P e := fun e he => h e (List.mem_cons_of_mem _ he)
    cases free with
    | zero => simpa [grantUnits] using h
    | succ n =>
      simp only [grantUnits]
      split
      · rename_i waits
        intro x hx
        rcases List.mem_cons.1 hx with rfl | hx
        · exact hg _ first waits
        · exact ih _ rest _ hx
      · intro x hx
        rcases List.mem_cons.1 hx with rfl | hx
        · exact first
        · exact ih _ rest _ hx

/-! ### Pair order (R30) -/

/-- The 384 pairs stand in pair order. -/
theorem allPairs_ordered : allPairs.Pairwise (fun p q => pairRank p < pairRank q) := by
  have ranks : allPairs.map pairRank = List.range 384 := by decide +kernel
  have rising : (allPairs.map pairRank).Pairwise (· < ·) := by
    rw [ranks]
    exact List.pairwise_lt_range
  exact List.pairwise_map.1 rising

/-- The admitted set stands in pair order (R30). -/
theorem State.admittedNow_ordered (s : State) : s.admittedNow.Pairwise (fun p q => pairRank p < pairRank q) := by
  unfold State.admittedNow
  split
  · exact List.Pairwise.nil
  · exact allPairs_ordered.filter _

/-! ### Folds over the take list -/

/-- A property that the application of each item keeps, through the whole take list (R166). -/
theorem State.applyTaken_keeps {P : State → Prop} (s : State) (h : P { s with takeList := [] })
    (keep : ∀ (t : State) (item : CueItem), P t → P (t.applyItem item)) : P s.applyTaken := by
  have all : ∀ (items : List CueItem) (t : State), P t → P (items.foldl State.applyItem t) := by
    intro items
    induction items with
    | nil => intro t ht; exact ht
    | cons i items ih => intro t ht; exact ih _ (keep _ _ ht)
  exact all _ _ h

/-- A property that each examination keeps, through a sweep (R163). -/
theorem State.examineMany_keeps {P : State → Prop} (keep : ∀ t : State, P t → P t.examineNext) :
    ∀ (n : Nat) (s : State), P s → P (s.examineMany n) := by
  intro n
  induction n with
  | zero => intro s h; exact h
  | succ n ih => intro s h; exact ih _ (keep _ h)

end Sys2Proof.Machine
end

