-- ==== Sys2Proof/Laws/Memory.lean ====
section
/-! SUPPORT. The exchange memory: every operation keeps the canonical form, and a word written is the word read. -/

namespace Sys2Proof.Machine

/-! ### Placing a word -/

/-- The address of a cell of `place m a v` is `a` or an address of `m`. -/
theorem Memory.place_address (m : Memory) (a : Nat) (v : Word) :
    ∀ c ∈ m.place a v, c = (a, v) ∧ v ≠ 0 ∨ c ∈ m := by
  induction m with
  | nil => intro c hc; simp only [Memory.place] at hc; split at hc <;> simp_all
  | cons d rest ih =>
    obtain ⟨b, w⟩ := d
    intro c hc
    simp only [Memory.place] at hc
    split at hc
    · split at hc
      · exact Or.inr hc
      · rcases List.mem_cons.mp hc with h | h
        · exact Or.inl ⟨h, by assumption⟩
        · exact Or.inr h
    · split at hc
      · split at hc
        · exact Or.inr (List.mem_cons_of_mem _ hc)
        · rcases List.mem_cons.mp hc with h | h
          · exact Or.inl ⟨h, by assumption⟩
          · exact Or.inr (List.mem_cons_of_mem _ h)
      · rcases List.mem_cons.mp hc with h | h
        · exact Or.inr (h ▸ List.mem_cons_self)
        · rcases ih c h with h' | h'
          · exact Or.inl h'
          · exact Or.inr (List.mem_cons_of_mem _ h')

/-- Placing keeps addresses strictly rising. -/
theorem Memory.place_pairwise (m : Memory) (a : Nat) (v : Word) (h : m.Pairwise (fun c d => c.1 < d.1)) :
    (m.place a v).Pairwise (fun c d => c.1 < d.1) := by
  induction m with
  | nil => simp only [Memory.place]; split <;> simp
  | cons d rest ih =>
    obtain ⟨b, w⟩ := d
    obtain ⟨hb, hr⟩ := List.pairwise_cons.mp h
    simp only [Memory.place]
    split
    · split
      · exact h
      · rename_i hab _
        exact List.pairwise_cons.mpr ⟨fun c hc => by
          rcases List.mem_cons.mp hc with e | e
          · simpa [e] using hab
          · exact Nat.lt_trans hab (hb c e), h⟩
    · split
      · rename_i hab
        split
        · exact hr
        · exact List.pairwise_cons.mpr ⟨fun c hc => by simpa [hab] using hb c hc, hr⟩
      · rename_i h1 h2
        refine List.pairwise_cons.mpr ⟨fun c hc => ?_, ih hr⟩
        rcases Memory.place_address rest a v c hc with ⟨e, _⟩ | e
        · simp only [e]; omega
        · exact hb c e

/-- Placing at an address of the word space keeps the canonical form. -/
theorem Memory.place_wf (m : Memory) (a : Nat) (v : Word) (ha : a < Config.memoryWords) (h : m.wf) :
    (m.place a v).wf := by
  refine ⟨Memory.place_pairwise m a v h.1, fun c hc => ?_⟩
  rcases Memory.place_address m a v c hc with ⟨e, hv⟩ | e
  · exact ⟨e ▸ ha, e ▸ hv⟩
  · exact h.2 c e

/-- A write keeps the canonical form. -/
theorem Memory.write_wf (m : Memory) (a : Nat) (v : Word) (h : m.wf) : (m.write a v).wf := by
  unfold Memory.write
  split
  · exact Memory.place_wf m a v (by assumption) h
  · exact h

/-- Writes in order keep the canonical form. -/
theorem Memory.writeAll_wf (cells : List (Nat × Word)) (m : Memory) (h : m.wf) : (m.writeAll cells).wf := by
  induction cells generalizing m with
  | nil => exact h
  | cons c rest ih => exact ih (m.write c.1 c.2) (Memory.write_wf m c.1 c.2 h)

/-- The empty memory is in canonical form. -/
theorem Memory.wf_nil : Memory.wf [] := ⟨List.Pairwise.nil, fun _ h => by cases h⟩

/-! ### Reading -/

/-- An address below every listed address reads 0. -/
theorem Memory.read_eq_zero_of_lt (m : Memory) (a : Nat) (h : ∀ c ∈ m, a < c.1) : m.read a = 0 := by
  induction m with
  | nil => rfl
  | cons d rest ih =>
    obtain ⟨b, w⟩ := d
    have hb := h (b, w) List.mem_cons_self
    simp only [Memory.read, if_neg (Nat.ne_of_lt hb)]
    exact ih (fun c hc => h c (List.mem_cons_of_mem _ hc))

/-- A word placed in a memory with rising addresses is the word read there, and no other word changes. -/
theorem Memory.read_place (m : Memory) (a b : Nat) (v : Word) (h : m.Pairwise (fun c d => c.1 < d.1)) :
    (m.place a v).read b = if b = a then v else m.read b := by
  induction m with
  | nil =>
    simp only [Memory.place]
    split
    · rename_i hv; simp [Memory.read, hv]
    · simp [Memory.read]
  | cons d rest ih =>
    obtain ⟨c, w⟩ := d
    obtain ⟨hc, hr⟩ := List.pairwise_cons.mp h
    have low : ∀ x, x ≤ c → Memory.read rest x = 0 := fun x hx =>
      Memory.read_eq_zero_of_lt rest x (fun y hy => Nat.lt_of_le_of_lt hx (hc y hy))
    simp only [Memory.place]
    split
    · rename_i hac
      split
      · rename_i hv
        split
        · rename_i hba
          subst hba
          simp only [Memory.read, if_neg (Nat.ne_of_lt hac), hv]
          exact low b (Nat.le_of_lt hac)
        · rfl
      · simp [Memory.read]
    · split
      · rename_i hac
        subst hac
        split
        · rename_i hv
          split
          · rename_i hba; rw [hba, hv]; exact low a (Nat.le_refl a)
          · rename_i hba; simp [Memory.read, hba]
        · simp only [Memory.read]
          split
          · rfl
          · rfl
      · rename_i h1 h2
        simp only [Memory.read, ih hr]
        split
        · rename_i hbc
          subst hbc
          rw [if_neg (fun e => h2 e.symm)]
        · rfl

/-- A word written inside the word space is the word read there, and no other word changes. -/
theorem Memory.read_write (m : Memory) (a b : Nat) (v : Word) (h : m.wf) (ha : a < Config.memoryWords) :
    (m.write a v).read b = if b = a then v else m.read b := by
  unfold Memory.write
  rw [if_pos ha]
  exact Memory.read_place m a b v h.1

/-- A write outside the word space changes nothing. -/
theorem Memory.write_beyond (m : Memory) (a : Nat) (v : Word) (ha : ¬ a < Config.memoryWords) : m.write a v = m :=
  if_neg ha

/-- A write leaves every other word. -/
theorem Memory.read_write_other (m : Memory) (a b : Nat) (v : Word) (h : m.wf) (hab : b ≠ a) :
    (m.write a v).read b = m.read b := by
  by_cases ha : a < Config.memoryWords
  · rw [Memory.read_write m a b v h ha, if_neg hab]
  · rw [Memory.write_beyond m a v ha]

/-- Writes in order leave every word that none of them names. -/
theorem Memory.read_writeAll_other (cells : List (Nat × Word)) (m : Memory) (b : Nat) (h : m.wf)
    (hb : ∀ c ∈ cells, c.1 ≠ b) : (m.writeAll cells).read b = m.read b := by
  induction cells generalizing m with
  | nil => rfl
  | cons c rest ih =>
    have step := ih (m.write c.1 c.2) (Memory.write_wf m c.1 c.2 h) (fun d hd => hb d (List.mem_cons_of_mem _ hd))
    have one := Memory.read_write_other m c.1 b c.2 h (fun e => hb c List.mem_cons_self e.symm)
    exact step.trans one

/-- Two memories in canonical form that read alike at every address are equal. -/
theorem Memory.ext_of_wf (m n : Memory) (hm : m.wf) (hn : n.wf) (h : ∀ a, m.read a = n.read a) : m = n := by
  induction m generalizing n with
  | nil =>
    cases n with
    | nil => rfl
    | cons d rest =>
      have := h d.1
      simp only [Memory.read, if_true] at this
      exact absurd this.symm (hn.2 d List.mem_cons_self).2
  | cons c rest ih =>
    cases n with
    | nil =>
      have := h c.1
      simp only [Memory.read, if_true] at this
      exact absurd this (hm.2 c List.mem_cons_self).2
    | cons d rest' =>
      obtain ⟨c1, c2⟩ := c
      obtain ⟨d1, d2⟩ := d
      obtain ⟨hc, hr⟩ := List.pairwise_cons.mp hm.1
      obtain ⟨hd, hr'⟩ := List.pairwise_cons.mp hn.1
      have hc0 := (hm.2 (c1, c2) List.mem_cons_self).2
      have hd0 := (hn.2 (d1, d2) List.mem_cons_self).2
      have e1 : c1 = d1 := by
        rcases Nat.lt_trichotomy c1 d1 with hlt | heq | hgt
        · have hx := h c1
          simp only [Memory.read, if_true, if_neg (Nat.ne_of_lt hlt)] at hx
          rw [Memory.read_eq_zero_of_lt rest' c1 (fun y hy => Nat.lt_trans hlt (hd y hy))] at hx
          exact absurd hx hc0
        · exact heq
        · have hx := h d1
          simp only [Memory.read, if_true, if_neg (Nat.ne_of_lt hgt)] at hx
          rw [Memory.read_eq_zero_of_lt rest d1 (fun y hy => Nat.lt_trans hgt (hc y hy))] at hx
          exact absurd hx.symm hd0
      subst e1
      have e2 : c2 = d2 := by
        have hx := h c1
        simpa [Memory.read] using hx
      subst e2
      have e3 : rest = rest' := by
        refine ih rest' ⟨hr, fun x hx => hm.2 x (List.mem_cons_of_mem _ hx)⟩
          ⟨hr', fun x hx => hn.2 x (List.mem_cons_of_mem _ hx)⟩ (fun a => ?_)
        by_cases ha : a = c1
        · subst ha
          rw [Memory.read_eq_zero_of_lt rest a (fun y hy => hc y hy),
            Memory.read_eq_zero_of_lt rest' a (fun y hy => hd y hy)]
        · have hx := h a
          simpa [Memory.read, ha] using hx
      rw [e3]

end Sys2Proof.Machine
end

