-- ==== Sys2Proof/Laws/Banks.lean ====
section
/-! SUPPORT. What the adopted copy reads from a staging copy, and what the validation of a part reads. -/

namespace Sys2Proof.Machine

/-! ### The adopted copy (R132, R140, section 9.5) -/

/-- A stored gain is taken by the table of R168. -/
theorem gainOfWord_taken (w : Word) : gainTaken w (gainOfWord w) (gainClamps w).toNat := by
  have off : w.toInt = -32768 → w = 0x8000 := fun h => BitVec.eq_of_toInt_eq (h.trans (by decide))
  by_cases e : w = 0x8000
  · subst e
    decide
  · have lowest : w.toInt ≠ -32768 := fun h => e (off h)
    have other : (w != 0x8000) = true := by simpa using e
    unfold gainOfWord gainClamps
    rw [other]
    refine ⟨fun h => absurd h lowest, fun _ b => ?_, fun a b => ?_, fun a => ?_⟩
    · simp
      omega
    · simp [show ¬ w.toInt < -192 by omega, show ¬ 24 < w.toInt by omega]
    · simp [show ¬ w.toInt < -192 by omega, a]

/-- A word as a code. -/
theorem toNat_eq_code (w : Word) (n : Nat) (h : n < 65536) : w.toNat = n ↔ w = BitVec.ofNat 16 n :=
  ⟨fun e => BitVec.eq_of_toNat_eq (by rw [e, BitVec.toNat_ofNat, Nat.mod_eq_of_lt h]),
   fun e => by rw [e, BitVec.toNat_ofNat, Nat.mod_eq_of_lt h]⟩

/-- A window as read from a staging copy. -/
theorem windowOf_copied (img : Memory) (base : Nat) : windowCopied img base (windowOf img base) := by
  unfold windowCopied windowOf flagAt natAt wordFlag
  simp [toNat_eq_code _ 1]

/-- A source record as read from a staging copy. -/
theorem sourceRowOf_copied (img : Memory) (i : Fin 16) :
    sourceCopied img (0x040 + 8 * i.val) (sourceRowOf img i) := by
  refine ⟨rfl, ⟨_, gainOfWord_taken _⟩, ?_, fun h => ?_, fun h => ?_, fun h => ?_, rfl, rfl, ?_⟩
  all_goals unfold sourceRowOf
  case refine_1 | refine_5 => simp [flagAt, wordFlag]
  all_goals simp only [natAt, h]; rfl

/-- A zone record as read from a staging copy. -/
theorem zoneRowOf_copied (img : Memory) (z : Fin 24) : zoneCopied img (0x400 + 32 * z.val) (zoneRowOf img z) := by
  refine ⟨rfl, ⟨_, gainOfWord_taken _⟩, ?_, rfl, rfl, fun h => ?_, fun h => ?_, fun h => ?_, fun h => ?_, rfl, ?_,
    windowOf_copied _ _, windowOf_copied _ _, ?_, ?_, rfl⟩
  all_goals unfold zoneRowOf
  case refine_1 | refine_7 => simp [flagAt, wordFlag]
  case refine_6 | refine_8 => simp [natAt, toNat_eq_code _ 1]
  all_goals simp only [natAt, h]; rfl

/-- The globals as read from a staging copy. -/
theorem globalsOf_copied (img : Memory) : globalsCopied img (globalsOf img) := by
  unfold globalsCopied globalsOf flagAt natAt wordFlag
  simp [toNat_eq_code _ 0]

/-- An adopted copy's source records. -/
theorem bankOf_sourceRow (img : Memory) (i : Fin 16) : (bankOf img).sourceRow i = sourceRowOf img i := by
  simp [Bank.sourceRow, bankOf, allSources]

/-- An adopted copy's zone records. -/
theorem bankOf_zoneRow (img : Memory) (z : Fin 24) : (bankOf img).zoneRow z = zoneRowOf img z := by
  simp [Bank.zoneRow, bankOf, allZones]

/-- An adopted copy reads every field from its own offset. -/
theorem bankOf_copied (img : Memory) : bankCopied img (bankOf img) := by
  refine ⟨?_, globalsOf_copied img, fun i => ?_, fun t r => ?_, fun i => ?_, fun c k hk h => ?_, fun z => ?_, fun p => ?_⟩
  · simp [bankOf, Bank.whole, allSources, allZones]
  · rw [bankOf_sourceRow]
    exact ⟨by simp [bankOf, allSources], sourceRowOf_copied img i⟩
  · have h : 32 * t.val + r.val < 128 := by omega
    have e : (bankOf img).rows[32 * t.val + r.val]?
        = some ((img.read (0x0C0 + 64 * t.val + 2 * r.val)).toNat, (img.read (0x0C1 + 64 * t.val + 2 * r.val)).toNat) := by
      unfold bankOf natAt
      simp only [List.getElem?_map, List.getElem?_range h, Option.map_some]
      congr 4 <;> ring
    have row : (bankOf img).row t.val r.val = (bankOf img).rows[32 * t.val + r.val]?.getD (1, 0) :=
      List.getD_eq_getElem?_getD
    rw [row, e]
    exact ⟨rfl, rfl⟩
  · simp [bankOf, natAt]
  · have := c.isLt
    unfold Bank.call bankOf bodyWord copiedBody
    simp [this, hk, h]
  · rw [bankOf_zoneRow]
    exact ⟨by simp [bankOf, allZones], zoneRowOf_copied img z⟩
  · intro w
    have h : 24 * p.source.val + p.zone.val < 384 := by
      have := p.source.isLt
      have := p.zone.isLt
      omega
    unfold Bank.couplingOf bankOf pairRank couplingOfWord
    simp [h]
    rw [← Nat.add_assoc]

/-! ### What validation reads (R137) -/

/-- A word's examination reads that word of the bank alone. -/
theorem Adoption.examine_congr (a : Adoption) (m n : Memory) (off : Nat)
    (h : m.read (bankBase a.bank + off) = n.read (bankBase a.bank + off)) : a.examine m off = a.examine n off := by
  unfold Adoption.examine
  rw [h]

/-- An examination keeps the bank under adoption. -/
theorem Adoption.examine_bank (a : Adoption) (m : Memory) (off : Nat) : (a.examine m off).bank = a.bank := by
  unfold Adoption.examine
  dsimp only
  (repeat' split) <;> rfl

/-- A part's examination reads the words of the bank alone. -/
theorem Adoption.examined_congr (a : Adoption) (m n : Memory)
    (h : ∀ b, bankBase a.bank ≤ b → m.read b = n.read b) : a.examined m = a.examined n := by
  have all : ∀ (offs : List Nat) (c : Adoption), c.bank = a.bank →
      offs.foldl (fun c k => c.examine m (512 * a.part + k)) c
        = offs.foldl (fun c k => c.examine n (512 * a.part + k)) c := by
    intro offs
    induction offs with
    | nil => intro c _; rfl
    | cons k offs ih =>
      intro c hc
      rw [List.foldl_cons, List.foldl_cons,
        Adoption.examine_congr c m n (512 * a.part + k) (h _ (by rw [hc]; omega))]
      exact ih _ ((Adoption.examine_bank c n _).trans hc)
  exact all _ a rfl

/-- An examination keeps the part. -/
theorem Adoption.examine_part (a : Adoption) (m : Memory) (off : Nat) : (a.examine m off).part = a.part := by
  unfold Adoption.examine
  dsimp only
  (repeat' split) <;> rfl

/-- The validation of a block is the examination of the next part. -/
theorem Adoption.validatePart_eq (a : Adoption) (m : Memory) (hp : a.part < 8) (hi : a.illegal = none) :
    a.validatePart m = { a.examined m with part := a.part + 1 } := by
  have same : ∀ (offs : List Nat) (c : Adoption), c.part = a.part →
      offs.foldl (fun c k => c.examine m (512 * c.part + k)) c
        = offs.foldl (fun c k => c.examine m (512 * a.part + k)) c := by
    intro offs
    induction offs with
    | nil => intro c _; rfl
    | cons k offs ih =>
      intro c hc
      rw [List.foldl_cons, List.foldl_cons, hc]
      exact ih _ ((Adoption.examine_part c m _).trans hc)
  unfold Adoption.validatePart Adoption.examined
  rw [if_pos ⟨hp, hi⟩, same (List.range 512) a rfl]

/-! ### What a sweep leaves (R163) -/

/-- A placing leaves every other word, in any memory. -/
theorem Memory.read_place_other (m : Memory) (a b : Nat) (v : Word) (h : b ≠ a) : (m.place a v).read b = m.read b := by
  induction m with
  | nil =>
    unfold Memory.place
    split <;> simp [Memory.read, h]
  | cons c rest ih =>
    obtain ⟨x, w⟩ := c
    unfold Memory.place
    (repeat' split) <;> simp_all [Memory.read]

/-- A write leaves every other word, in any memory. -/
theorem State.store_word_other (s : State) (a b : Nat) (v : Word) (h : b ≠ a) : (s.store a v).word b = s.word b := by
  show (s.mem.write a v).read b = s.mem.read b
  unfold Memory.write
  split
  · exact Memory.read_place_other s.mem a b v h
  · rfl

/-- A sweep writes slot states alone. -/
theorem State.finishSweep_word (s : State) (b : Nat) (h : 0x440 ≤ b) : s.finishSweep.word b = s.word b := by
  refine State.examineMany_keeps (P := fun t => t.word b = s.word b) (fun t ht => ?_) _ s rfl
  unfold State.examineNext
  split
  · exact (congrArg (fun m : Memory => m.read b) (State.examineCall_frame t).2.2.2.1).trans ht
  · split
    · rw [← ht]
      show (t.examineSlot _).word b = _
      unfold State.examineSlot
      split
      · exact State.store_word_other t _ b _ (by unfold slotBase; omega)
      · rfl
    · exact ht

end Sys2Proof.Machine
end

