-- ==== Sys2Proof/Laws/Host.lean ====
section
/-! SUPPORT. What a host write does, in one lemma per operation of the port, and what an outcome writes. -/

namespace Sys2Proof.Machine

/-! ### Reading after several writes -/

/-- Writes in two runs. -/
theorem Memory.writeAll_append (m : Memory) (first rest : List (Nat × Word)) :
    m.writeAll (first ++ rest) = (m.writeAll first).writeAll rest := by
  simp [Memory.writeAll]

/-- What a word reads after the same writes depends on what it read before them alone. -/
theorem Memory.read_writeAll_congr (cells : List (Nat × Word)) (b : Nat) :
    ∀ m n : Memory, m.wf → n.wf → m.read b = n.read b → (m.writeAll cells).read b = (n.writeAll cells).read b := by
  induction cells with
  | nil => intro m n _ _ h; exact h
  | cons d rest ih =>
    intro m n hm hn h
    refine ih _ _ (Memory.write_wf _ _ _ hm) (Memory.write_wf _ _ _ hn) ?_
    by_cases inside : d.1 < Config.memoryWords
    · simp only [Memory.read_write _ _ _ _ hm inside, Memory.read_write _ _ _ _ hn inside, h]
    · simp only [Memory.write_beyond _ _ _ inside, h]

/-- The first of several writes is read back where no later one writes to its word. -/
theorem Memory.read_writeAll_cons (m : Memory) (c : Nat × Word) (rest : List (Nat × Word)) (b : Nat) (h : m.wf)
    (inside : c.1 < Config.memoryWords) (apart : ∀ d ∈ rest, d.1 ≠ c.1) :
    (m.writeAll (c :: rest)).read b = if b = c.1 then c.2 else (m.writeAll rest).read b := by
  by_cases same : b = c.1
  · subst same
    rw [if_pos rfl]
    show ((m.write c.1 c.2).writeAll rest).read c.1 = _
    rw [Memory.read_writeAll_other _ _ _ (Memory.write_wf _ _ _ h), Memory.read_write _ _ _ _ h inside, if_pos rfl]
    intro d hd
    exact apart d hd
  · rw [if_neg same]
    show ((m.write c.1 c.2).writeAll rest).read b = (m.writeAll rest).read b
    refine Memory.read_writeAll_congr _ _ _ _ (Memory.write_wf _ _ _ h) h ?_
    rw [Memory.read_write_other _ _ _ _ h same]

/-! ### Notices and outcomes -/

/-- Raising a flag sets that flag and no other (R184). -/
theorem State.raise_noticed (s : State) (n m : Notice) : (s.raise n).noticed m = (decide (n = m) || s.noticed m) := by
  cases n <;> cases m <;> simp [State.raise, State.noticed, State.withPort, Notice.mask, Notice.bit]

/-- A slot lies between 0x40 and 0x43F. -/
theorem slotBase_range (k : Fin 32) : 0x40 ≤ slotBase k ∧ slotBase k + 31 < 0x440 := by
  have := k.isLt
  unfold slotBase
  omega

/-- Slots do not share words. -/
theorem slotBase_apart (j k : Fin 32) (h : j ≠ k) (a b : Nat) (ha : a < 32) (hb : b < 32) :
    slotBase j + a ≠ slotBase k + b := by
  have : j.val ≠ k.val := fun e => h (Fin.ext e)
  unfold slotBase
  omega

/-- What every word reads after an outcome written into a slot (R170). -/
theorem State.outcome_slot_word (s : State) (k : Fin 32) (claim : Bool) (code : ResultCode) (detail : Nat)
    (h : s.mem.wf) (a : Nat) :
    (s.outcome (.slot k) claim code detail).word a =
      if a = slotBase k + 2 then natWord code.number else if a = slotBase k + 3 then natWord detail
      else if a = slotBase k + 4 then blockLow s.block else if a = slotBase k + 5 then blockHigh s.block
      else if a = slotBase k then (if code.done then slotDone else slotFaulted) else s.word a := by
  have range := slotBase_range k
  unfold State.outcome State.word
  simp only [State.raise, State.withPort, State.storeAll, State.withMem]
  rw [Memory.read_writeAll_cons _ _ _ _ h, Memory.read_writeAll_cons _ _ _ _ h, Memory.read_writeAll_cons _ _ _ _ h,
    Memory.read_writeAll_cons _ _ _ _ h, Memory.read_writeAll_cons _ _ _ _ h]
  · rfl
  all_goals first
    | (simp [Config.memoryWords]; done)
    | (simp only [Config.memoryWords]; omega)

/-- An outcome that goes to CALL, or nowhere, leaves the memory (R174). -/
theorem State.outcome_call_mem (s : State) (claim : Bool) (code : ResultCode) (detail : Nat) :
    (s.outcome .call claim code detail).mem = s.mem := by
  unfold State.outcome
  cases claim <;> simp

/-- An outcome keeps the memory canonical. -/
theorem State.outcome_mem_wf (s : State) (origin : Origin) (claim : Bool) (code : ResultCode) (detail : Nat)
    (h : s.mem.wf) : (s.outcome origin claim code detail).mem.wf := by
  cases origin with
  | slot k => exact Memory.writeAll_wf _ _ h
  | call => rw [State.outcome_call_mem]; exact h

/-! ### Host writes -/

/-- A dropped write, said once (R150). -/
theorem State.drop_eq (s : State) (a : Addr) : s.drop a = s.droppedAt a := by
  unfold State.drop State.droppedAt State.raise State.withPort
  have bit : Notice.protect.bit = 5 := rfl
  have mask : Notice.protect.mask = 0x020 := by decide
  rw [bit, mask]
  cases s.port.notice.getLsbD 5 <;> simp only [] <;> rfl

/-- The two bytes of a word, in the order of the lanes, make the word (R157). -/
theorem joinBytes_halves (first : Lane) (w : Word) :
    joinBytes first (laneByte first w) (laneByte (otherLane first) w) = w := by
  have halves : w.extractLsb' 8 8 ++ w.extractLsb' 0 8 = w := by
    ext i hi
    simp only [BitVec.getElem_append, BitVec.getElem_extractLsb']
    split
    · simp only [Nat.zero_add]
      exact BitVec.getLsbD_eq_getElem hi
    · rename_i high
      have : 8 + (i - 8) = i := by omega
      rw [this]
      exact BitVec.getLsbD_eq_getElem hi
  cases first
  · exact halves
  · exact halves

/-- A host word write is one write presented to the port, in both widths (R157; log 9). -/
theorem State.hostWrite_eq (s : State) (a : Addr) (v : Word) : s.hostWrite a v = s.atPort.presentWrite a v := by
  unfold State.hostWrite State.atPort
  split
  · have other : ∀ l : Lane, otherLane l ≠ l := by
      intro l
      cases l <;> decide
    simp only [State.stageByte, if_true, State.withPort]
    have first : Port.firstLane { s.port with writeLatch := some (a, laneByte s.port.firstLane v) } = s.port.firstLane :=
      rfl
    rw [first, if_neg (other _), joinBytes_halves]
  · rfl

/-- The state at the port has the memory of the state. -/
@[simp] theorem State.atPort_mem (s : State) : s.atPort.mem = s.mem := by
  unfold State.atPort
  split <;> rfl

/-- A write to a register's address is the register's own (R148, R151). -/
theorem State.presentWrite_register (s : State) (a : Addr) (v : Word) (h : a.toNat ≤ 6) :
    s.presentWrite a v = s.writeRegister a.toNat a v := by
  unfold State.presentWrite regionOf
  simp [h]

/-- An accepted write replaces its word alone. -/
theorem State.accept_oneWordWritten (s : State) (a : Addr) (v : Word) (h : s.mem.wf) :
    oneWordWritten s (s.accept a v) a.toNat v := by
  refine ⟨?_, rfl⟩
  intro b
  simp only [State.accept, State.store, State.word, State.withMem]
  exact Memory.read_write _ _ _ _ h a.isLt

end Sys2Proof.Machine
end

