-- ==== Sys2Proof/WellFormed.lean ====
section
/-! DEFINITION. Which commands are well formed: a frame has eight slots, a cue body has 32 words and the kind of its command. -/

namespace Sys2Proof

/-- A good frame carries eight channel words (R1). -/
def LinkFrame.wf : LinkFrame → Bool
  | .missing => true
  | .good slots => slots.length == 8

/-- The kind word of a body laid out as a cue slot (R159). -/
def bodyKind (body : List Word) : Nat := (body.getD 1 0).toNat

/-- An item whose body, where it has one, has 32 words and a kind that `ok` admits. Only a call can have no body (R173),
and only a call can hold a claim on CALL (R163, R173). -/
def CueItem.wfWith (ok : Nat → Bool) (item : CueItem) : Bool :=
  (match item.body with
    | none => item.origin == .call
    | some body => body.length == 32 && ok (bodyKind body))
  && (item.origin == .call || !item.claim)

/-- The command's operands are of the form the spec gives them. -/
def Instr.wf : Instr → Bool
  | .powerOnReset _ => true
  | .inputFrame a b => a.wf && b.wf
  | .linkLost _ f => f.wf
  | .linkRecovery _ slots f => slots.length == 8 && f.wf
  | .outputFrame => true
  | .blockStart _ => true
  | .floorRise _ => true
  | .holdExpiry _ => true
  | .intakeSweep n => n ≤ 33
  | .sourceSet item => item.wfWith (· == 1)
  | .zoneSet item => item.wfWith (· == 2)
  | .scenePush item => item.wfWith (· == 3)
  | .scenePop item => item.wfWith (· == 4)
  | .sceneClear item => item.wfWith (· == 5)
  | .bankAdopt item => item.wfWith (· == 6)
  | .surveyStart item => item.wfWith (· == 7)
  | .surveyAbort item => item.wfWith (· == 8)
  | .badKind item => item.wfWith (fun k => k == 0 || 8 < k)
  | .bankReject => true
  | .switchOver => true
  | .engineReset => true
  | .routeRemoval => true
  | .fadeGrant => true
  | .fadeEnd _ => true
  | .mutingEnd => true
  | .quietEnd => true
  | .settleEnd => true
  | .measureEnd => true
  | .surveyComplete => true
  | .snapshotTime => true
  | .snapshotWrite => true
  | .hostWrite _ _ => true
  | .slotPost _ => true
  | .slotWithdraw _ => true
  | .slotFree _ => true
  | .bufferClaim _ => true
  | .bufferRelease _ => true
  | .hostCall _ => true
  | .callWithdraw => true
  | .portInitialise _ _ => true
  | .engineResetRequest _ _ => true
  | .holdIntake _ => true
  | .order _ => true
  | .noticeClear _ => true
  | .noticeMaskWrite _ => true
  | .byteWrite _ _ _ => true
  | .byteRead _ _ => true

end Sys2Proof
end

