-- ==== Sys2Proof/Tests/Slice0.lean ====
section
/-! SUPPORT. Checks of the model on fixed values: well-formedness, the spec's own worked numbers, one step of each family, and a state that meets the hypotheses of each statement. -/

namespace Sys2Proof.Tests

open Sys2Proof Sys2Proof.Machine

set_option Elab.async false

/-! ### Well-formedness: each check refuses an ill-formed term -/

/-- A body laid out as a cue slot, from the words that are not 0. -/
def bodyOf (words : List (Nat × Word)) : List Word := (List.range 32).map (fun i => Memory.read words i)

/-- An item of slot 3. -/
def slotItem (words : List (Nat × Word)) : CueItem := { origin := .slot 3, claim := false, body := some (bodyOf words) }

/-- A claimed item of CALL. -/
def callItem (words : List (Nat × Word)) : CueItem := { origin := .call, claim := true, body := some (bodyOf words) }

/-- A claimed item of a call taken while no bank is LIVE. -/
def bareCall : CueItem := { origin := .call, claim := true, body := none }

/-- Eight equal slots. -/
def evenSlots (w : TdmSlot) : List TdmSlot := List.replicate 8 w

theorem test_wf_frame_of_seven_slots_refused :
    Instr.wf (.inputFrame (.good (List.replicate 7 0)) .missing) = false
      ∧ Instr.wf (.inputFrame .missing (.good (List.replicate 9 0))) = false
      ∧ Instr.wf (.linkLost .inA (.good [])) = false
      ∧ Instr.wf (.linkRecovery .inB (List.replicate 7 0) .missing) = false
      ∧ Instr.wf (.linkRecovery .inB (evenSlots 0) (.good [])) = false := by decide

theorem test_wf_frame_of_eight_slots_accepted :
    Instr.wf (.inputFrame (.good (evenSlots 0)) .missing) = true
      ∧ Instr.wf (.linkRecovery .inB (evenSlots 0) .missing) = true := by decide

theorem test_wf_sweep_of_34_examinations_refused :
    Instr.wf (.intakeSweep 34) = false ∧ Instr.wf (.intakeSweep 33) = true := by decide

theorem test_wf_short_body_refused :
    Instr.wf (.sourceSet { origin := .slot 0, claim := false, body := some [0, 1] }) = false := by decide

theorem test_wf_wrong_kind_refused :
    Instr.wf (.sourceSet (slotItem [(1, 2)])) = false ∧ Instr.wf (.zoneSet (slotItem [(1, 1)])) = false
      ∧ Instr.wf (.scenePush (slotItem [(1, 4)])) = false ∧ Instr.wf (.scenePop (slotItem [(1, 3)])) = false
      ∧ Instr.wf (.sceneClear (slotItem [(1, 0)])) = false ∧ Instr.wf (.bankAdopt (slotItem [(1, 7)])) = false
      ∧ Instr.wf (.surveyStart (slotItem [(1, 6)])) = false ∧ Instr.wf (.surveyAbort (slotItem [(1, 7)])) = false
      ∧ Instr.wf (.badKind (slotItem [(1, 8)])) = false ∧ Instr.wf (.badKind (slotItem [(1, 1)])) = false := by
  decide

theorem test_wf_own_kind_accepted :
    Instr.wf (.sourceSet (slotItem [(1, 1)])) = true ∧ Instr.wf (.zoneSet (slotItem [(1, 2)])) = true
      ∧ Instr.wf (.scenePush (callItem [(1, 3)])) = true ∧ Instr.wf (.surveyAbort bareCall) = true
      ∧ Instr.wf (.badKind (slotItem [(1, 9)])) = true ∧ Instr.wf (.badKind (slotItem [])) = true := by decide

theorem test_wf_slot_item_without_body_refused :
    Instr.wf (.scenePop { origin := .slot 0, claim := false, body := none }) = false := by decide

theorem test_wf_slot_item_with_claim_refused :
    Instr.wf (.scenePop { slotItem [(1, 4)] with claim := true }) = false := by decide

/-! ### No word spells a command -/

theorem test_decode_spells_nothing : decodeTableWord 16 1 = none ∧ decodeTableWord 0 0 = none := by decide

/-! ### The spec's own numbers -/

/-- The level of 48 samples given by index. -/
def levelOfBlock (f : Nat → Int) : Int := levelOf (squareSum ((List.range 48).map (fun i => BitVec.ofInt 24 (f i)))) 48

theorem test_levels_of_R7 :
    levelOfBlock (fun _ => -8388608) = 0 ∧ levelOfBlock (fun i => if i < 24 then 4194304 else 0) = -18
      ∧ levelOfBlock (fun _ => 0) = -192 ∧ levelOfBlock (fun _ => 1) = -192 := by decide +kernel

theorem test_linear_gains_of_R97 :
    linearGain .off = 0 ∧ linearGain (.code 0) = 4096 ∧ linearGain (.code 24) = 16306
      ∧ linearGain (.code (-12)) = 2053 ∧ linearGain (.code (-40)) = 410 ∧ linearGain (.code (-192)) = 0 := by
  decide +kernel

theorem test_words_of_R33 :
    (narrowWord 8388607).toInt = 32767 ∧ (narrowWord 8388479).toInt = 32767 ∧ (narrowWord 384).toInt = 2
      ∧ (narrowWord 383).toInt = 1 ∧ (narrowWord 127).toInt = 0 ∧ (narrowWord (-128)).toInt = 0
      ∧ (narrowWord (-129)).toInt = -1 ∧ (narrowWord (-8388608)).toInt = -32768 := by decide +kernel

theorem test_weights_of_R70 :
    fadeWeight 16 0 0 = 42 ∧ fadeWeight 16 3 10 = 6613 ∧ fadeWeight 16 7 47 = 16384
      ∧ fadeWeight 16 15 47 = 32768 ∧ fadeWeight 8 0 0 = 85 := by decide +kernel

theorem test_distances_of_R58 :
    planDistance { x := 0, y := 0 } { x := 2047, y := 1023 } = 2288
      ∧ planDistance { x := 620, y := 380 } { x := 1000, y := 240 } = 404
      ∧ flightSamples 2288 61000 = 34074 := by decide +kernel

theorem test_nom_terms_of_R85 :
    (List.range 17).map (nomTerm true)
        = [0, 0, -6, -10, -12, -14, -16, -17, -18, -19, -20, -21, -22, -22, -23, -24, -24]
      ∧ nomTerm false 16 = 0 := by decide +kernel

theorem test_register_begins_at_seed : lfsrStep 0xACE1 = 0x5670 := by decide +kernel

/-! ### A small state -/

/-- The numbers of a legal bank; zones 0 to 3 put the raw delay of a source at (0, 0) at -1, 0, 16383 and 16384. -/
def demoImage : Memory :=
  [(0x10, 61000), (0x11, 4), (0x12, 16), (0x13, 4), (0x14, 50), (0x15, 16), (0x16, 4), (0x17, 400), (0x18, 24),
   (0x19, 1), (0x1A, 12), (0x20, 0xFFD8), (0x21, 64), (0x22, 64), (0x23, 64), (0x24, 8),
   (0x404, 95), (0x424, 96), (0x440, 1100), (0x444, 97), (0x460, 1100), (0x464, 98)]

/-- The adopted copy of that bank. -/
def demoBank : Bank := bankOf demoImage

/-- An engine RUNNING on bank A. -/
def demo : State := { State.reset with live := some { bank := .bankA, copy := demoBank }, mem := [(0x800, 2)] }

/-- A LIVE entry at rest and silent. -/
def demoEntry (i : Fin 16) (z : Fin 24) : Entry :=
  { pair := { source := i, zone := z }, lifecycle := .live, motion := .steady, delay := 0, targetDelay := 0,
    gain := .off, targetGain := .off, floorFlag := false, ceilFlag := false, ceilingLimited := false, ducked := false }

/-- The orders left open, one way. -/
def someRaces : BlockRaces := { bankBeforeReset := true, completionBeforeReset := true, completionBeforeAbort := true }

/-- The orders left open, the other way. -/
def otherRaces : BlockRaces := { bankBeforeReset := false, completionBeforeReset := false, completionBeforeAbort := false }

/-- The state a command answers. -/
def after (c : Instr) (s : State) : State :=
  match exec c s with
  | .next t => t
  | _ => s

/-- The bank of section 2.4's examples: the transept Z9, the chapel Z20, the recording room Z23. -/
def naveBank : Bank := bankOf (Memory.writeAll []
  ((List.range 18).map (fun r => (0xC0 + 2 * (64 + r), (2047 : Word)))
    ++ (List.range 7).flatMap (fun r => [(0xC0 + 2 * (82 + r), (1300 : Word)), (0xC1 + 2 * (82 + r), 1500)])
    ++ (List.range 7).flatMap (fun r => [(0xC0 + 2 * (89 + r), (1250 : Word)), (0xC1 + 2 * (89 + r), 1550)])
    ++ [(0x529, 1), (0x52B, 1), (0x52E, 600), (0x52F, 1023), (0x530, 2), (0x539, 1), (0x53B, 6)]
    ++ [(0x688, 1), (0x689, 1), (0x68C, 1700), (0x68D, 1900), (0x68E, 100), (0x68F, 300), (0x699, 1), (0x69A, 1),
        (0x69B, 0x400)]
    ++ [(0x6E8, 1)]))

/-- Whether the bank of the examples admits a source at a position to a zone. -/
def naveAdmits (i : Fin 16) (z : Fin 24) (x y : Nat) : Bool :=
  naveBank.admits { source := i, zone := z } { x := x, y := y }

/-- One source changed. -/
def withSource (i : Fin 16) (f : Source → Source) (s : State) : State := s.setSource i (f (s.source i))

/-- Both links with frames coming in, so that no block is lost. -/
def sound (s : State) : State :=
  { s with linkA := { lost := false, missing := 0, good := 48, lostInBlock := false },
           linkB := { lost := false, missing := 0, good := 48, lostInBlock := false } }

/-- A sweep made, and its take list. -/
def taking (items : List CueItem) (s : State) : State := { s with sweepPos := 33, takeList := items }

/-! ### One step of each family -/

theorem test_admission_of_section_2_4 :
    naveAdmits 7 9 1400 700 = true ∧ naveAdmits 8 9 1400 590 = false ∧ naveAdmits 8 9 1260 900 = true
      ∧ naveAdmits 8 9 1260 650 = false ∧ naveAdmits 2 9 620 380 = true ∧ naveAdmits 3 9 1000 240 = false
      ∧ naveAdmits 10 20 1800 200 = false ∧ naveAdmits 11 20 1750 150 = true ∧ naveAdmits 11 20 1750 320 = false
      ∧ naveAdmits 2 20 620 380 = false ∧ naveAdmits 15 23 0 0 = true ∧ naveAdmits 0 22 0 0 = false := by
  decide +kernel

/-- A cue that sets a force mode of source 0. -/
def forceItem (mode : Word) : CueItem := slotItem [(1, 1), (6, 4), (7, 1), (11, mode)]

/-- An OPEN gate of source 0 without speech, and two cues to its force mode at one block start. -/
def forcedTwice (first second : Word) : State :=
  after (.blockStart someRaces)
    (taking [forceItem first, forceItem second]
      (sound (withSource 0 (fun x => { x with gate := .opened, floor := some (-192) }) demo)))

theorem test_open_then_auto_leaves_evaluated_gate :
    let s := forcedTwice 1 0
    (s.source 0).gate = .hold ∧ (s.source 0).holdCount = 400 ∧ (s.source 0).mix.force = .auto := by decide +kernel

theorem test_last_force_mode_acts_alone :
    ((forcedTwice 0 1).source 0).gate = .forcedOpen ∧ ((forcedTwice 1 2).source 0).gate = .forcedClosed
      ∧ ((forcedTwice 1 2).source 0).holdCount = 0 := by decide +kernel

theorem test_push_open_then_pop_leaves_evaluated_gate :
    let s := after (.blockStart someRaces)
      (taking [slotItem [(1, 3), (6, 4), (11, 1), (21, 1)], slotItem [(1, 4)]]
        (sound (withSource 0 (fun x => { x with gate := .hold, holdCount := 9, floor := some (-192) }) demo)))
    (s.source 0).gate = .hold ∧ (s.source 0).holdCount = 8 := by decide +kernel

theorem test_second_survey_defers_first_ones_rebuild :
    let start := slotItem [(1, 7), (6, 1), (23, 5)]
    let s := after (.blockStart someRaces) (taking [start, slotItem [(1, 8)], start] demo)
    s.survey.phase = .muting ∧ s.rebuild = .requested := by decide +kernel

theorem test_output_slot_is_top_24_bits :
    (demo.outSlot 0 0x123456).extractLsb' 8 24 = 0x123456 := by
  rw [State.outSlot, if_neg (by decide +kernel)]
  exact wideSlot_top _ _

theorem test_step_idles_on_empty_queue : step State.reset = .next State.reset := rfl

theorem test_step_takes_front : (step { demo with pending := [.sceneClear (slotItem [(1, 5)])] })
    = exec (.sceneClear (slotItem [(1, 5)])) demo := rfl

theorem test_link_loses_with_second_missing :
    (after (.inputFrame .missing (.good (evenSlots 0)))
      { demo with linkA := { lost := false, missing := 1, good := 0, lostInBlock := false } }).linkA.lost = true := by
  decide +kernel

theorem test_input_slot_is_top_24_bits :
    ((after (.inputFrame (.good (evenSlots 0x12345678)) .missing)
      { demo with linkA := { lost := false, missing := 0, good := 0, lostInBlock := false } }).source 0).line.head?
      = some 0x123456 := by decide +kernel

theorem test_slot_post_then_sweep_takes :
    let s := after (.intakeSweep 33) (after (.slotPost 31) demo)
    s.word (slotBase 31) = slotTaken ∧ s.takeList.length = 1 ∧ s.sweepPos = 33 := by decide +kernel

theorem test_source_set_clamps_fader :
    let s := after (.sourceSet (slotItem [(1, 1), (6, 1), (7, 4), (9, 100)])) demo
    (s.source 2).mix.fader = .code 24 ∧ (s.source 1).mix.fader = .off
      ∧ s.word (slotBase 3) = slotDone ∧ s.word (slotBase 3 + 2) = 1 ∧ s.word (slotBase 3 + 3) = 1 := by decide +kernel

theorem test_cue_in_no_bank_faults :
    let s := after (.zoneSet (slotItem [(1, 2)])) State.reset
    s.word (slotBase 3) = slotFaulted ∧ s.word (slotBase 3 + 2) = 5 := by decide +kernel

theorem test_push_then_pop_restores :
    let s := after (.scenePush (slotItem [(1, 3), (6, 2), (10, 0), (21, 1)])) demo
    let t := after (.scenePop (slotItem [(1, 4)])) s
    s.scenes.length = 1 ∧ (s.source 0).mix.mute = false ∧ t.scenes = [] ∧ (t.source 0).mix.mute = true := by
  decide +kernel

theorem test_survey_start_writes_header :
    let s := after (.surveyStart (slotItem [(1, 7), (6, 1), (23, 5)])) demo
    s.survey.phase = .muting ∧ s.word 0x2800 = 1 ∧ s.word 0x2801 = 5 ∧ s.word 0x2802 = 0xFFD8
      ∧ s.word 0x2813 = 0x7FFF ∧ s.portStatus = 0x13 := by decide +kernel

theorem test_bank_adopt_opens_adoption :
    let s := after (.bankAdopt (callItem [(1, 6), (6, 1), (22, 1)])) demo
    s.word 0x1800 = 1 ∧ (s.adoption.map (·.bank)) = some .bankB := by decide +kernel

theorem test_dropped_write_latches_address :
    let s := after (.hostWrite 0x2800 7) demo
    s.port.notice = 0x020 ∧ s.port.protectAddr = 0x2800 ∧ s.word 0x2800 = 0 := by decide +kernel

theorem test_two_bytes_make_one_write :
    let s := after (.byteWrite 5 .high 3) (after (.byteWrite 5 .low 0x21) { demo with port := { demo.port with width8 := true } })
    s.port.noticeMask = 0x321 ∧ s.port.writeLatch = none := by decide +kernel

theorem test_host_call_then_withdraw :
    (after (.hostCall 9) demo).port.callWord = 0x8009
      ∧ (after .callWithdraw (after (.hostCall 9) demo)).port.callWord = 9 := by decide +kernel

theorem test_snapshot_captures_then_writes :
    let s := after .snapshotTime { demo with meter := { demo.meter with periodCount := 50 } }
    let t := after .snapshotWrite s
    s.word 0x2C00 = 1 ∧ t.word 0x2C00 = 2 ∧ t.word 0x2C03 = 1 ∧ t.word 0x2C04 = 1 ∧ t.port.notice = 4 := by
  decide +kernel

/-! ### A state for the hypotheses of each statement -/

/-- An adoption of bank B with its parts validated. -/
def demoAdoption : Adoption :=
  { bank := .bankB, part := 8, staging := demoImage, clampCount := 0, firstClamp := 0, illegal := none,
    origin := .slot 1, claim := false }

/-- An adoption stopped by an illegal logic value. -/
def stoppedAdoption : Adoption := { demoAdoption with part := 3, illegal := some (.logic, 0x1C08) }

/-- A survey in a phase, with its counter. -/
def surveyAt (phase : SurveyPhase) (counter tail : Nat) : Survey :=
  { State.reset.survey with phase := phase, counter := counter, quiet := 64, settle := 64, measure := 64, tail := tail,
                            origin := .slot 2 }

/-- One entry and its own survey, or none. -/
def demoWith (routes : List Entry) (survey : Survey) : State := { demo with routes := routes, survey := survey }

/-- A demo engine in 8-bit width. -/
def demo8 : State := { demo with port := { demo.port with width8 := true } }

/-- A fading entry. -/
def fadingEntry (progress unitLength : Nat) (pendingTarget : Option Nat) : Entry :=
  { demoEntry 0 0 with motion := .fading 100 progress unitLength pendingTarget, targetDelay := 100, gain := .code 0 }

theorem witness_StepTakesFrontCommand : State.reset.pending = [] := rfl

theorem witness_LinkEventsLoseAndRecover :
    let s := { demo with linkA := { lost := false, missing := 1, good := 0, lostInBlock := false },
                         linkB := { lost := true, missing := 2, good := 47, lostInBlock := true } }
    (s.link .inA).lost = false ∧ (s.link .inA).missing = 1 ∧ (s.link .inB).lost = true ∧ (s.link .inB).good = 47
      ∧ InLink.reset.lost = true ∧ InLink.reset.good < 47 := by decide +kernel

theorem witness_OutputFramesSendRoundedWords :
    State.reset.outIndex < 48 ∧ ({ demo with outIndex := 47 } : State).outIndex < 48 ∧ demo.outWidth16 0 = false
      ∧ ({ demo with live := some { bank := .bankA, copy := { demoBank with
            globals := { demoBank.globals with out16C := true } } } } : State).outWidth16 23 = true
      ∧ exec .outputFrame demo = .next (after .outputFrame demo) := ⟨by decide, by decide, by decide, by decide, rfl⟩

theorem witness_BlockStartBeginsBlock :
    State.reset.port.resetRequest = false ∧ State.reset.lostBlock 0 = true ∧ State.reset.lostBlock 15 = true
      ∧ (State.reset.source 0).gate ≠ .lost
      ∧ (sound demo).lostBlock 0 = false ∧ ((sound demo).source 0).floor = none := by decide +kernel

theorem witness_BlockStartBeginsBlock_floors :
    let s := sound (withSource 1 (fun x => { x with floor := some (-193), rise := 255 })
      (withSource 2 (fun x => { x with floor := some (-192), rise := 254 })
        (withSource 3 (fun x => { x with floor := some (-191), rise := 7 }) demo)))
    levelOf (squareSum ((s.source 1).line.take 48)) 48 = -192 ∧ levelOf (squareSum ((s.source 2).line.take 48)) 48 = -192
      ∧ levelOf (squareSum ((s.source 3).line.take 48)) 48 < -191 ∧ (s.source 1).rise = 255 ∧ (s.source 2).rise < 255
      ∧ s.port.resetRequest = false ∧ s.lostBlock 1 = false := by decide +kernel

/-- A gate that leaves LOST. -/
theorem witness_BlockStartBeginsBlock_recovery :
    let s := sound (withSource 4 (fun x => { x with gate := .lost }) demo)
    (s.source 4).gate = .lost ∧ s.lostBlock 4 = false ∧ s.port.resetRequest = false
      ∧ (after (.blockStart someRaces) s).noticed .gate = true
      ∧ ((after (.blockStart someRaces) s).source 4).gate = .closed
      ∧ (after (.blockStart someRaces) (sound State.reset)).running = false := by decide +kernel

theorem witness_BlockStartBeginsBlock_cues :
    let body := bodyOf [(1, 1), (6, 1), (7, 1), (9, 5)]
    let other := bodyOf [(1, 2), (6, 0x80), (8, 0x80), (17, 5)]
    let s := taking [slotItem [(1, 1), (6, 1), (7, 1), (9, 5)], slotItem [(1, 2), (6, 0x80), (8, 0x80), (17, 5)]] demo
    s.takeList.filterMap (·.body) = [body, other] ∧ bodyWord body 1 = 1 ∧ present body 2 = false ∧ bodyWord body 7 ≠ 0
      ∧ bodyWord other 1 = 2 ∧ present other 9 = false ∧ (bodyWord other 8).toNat % 256 ≠ 0
      ∧ s.adoption = none ∧ (s.copyInForce someRaces).isSome = true ∧ s.sweepPos = 33
      ∧ ((after (.blockStart someRaces) s).source 0).mix.fader = .code 5
      ∧ ((after (.blockStart someRaces) s).zone 23).mix.level = .code 5 := by decide +kernel

theorem witness_LevelIsRoundedDecibels : 0 < 48 ∧ 0 < 1 := by decide

theorem witness_BlockStartComposesTargets :
    let t := after (.blockStart someRaces) (demoWith [demoEntry 0 0] demo.survey)
    let u := after (.blockStart someRaces) (demoWith [demoEntry 0 0] (surveyAt .muting 0 8))
    (∃ e ∈ t.routes, e.lifecycle = .live) ∧ t.adopted.isSome = true ∧ t.surveying = false
      ∧ (∃ e ∈ u.routes, e.lifecycle = .live) ∧ u.surveying = true := by decide +kernel

theorem witness_BlockStartComposesTargets_motion :
    let slipping := { demoEntry 0 1 with gain := .code 0, delay := 96, targetDelay := 100 }
    let waiting := { demoEntry 0 2 with gain := .code 0, delay := 95, targetDelay := 100 }
    let fading := { demoEntry 0 3 with gain := .code 0, targetDelay := 100, motion := .fading 100 14 16 none }
    let ending := { demoEntry 0 4 with gain := .code 0, targetDelay := 100, motion := .fading 100 15 16 (some 104) }
    let s := taking [] (demoWith [demoEntry 0 0, slipping, waiting, fading, ending] demo.survey)
    s.port.resetRequest = false ∧ s.adoption = none ∧ s.sweepPos = 33 ∧ s.takeList = [] ∧ s.listsOrdered
      ∧ s.slipLimit = 4 ∧ (after (.blockStart someRaces) s).routes.map (fun e => (e.gain, e.motion, e.delay))
        = [(.off, .steady, 0), (.code (-4), .slipping, 97), (.code (-4), .fading 100 0 16 none, 95),
           (.code (-4), .fading 100 15 16 none, 0), (.code (-4), .slipping, 101)] := by decide +kernel

theorem witness_FloorRiseRaisesFloor :
    let s := withSource 3 (fun x => { x with floor := some (-24), rise := 255 }) demo
    let u := withSource 3 (fun x => { x with floor := some (-25), rise := 255 }) demo
    s.sources.length = 16 ∧ (s.source 3).floor = some (-24) ∧ (s.source 3).rise = 255
      ∧ (u.source 3).floor = some (-25) ∧ (u.source 3).rise = 255 := by decide +kernel

theorem witness_HoldExpirySettlesGate :
    let s := withSource 2 (fun x => { x with gate := .hold, holdCount := 1 }) demo
    let u := withSource 5 (fun x => { x with gate := .opened }) s
    s.sources.length = 16 ∧ s.adopted = some demoBank ∧ (s.source 2).gate = .hold
      ∧ (s.source 2).mix.force = .auto ∧ (s.source 2).holdCount = 1 ∧ demoBank.globals.lastOn = true
      ∧ (∀ j, j ≠ 2 → (s.source j).gate.counted = false) ∧ (u.source 2).gate = .hold
      ∧ (u.source 5).gate = .opened := ⟨by decide +kernel, rfl, by decide +kernel⟩

/-- A gate in HOLD beside another one. -/
theorem witness_HoldExpirySettlesGate_hold :
    let s := withSource 2 (fun x => { x with gate := .hold, holdCount := 1 })
      (withSource 5 (fun x => { x with gate := .hold, holdCount := 7 }) demo)
    (s.source 2).gate = .hold ∧ (s.source 5).gate ∈ [GateState.opened, .hold, .forcedOpen]
      ∧ ((after (.holdExpiry 2) s).source 2).gate = .closed ∧ (after (.holdExpiry 2) s).nom = 1 := by decide +kernel

/-- Two candidates, of which one is louder, and one gate in HOLD. -/
def someSteps : List GateStep :=
  allSources.map (fun i => if i = 3 ∨ i = 7 then .candidate else if i = 5 then .hold 4 else .settled .closed)

/-- More gates held than one place. -/
def overFull : List GateStep :=
  allSources.map (fun i => if i = 3 ∨ i = 7 then .opened else .settled .closed)

theorem witness_ArbiterKeepsPlaces :
    let level := fun i : Fin 16 => if i = 7 then (-20 : Int) else -40
    stepAt someSteps 7 = .candidate ∧ stepAt someSteps 3 = .candidate
      ∧ arbitrated 2 someSteps level 7 = .opened ∧ arbitrated 2 someSteps level 3 ≠ .opened
      ∧ (allSources.filter (fun i => (stepAt someSteps i).held)).length ≤ 2 ∧ (stepAt someSteps 5).held = true
      ∧ (stepAt someSteps 0).held = false ∧ stepAt someSteps 0 ≠ .candidate
      ∧ demo.lastAlone ∧ (after (.blockStart someRaces) demo).adopted.isSome = true
      ∧ 1 ≤ demoBank.globals.maxOpen
      ∧ (allSources.filter (fun i => (stepAt overFull i).held)).length = 2
      ∧ arbitrated 1 overFull level 7 = .opened ∧ arbitrated 1 overFull level 3 = .settled .closed
      ∧ demo.port.resetRequest = false ∧ demo.adoption = none ∧ demo.adopted.isSome = true := by decide +kernel

theorem witness_TargetDelayIsExact :
    demo.adopted = some demoBank
      ∧ rawDelay demoBank { source := 0, zone := 0 } (demo.source 0).pos = -1
      ∧ rawDelay demoBank { source := 0, zone := 1 } (demo.source 0).pos = 0
      ∧ rawDelay demoBank { source := 0, zone := 2 } (demo.source 0).pos = 16383
      ∧ rawDelay demoBank { source := 0, zone := 3 } (demo.source 0).pos = 16384
      ∧ ({ x := 2047, y := 1023 } : Position).legal := ⟨rfl, by decide +kernel⟩

theorem reset_line_length : Source.reset.line.length = 16384 + 95 := List.length_replicate

theorem witness_RouteSamplesReadTaps :
    Source.reset.line.length = 16384 + 95 ∧ (demoEntry 0 0).motion.isFading = false
      ∧ (demoEntry 0 0).delay ≤ 16383 ∧ (fadingEntry 15 16 none).motion = .fading 100 15 16 none
      ∧ delayLegal (fadingEntry 15 16 none).delay ∧ delayLegal 100 :=
  ⟨reset_line_length, by decide⟩

theorem witness_FadesAreGrantedAndEnd :
    let e := fadingEntry 15 16 (some 110)
    e.motion = .fading 100 15 16 (some 110) ∧ e.gain ≠ .off ∧ 15 + 1 = 16
      ∧ (fadingEntry 14 16 none).motion = .fading 100 14 16 none ∧ 14 + 1 < 16
      ∧ (demoWith [{ demoEntry 0 0 with motion := .awaitingFade }] demo.survey).routes[0]?
          = some { demoEntry 0 0 with motion := .awaitingFade }
      ∧ demo.slipLimit = 4 ∧ ((104 : Int) - 100).natAbs ≤ demo.slipLimit
      ∧ demo.slipLimit < ((105 : Int) - 100).natAbs := by decide +kernel

/-- A source heard at fader `f` with its gate in state `g`. -/
def heard (f : Int) (g : GateState) (s : State) : State :=
  withSource 0 (fun x => { x with mix := { x.mix with mute := false, fader := .code f }, gate := g }) s

/-- A zone at level `l`. -/
def zoneAt (l : Int) (s : State) : State :=
  s.setZone 0 { s.zone 0 with mix := { (s.zone 0).mix with mute := false, level := .code l } }

theorem witness_CompositionFollowsSteps :
    let s := zoneAt 24 (heard 24 .opened demo)
    (demo.source 0).mix.mute = true ∧ (s.source 0).mix.mute = false ∧ (s.zone 0).mix.mute = false
      ∧ (s.source 0).mix.fader = .code 24 ∧ (s.zone 0).mix.level = .code 24 ∧ (s.source 0).gate.counted = true
      ∧ demoBank.couplingOf { source := 0, zone := 0 } = some 0 ∧ demoBank.globals.offAttenuation ≠ 192
      ∧ couplingOfWord 0x7FFF = none ∧ couplingOfWord 192 = some 192
      ∧ -(192 : Int) - demoBank.globals.stabilityMargin < -192 := by decide +kernel

theorem witness_DuckedBelowHighestQualifier :
    let s := { zoneAt 0 (heard 0 .opened demo) with routes := [demoEntry 0 0] }
    let z := s.zone 0
    let u := s.setZone 0 { z with mix := { z.mix with duckMode := .atOrAbove, duckNumber := 0 } }
    u.qualifies demoBank 0 0 = true := by decide +kernel

theorem witness_GlideStepsOnceABlock :
    demo.port.resetRequest = false ∧ demo.adoption = none ∧ (demoWith [demoEntry 0 0] demo.survey).listsOrdered
      ∧ glideStep 4 .off (.code 0) ≠ .off ∧ glideStep 4 (.code (-192)) .off = .off
      ∧ demoEntry 0 0 ∈ (after (.blockStart someRaces) (demoWith [demoEntry 0 0] demo.survey)).routes := by
  decide +kernel

theorem witness_ZoneSumsFitAccumulator :
    let s := demoWith [demoEntry 0 0] demo.survey
    s.listsOrdered ∧ (∀ e ∈ s.routes, e.gain = .off ∧ e.targetGain = .off ∧ e.motion.isFading = false)
      ∧ (s.zoneSums 0).length = 48 := by decide +kernel

/-- Source 0 at full scale in a route at +24, which overflows. -/
def loud : State :=
  withSource 0 (fun x => { x with line := List.replicate (16384 + 95) 8388607 })
    (demoWith [{ demoEntry 0 0 with gain := .code 24 }] demo.survey)

theorem witness_ZoneSumsFitAccumulator_values :
    (∀ x ∈ demo.sources, x.line.length = 16384 + 95) ∧ demo.sources.length = 16 ∧ demo.delaysLegal := by
  refine ⟨?_, rfl, fun e he => absurd he (List.not_mem_nil)⟩
  intro x hx
  obtain rfl : x = Source.reset := List.eq_of_mem_replicate hx
  exact reset_line_length

theorem witness_ZoneSumsFitAccumulator_blocks :
    let probing := demoWith [] (surveyAt .probeMeasure 3 8)
    loud.port.resetRequest = false ∧ (∃ v ∈ loud.zoneSums 0, 8388607 < v) ∧ (∀ v ∈ loud.zoneSums 1, v = 0)
      ∧ ((after (.blockStart someRaces) loud).zone 0).clipCount = 1
      ∧ probing.port.resetRequest = false ∧ probing.survey.phase = .probeMeasure ∧ probing.survey.zone = 0
      ∧ (taking [] probing).takeList = []
      ∧ ({ demo with port := { demo.port with resetRequest := true } } : State).port.resetRequest = true := by
  decide +kernel

/-- Every zone under logic AND with no window enabled, which admits all 384 pairs, beside one entry. -/
def crowded : State :=
  { demoWith [demoEntry 0 0, demoEntry 15 23] demo.survey with
    live := some { bank := .bankA,
                   copy := { demoBank with zones := demoBank.zones.map (fun z => { z with logicAnd := true }) } } }

theorem witness_RebuildBringsListIntoLine :
    crowded.listsOrdered ∧ crowded.admittedNow.length = 384 ∧ crowded.rebuildRoutes.routes.length = 160
      ∧ crowded.rebuildRoutes.unserved.length = 224
      ∧ crowded.rebuildRoutes.unserved.head? = some { source := 6, zone := 15 } := by decide +kernel

/-- A RETIRING entry at OFF. -/
def gone (i : Fin 16) (z : Fin 24) : Entry := { demoEntry i z with lifecycle := .retiring }

theorem witness_RouteRemovalAdmitsUnserved :
    ∃ e ∈ (demoWith [demoEntry 0 0, gone 0 1] demo.survey).routes, e.lifecycle = .retiring ∧ e.gain = .off := by
  decide

/-- A block start whose ended block leaves one entry RETIRING at OFF, one falling to OFF and one silent, with nothing
asked for, with a rebuild asked for, and at the end of a survey. -/
def removing (s : State) : State :=
  taking [] (sound { s with
    routes := [gone 0 0, { gone 0 1 with gain := .code (-192) }, demoEntry 0 2, { gone 0 3 with gain := .code 5 }] })

theorem witness_RouteRemovalAdmitsUnserved_block :
    let asking := { removing crowded with rebuild := .requested }
    let ending := { removing crowded with survey := surveyAt .tail 7 8 }
    let deferred := { asking with survey := surveyAt .quiet 0 8 }
    (removing crowded).port.resetRequest = false ∧ (removing crowded).adoption = none ∧ (removing crowded).sweepPos = 33
      ∧ (removing crowded).takeList = [] ∧ (removing crowded).rebuild ≠ .forced ∧ (removing crowded).listsOrdered
      ∧ ((removing crowded).copyInForce someRaces).isSome = true
      ∧ (after (.blockStart someRaces) (removing crowded)).routes.map (fun e => (e.pair.zone, e.lifecycle))
          = [(2, .live), (3, .retiring)]
      ∧ (after (.blockStart someRaces) asking).routes.length = 160
      ∧ (after (.blockStart someRaces) asking).unserved.length = 224
      ∧ (after (.blockStart someRaces) asking).noticed .routeFull = true
      ∧ (after (.blockStart otherRaces) ending).routes.length = 160
      ∧ (after (.blockStart someRaces) deferred).routes.length = 2
      ∧ (after (.blockStart someRaces) deferred).rebuild = .requested := by decide +kernel

theorem witness_LoadWithinBudget :
    demo.sources.length = 16 ∧ demo.listsOrdered ∧ demo.fadesWithinPool ∧ demo.load = 256 := by decide +kernel

theorem witness_OutcomeIsWritten : demo.mem.wf := by decide

/-- A take list with a cue of every kind and a call without a body, at block 0x20000. -/
def everyKind : State :=
  taking
    [{ slotItem [(1, 3), (6, 1), (9, 7), (21, 6)] with origin := .slot 0 },
     { slotItem [(1, 1), (6, 0x40), (7, 1), (15, 100)] with origin := .slot 1 },
     { slotItem [(1, 2), (6, 0x80), (7, 9), (17, 40)] with origin := .slot 2 },
     { slotItem [(1, 4)] with origin := .slot 3 }, { slotItem [(1, 5)] with origin := .slot 4 },
     { slotItem [(1, 9)] with origin := .slot 5 }, { slotItem [(1, 7), (6, 1), (23, 3)] with origin := .slot 6 },
     { slotItem [(1, 6), (6, 1), (22, 1)] with origin := .slot 7 }, { slotItem [(1, 8)] with origin := .slot 8 }, bareCall]
    (sound { demo with block := 0x1FFFF })

theorem witness_OutcomeIsWritten_block :
    let t := after (.blockStart someRaces) everyKind
    everyKind.mem.wf ∧ everyKind.adoption = none ∧ everyKind.sweepPos = 33
      ∧ everyKind.takeList.map cueCommand = (everyKind.takeList.zip [Instr.scenePush, .sourceSet, .zoneSet, .scenePop,
          .sceneClear, .badKind, .surveyStart, .bankAdopt, .surveyAbort, .badKind]).map (fun p => p.2 p.1)
      ∧ [0, 1, 2, 3, 4, 5, 6, 7, 8].map (fun k => (t.word (slotBase k), t.word (slotBase k + 2), t.word (slotBase k + 3)))
        = [(3, 0, 0), (3, 0, 0), (3, 1, 2), (3, 0, 0), (3, 0, 0), (4, 2, 9), (4, 12, 0), (4, 6, 0), (3, 0, 0)]
      ∧ t.word (slotBase 8 + 4) = 0 ∧ t.word (slotBase 8 + 5) = 2 ∧ t.port.callResult = 5
      ∧ (t.source 1).mix.fader = .off ∧ (t.source 0).pos.x = 100 ∧ (t.zone 3).mix.level = .off ∧ t.scenes = []
      ∧ t.survey.phase = .idle ∧ t.word 0x2800 = 3 ∧ t.adoption = none := by decide +kernel

/-- A completion due at a block start with a SURVEY_ABORT, in both orders (R127; log 1). -/
theorem test_completion_and_abort_orders :
    let s := { taking [slotItem [(1, 8)]] (sound (demoWith [] (surveyAt .tail 7 8))) with block := 7 }
    s.survey.over = false ∧ Survey.over { s.survey with counter := 8 } = true
      ∧ (after (.blockStart someRaces) s).word 0x2800 = 2 ∧ (after (.blockStart someRaces) s).word (slotBase 3 + 2) = 9
      ∧ (after (.blockStart otherRaces) s).word 0x2800 = 3 ∧ (after (.blockStart otherRaces) s).word (slotBase 3 + 2) = 0
      ∧ (after (.blockStart otherRaces) { s with takeList := [] }).word 0x2800 = 2
      ∧ (after (.blockStart otherRaces) { s with takeList := [] }).word (slotBase 2 + 4) = 8 := by decide +kernel

/-- Bodies that fail each check, by the boundary value of the field that fails it. -/
theorem witness_CueChecksFault :
    State.reset.running = false ∧ demo.running = true ∧ bareCall.body = none
      ∧ (let b := bodyOf [(6, 4), (11, 3)]; present b 2 = true ∧ 2 < (bodyWord b 11).toNat)
      ∧ (let b := bodyOf [(6, 4), (11, 2)]; present b 2 = true ∧ (bodyWord b 11).toNat ≤ 2 ∧ bodyWord b 7 = 0)
      ∧ (let b := bodyOf [(6, 0x200), (19, 4)]; present b 9 = true ∧ 3 < (bodyWord b 19).toNat ∧ present b 2 = false)
      ∧ (let b := bodyOf [(6, 0x200), (8, 0x100), (19, 3)]; present b 9 = true ∧ (bodyWord b 19).toNat ≤ 3 ∧ bodyWord b 7 = 0 ∧ (bodyWord b 8).toNat % 256 = 0)
      ∧ (let b := bodyOf [(6, 0x40)]; present b 6 = true ∧ bodyWord b 21 = 0)
      ∧ ({ demo with scenes := List.replicate 4 demo.currentScene } : State).scenes.length = 4
      ∧ demo.scenes = []
      ∧ (let b := bodyOf [(6, 1), (23, 24)]; present b 0 = true ∧ 23 < (bodyWord b 23).toNat)
      ∧ (let b := bodyOf [(6, 1), (23, 23)]; present b 0 = true ∧ (bodyWord b 23).toNat ≤ 23)
      ∧ (demoWith [] (surveyAt .muting 0 8)).surveying = true
      ∧ ({ demo with adoption := some demoAdoption } : State).adoption ≠ none
      ∧ (let b := bodyOf [(6, 1), (22, 2)]; present b 0 = true ∧ 1 < (bodyWord b 22).toNat)
      ∧ (let b := bodyOf [(6, 1), (22, 0)]; namedBank b = some .bankA) ∧ demo.liveBank = some .bankA
      ∧ (let b := bodyOf [(6, 1), (22, 1)]; namedBank b = some .bankB ∧ demo.liveBank ≠ some .bankB)
      ∧ demo.surveying = false := by decide +kernel

theorem witness_IntakeSweepTakesPosted :
    let s := after (.hostCall 2) (after (.slotPost 31) (after (.slotPost 0) demo))
    let u := { s with hold := .abortOnly, mem := s.mem.writeAll [(slotBase 0 + 1, 8)] }
    s.mem.wf ∧ s.sweepPos = 0 ∧ s.takeList = [] ∧ s.port.callPending = true ∧ s.hold = .takeAll
      ∧ s.word (slotBase 0) = 1 ∧ s.word (slotBase 31) = 1 ∧ s.word (slotBase 1) ≠ 1
      ∧ u.mem.wf ∧ u.word (slotBase 0 + 1) = 8 ∧ u.hold = .abortOnly := by decide +kernel

/-- A sweep in two parts, and one that a block start finishes. -/
theorem witness_IntakeSweepTakesPosted_part :
    let s := after (.hostCall 2) (after (.slotPost 31) (after (.slotPost 0) demo))
    let half := after (.intakeSweep 2) s
    let late := after (.slotPost 5) (after (.slotPost 0) half)
    half.mem.wf ∧ half.sweepPos = 2 ∧ half.takeList.map (·.origin) = [.call, .slot 0] ∧ half.sweepPos ≤ 33
      ∧ (after (.intakeSweep 33) late).takeList.map (·.origin) = [.call, .slot 0, .slot 5, .slot 31]
      ∧ (after (.intakeSweep 33) late).sweepPos = 33
      ∧ (after (.intakeSweep 4) late).takeList.map (·.origin) = [.call, .slot 0] ∧ half.calledKind = 0
      ∧ (after (.blockStart someRaces) half).word (slotBase 31) = slotFaulted := by decide +kernel

theorem witness_SourceSetAppliesFields :
    let moving := bodyOf [(1, 1), (6, 0x40), (7, 0x8000), (15, 9)]
    let still := bodyOf [(1, 1), (6, 1), (7, 1), (9, 5)]
    demo.mem.wf ∧ demo.running = true ∧ demo.rebuild = .none ∧ bodyWord still 7 ≠ 0 ∧ bodyWord moving 7 ≠ 0
      ∧ present moving 2 = false ∧ applyPosition moving (demo.source 15).pos ≠ (demo.source 15).pos
      ∧ applyPosition still (demo.source 0).pos = (demo.source 0).pos ∧ demo.surveying = false
      ∧ (demoWith [] (surveyAt .quiet 0 8)).surveying = true
      ∧ (∃ e ∈ (demoWith [demoEntry 15 0] demo.survey).routes, e.pair.source = 15 ∧ e.motion.isFading = false)
      ∧ (∃ e ∈ (demoWith [{ fadingEntry 3 16 none with pair := { source := 15, zone := 0 } }] demo.survey).routes,
          e.pair.source = 15 ∧ e.motion = .fading 100 3 16 none) := by decide +kernel

/-- A list kept, one rebuilt for an earlier request, and one whose request a survey defers. -/
theorem witness_settledFrom :
    let still := slotItem [(1, 1), (6, 1), (7, 1), (9, 5)]
    let asking := { crowded with rebuild := .requested }
    let deferred := { asking with survey := surveyAt .quiet 0 8 }
    (after (.sourceSet still) crowded).routes.length = 2 ∧ (after (.sourceSet still) asking).routes.length = 160
      ∧ (after (.sourceSet still) asking).rebuild = .none ∧ (after (.sourceSet still) deferred).routes.length = 2
      ∧ (after (.sourceSet still) deferred).rebuild = .requested
      ∧ (after (.sourceSet still) deferred).hold = .abortOnly := by decide +kernel

/-- Words of a fader at every end of its ranges, and the bits, positions and flags at theirs. -/
theorem witness_sourceFieldsByTable :
    let body := fun w : Word => bodyOf [(6, 1), (9, w)]
    ([0x8000, 0x8001, 0xFF3F, 0xFF40, 0x0018, 0x0019] : List Word).map (·.toInt) = [-32768, -32767, -193, -192, 24, 25]
      ∧ ([0x8000, 0x8001, 0xFF3F, 0xFF40, 0x0018, 0x0019].map (fun w => (applySourceFields (body w) .rest).fader))
          = [.off, .off, .off, .code (-192), .code 24, .code 24]
      ∧ ([0x8000, 0x8001, 0xFF3F, 0xFF40, 0x0018, 0x0019].map (fun w => sourceClamps (body w))) = [0, 1, 1, 0, 0, 1]
      ∧ sourceClamps (bodyOf [(6, 0x7F), (12, 8), (13, 7), (15, 2048), (16, 1024)]) = 2
      ∧ applyPosition (bodyOf [(6, 0x40), (15, 2048), (16, 1023)]) { x := 1, y := 1 } = { x := 2047, y := 1023 } := by
  decide +kernel

theorem witness_zoneFieldsByTable :
    zoneClamps (bodyOf [(6, 0x480), (17, 25), (20, 8)]) = 2 ∧ zoneClamps (bodyOf [(6, 0x480), (17, 24), (20, 7)]) = 0
      ∧ applyZoneFields (bodyOf [(6, 0x780), (17, 0x8001), (18, 2), (19, 3), (20, 9)]) .rest
        = { level := .off, mute := true, duckMode := .marked, duckNumber := 7 } := by decide +kernel

theorem witness_ZoneSetAppliesFields :
    let b := bodyOf [(1, 2), (6, 0x80), (8, 0x80), (17, 5)]
    demo.mem.wf ∧ demo.running = true ∧ present b 9 = false ∧ (bodyWord b 8).toNat % 256 ≠ 0
      ∧ demo.rebuild = .none ∧ demo.nomCounts ∧ demo.lastAlone := by decide +kernel

theorem witness_ScenePushSavesThenSets :
    let b := bodyOf [(1, 3), (6, 0x82), (7, 1), (10, 1), (17, 3), (21, 1)]
    demo.mem.wf ∧ demo.running = true ∧ present b 2 = false ∧ present b 9 = false ∧ bodyWord b 21 ≠ 0
      ∧ bodyWord b 7 ≠ 0 ∧ demo.scenes.length < 4
      ∧ ({ demo with scenes := List.replicate 3 demo.currentScene } : State).scenes.length < 4
      ∧ demo.rebuild = .none ∧ applyPosition b (demo.source 0).pos = (demo.source 0).pos
      ∧ (let moving := bodyOf [(1, 3), (6, 0x40), (15, 9), (21, 1)]
         present moving 2 = false ∧ bodyWord moving 21 ≠ 0
          ∧ applyPosition moving (demo.source 0).pos ≠ (demo.source 0).pos) := by decide +kernel

theorem witness_ScenePopRestoresMix :
    let s := { demo with scenes := [demo.currentScene] }
    s.mem.wf ∧ s.running = true ∧ s.scenes = [demo.currentScene] ∧ demo.currentScene.sources.length = 16
      ∧ demo.currentScene.zones.length = 24 ∧ s.rebuild = .none := by decide +kernel

/-- A LAST gate, a HOLD gate, a LOST one and a forced one. -/
def mixedGates (s : State) : State :=
  withSource 0 (fun x => { x with gate := .last })
    (withSource 1 (fun x => { x with gate := .hold, holdCount := 9 })
      (withSource 2 (fun x => { x with gate := .lost })
        (withSource 3 (fun x => { x with gate := .forcedOpen, mix := { x.mix with force := .opened } }) s)))

/-- The scene forces source 3 as it is forced, or lets it go; with it forced the LAST gate closes. -/
theorem witness_ScenePopRestoresMix_last :
    let kept := (mixedGates demo).currentScene
    let s := { mixedGates demo with scenes := [kept] }
    let u := { mixedGates demo with scenes := [demo.currentScene] }
    s.scenes = [kept] ∧ kept.sources.length = 16 ∧ kept.zones.length = 24
      ∧ ((after (.scenePop (slotItem [(1, 4)])) s).source 0).gate = .closed
      ∧ ((after (.scenePop (slotItem [(1, 4)])) u).source 0).gate = .last
      ∧ ((after (.scenePop (slotItem [(1, 4)])) u).source 1).holdCount = 9
      ∧ ((after (.scenePop (slotItem [(1, 4)])) u).source 3).gate = .closed := by decide +kernel

theorem witness_SceneClearEmptiesStack :
    demo.mem.wf ∧ demo.running = true ∧ State.reset.running = false ∧ (slotItem [(1, 5)]).body = some (bodyOf [(1, 5)]) :=
  by decide

theorem witness_BankAdoptBeginsAdoption :
    let b := bodyOf [(1, 6), (6, 1), (22, 1)]
    demo.mem.wf ∧ present b 0 = true ∧ bodyWord b 22 = 1 ∧ demo.liveBank ≠ some .bankB ∧ demo.adoption = none
      ∧ demo.marks.adoptionEnded = false ∧ demo.surveying = false := by decide +kernel

theorem witness_SurveyStartEntersMuting :
    let b := bodyOf [(1, 7), (6, 1), (23, 23)]
    demo.mem.wf ∧ demo.adopted = some demoBank ∧ present b 0 = true ∧ (bodyWord b 23).toNat ≤ 23
      ∧ demo.surveying = false ∧ demo.adoption = none ∧ demo.marks.adoptionEnded = false ∧ demo.rebuild = .none :=
  ⟨by decide, rfl, by decide +kernel⟩

theorem witness_SurveyStartEntersMuting_clamps :
    surveyClamps (bodyOf [(6, 3), (24, 0xFF87)]) = true ∧ surveyClamps (bodyOf [(6, 3), (24, 0xFF88)]) = false
      ∧ surveyClamps (bodyOf [(6, 5), (25, 63)]) = true ∧ surveyClamps (bodyOf [(6, 0x11), (27, 4096)]) = false
      ∧ surveyClamps (bodyOf [(6, 0x21), (28, 8193)]) = true := by decide +kernel

theorem witness_SurveyAbortEndsSurvey :
    let s := demoWith [] (surveyAt .probeMeasure 3 8)
    s.mem.wf ∧ s.surveying = true ∧ s.running = true ∧ (slotItem [(1, 8)]).origin ≠ s.survey.origin
      ∧ s.survey.origin = .slot 2 ∧ s.zones.length = 24 ∧ s.marks.probedZone ≠ some s.survey.zone
      ∧ (callItem [(1, 8)]).origin = .call ∧ (callItem [(1, 8)]).claim = true := by decide +kernel

/-- A survey of zone 5 begun by CALL whose claim a port initialise has cleared, in a block start that follows one of its
PROBE blocks. -/
def calledSurvey : State :=
  { demoWith [] { surveyAt .probeMeasure 3 8 with zone := 5, origin := .call, claim := false } with
    marks := { demo.marks with probedZone := some 5 } }

theorem witness_SurveyAbortEndsSurvey_call :
    calledSurvey.mem.wf ∧ calledSurvey.surveying = true ∧ calledSurvey.running = true
      ∧ calledSurvey.zones.length = 24 ∧ (callItem [(1, 8)]).origin = calledSurvey.survey.origin
      ∧ calledSurvey.marks.probedZone = some calledSurvey.survey.zone
      ∧ (after (.surveyAbort (callItem [(1, 8)])) calledSurvey).port.callResult = 0
      ∧ ((after (.surveyAbort (callItem [(1, 8)])) calledSurvey).zone 5).waiting = List.replicate 48 0 := by
  decide +kernel

theorem witness_SurveyPhasesAdvance :
    (demoWith [demoEntry 0 0] (surveyAt .muting 0 8)).survey.phase = .muting
      ∧ (demoWith [] (surveyAt .muting 0 8)).marks.surveyBegan = false ∧ (demoEntry 0 0).gain = .off
      ∧ (surveyAt .quiet 64 8).counter = (surveyAt .quiet 64 8).quiet
      ∧ (surveyAt .probeSettle 64 8).counter = (surveyAt .probeSettle 64 8).settle
      ∧ (surveyAt .probeMeasure 64 8).counter = (surveyAt .probeMeasure 64 8).measure
      ∧ (surveyAt .probeMeasure 64 8).tail ≠ 0 ∧ demo.rebuild = .none := by decide

/-- A block start with the sweep made and nothing taken, in a phase with its counter. -/
def inPhase (phase : SurveyPhase) (counter tail : Nat) : State :=
  taking [] (sound (demoWith [demoEntry 0 0] (surveyAt phase counter tail)))

theorem witness_SurveyPhasesAdvance_block :
    (inPhase .quiet 62 8).port.resetRequest = false ∧ (inPhase .quiet 62 8).sweepPos = 33
      ∧ (inPhase .quiet 62 8).takeList = [] ∧ (inPhase .quiet 62 8).survey.phase = .quiet
      ∧ (inPhase .quiet 62 8).survey.counter + 1 < (inPhase .quiet 62 8).survey.quiet
      ∧ (inPhase .quiet 63 8).survey.quiet ≤ (inPhase .quiet 63 8).survey.counter + 1
      ∧ 0 < (inPhase .probeSettle 63 8).survey.measure
      ∧ (inPhase .probeSettle 63 8).survey.settle ≤ (inPhase .probeSettle 63 8).survey.counter + 1
      ∧ (inPhase .probeMeasure 63 0).survey.tail = 0 ∧ (inPhase .probeMeasure 63 1).survey.tail ≠ 0
      ∧ (inPhase .tail 0 1).survey.tail ≤ (inPhase .tail 0 1).survey.counter + 1
      ∧ (inPhase .tail 0 2).survey.counter + 1 < (inPhase .tail 0 2).survey.tail := by decide +kernel

theorem test_block_start_counts_survey_block :
    let t := after (.blockStart someRaces) (withSource 4 (fun x => { x with line := List.replicate 48 (-3) ++ x.line })
      (inPhase .quiet 62 8))
    t.survey.counter = 63 ∧ t.survey.quietSums[4]? = some 432 ∧ t.survey.quietSums[5]? = some 0 := by decide +kernel

theorem test_block_start_ends_muting :
    let s := inPhase .muting 0 8
    (∀ e ∈ (after (.blockStart someRaces) s).routes, e.gain = .off)
      ∧ (after (.blockStart someRaces) s).survey.phase = .quiet
      ∧ (∃ e ∈ (after (.blockStart someRaces) { s with routes := [fadingEntry 3 16 none] }).routes, e.gain ≠ .off)
      ∧ (after (.blockStart someRaces) { s with routes := [fadingEntry 3 16 none] }).survey.phase = .muting := by
  decide +kernel

theorem witness_SurveyCompletes :
    let s := demoWith [] (surveyAt .tail 8 8)
    let u := demoWith [] (surveyAt .probeMeasure 64 0)
    s.mem.wf ∧ s.running = true ∧ s.survey.phase = .tail ∧ s.survey.counter = s.survey.tail
      ∧ u.survey.phase = .probeMeasure ∧ u.survey.counter = u.survey.measure ∧ u.survey.tail = 0 := by decide

theorem witness_ProbeFollowsRegister : (0xACE1 : Word) ≠ 0 ∧ probeMagnitude (-12) ≤ 8388607 := by decide +kernel

theorem witness_BankRejectReopensBank :
    let s := { demo with adoption := some stoppedAdoption }
    s.mem.wf ∧ s.adoption = some stoppedAdoption ∧ stoppedAdoption.illegal = some (.logic, 0x1C08) := by decide

theorem witness_SwitchOverInstallsBank :
    let s := { demo with adoption := some demoAdoption }
    s.mem.wf ∧ s.adoption = some demoAdoption ∧ demoAdoption.part = 8 ∧ demoAdoption.illegal = none
      ∧ s.liveBank ≠ some demoAdoption.bank ∧ s.liveBank = some .bankA ∧ s.surveying = false := by decide

/-- Gates of every kind, entries at rest and fading, and both kinds of origin. -/
theorem witness_SwitchOverInstallsBank_gates :
    let s := { mixedGates demo with routes := [demoEntry 0 0, fadingEntry 3 16 none],
                                    adoption := some { demoAdoption with origin := .call, claim := true } }
    s.mem.wf ∧ s.liveBank = some .bankA ∧ s.surveying = false ∧ (s.source 0).gate = .last ∧ (s.source 1).gate = .hold
      ∧ (demoEntry 0 0).motion.isFading = false ∧ (fadingEntry 3 16 none).motion = .fading 100 3 16 none
      ∧ demoAdoption.origin = .slot 1 ∧ ({ demoAdoption with origin := .call } : Adoption).claim = false := by
  decide +kernel

/-- Bank B of `demoImage` in validation, with other words beside it. -/
def validating (part : Nat) (others : List (Nat × Word)) : State :=
  taking [] (sound { demo with
    mem := demo.mem.writeAll (demoImage.map (fun c => (0x1800 + c.1, c.2)) ++ others)
    adoption := some { demoAdoption with part := part, staging := [] } })

theorem witness_ValidationExaminesField_block :
    let part := fun (n : Nat) (others : List (Nat × Word)) => (List.range 512).foldl
      (fun c k => c.examine (validating n others).mem (512 * n + k)) { demoAdoption with part := n, staging := [] }
    (validating 0 []).port.resetRequest = false ∧ (validating 0 []).sweepPos = 33 ∧ (validating 0 []).takeList = []
      ∧ (part 0 []).illegal = none ∧ (part 7 []).illegal = none
      ∧ (part 2 [(0x1C08, 2)]).illegal = some (.logic, 0x1C08) := by decide +kernel

/-- A block start whose ended block validates the last part of a bank B with hold blocks 3, a gain slope of 7, a slip limit of
9 and the fader of source 0 at -16. -/
def switching (s : State) : State :=
  { taking [] (sound s) with
    adoption := some { demoAdoption with
      part := 7
      staging := demoImage.writeAll [(0x11, 7), (0x13, 9), (0x17, 3), (0x42, 0xFFF0)] } }

/-- A pending engine reset. -/
def asked (s : State) : State := { s with port := { s.port with resetRequest := true } }

theorem witness_switch_over_at_block_start :
    (switching demo).adoptionRuns
      ∧ ((switching demo).port.resetRequest = false ∧ (switching demo).sweepPos = 33 ∧ (switching demo).takeList = []
        ∧ (switching demo).mem.wf ∧ (switching demo).listsOrdered ∧ (switching demo).switchesAt otherRaces = true
        ∧ ((switching demo).copyInForce otherRaces).isSome = true
        ∧ (switching (asked demo)).switchesAt otherRaces = false
        ∧ (switching (asked demo)).switchesAt someRaces = true
        ∧ ((switching { demo with live := none }).copyInForce someRaces).isSome = true) :=
  ⟨fun a h => by cases h; decide, by decide +kernel⟩

/-- A counter above the new hold blocks is lowered before its step, one at 1 expires, and neither is LAST beside a gate
that its unchanged force mode holds open (R16). -/
theorem test_switch_over_evaluates_with_new_bank :
    let s := switching (withSource 5 (fun x => { x with gate := .hold, holdCount := 1 }) (mixedGates demo))
    let t := after (.blockStart otherRaces) s
    t.liveBank = some .bankB ∧ (t.source 1).gate = .hold ∧ (t.source 1).holdCount = 2 ∧ (t.source 5).gate = .closed
      ∧ (t.source 3).gate = .closed ∧ (t.source 0).gate = .closed ∧ (t.source 0).mix.fader = .code (-16) := by
  decide +kernel

/-- Cues act on the mix that the switch-over has reloaded; routes glide by its slope and slip within its limit (R101,
R141). -/
theorem test_switch_over_precedes_cues_and_motion :
    let cue := slotItem [(1, 1), (6, 2), (7, 1), (10, 0)]
    let t := after (.blockStart otherRaces) { switching
      { demo with routes := [{ demoEntry 0 1 with gain := .code 3, targetGain := .code 24, delay := 9, targetDelay := 9 }] } with
      takeList := [cue] }
    (t.source 0).mix.fader = .code (-16) ∧ (t.source 0).mix.mute = false
      ∧ t.routes.map (fun e => (e.gain, e.motion, e.delay, e.targetDelay)) = [(.code 10, .slipping, 8, 0)] := by
  decide +kernel

/-- A switch-over and an engine reset at one block start, in both orders, and cues after them (R144, R156; log 1). -/
theorem test_reset_block_takes_orders :
    let cue := slotItem [(1, 1), (6, 2), (7, 1), (10, 0)]
    let t := fun r => after (.blockStart r) { switching (asked demo) with takeList := [cue] }
    (t someRaces).liveBank = some .bankB ∧ ((t someRaces).source 0).mix.fader = .code (-16)
      ∧ (t someRaces).word (slotBase 1 + 2) = 0 ∧ (t otherRaces).liveBank = some .bankA
      ∧ ((t otherRaces).source 0).mix.fader = .code 0 ∧ (t otherRaces).word (slotBase 1 + 2) = 11
      ∧ ((t otherRaces).source 0).mix.mute = false ∧ (t otherRaces).word 0x1800 = 0 := by decide +kernel

/-- Surveys and adoptions of every ending at a block start with a reset. -/
theorem witness_EngineResetClearsEngine_block :
    let ending := fun (phase : SurveyPhase) (counter tail : Nat) => asked (inPhase phase counter tail)
    let rejecting := asked (validating 2 [(0x1C08, 2)])
    (ending .tail 7 8).mem.wf ∧ (ending .tail 7 8).adoption = none ∧ (ending .tail 7 8).sweepPos = 33
      ∧ (ending .tail 7 8).takeList = [] ∧ (ending .tail 7 8).port.resetRequest = true
      ∧ (ending .tail 7 8).survey.tail ≤ (ending .tail 7 8).survey.counter + 1
      ∧ (after (.blockStart someRaces) (ending .tail 7 8)).word 0x2800 = 2
      ∧ (after (.blockStart otherRaces) (ending .tail 7 8)).word 0x2800 = 3
      ∧ (after (.blockStart someRaces) (ending .tail 6 8)).word 0x2800 = 3
      ∧ (after (.blockStart someRaces) (ending .probeMeasure 63 0)).word 0x2800 = 2
      ∧ rejecting.survey.phase = .idle ∧ rejecting.mem.wf
      ∧ (after (.blockStart someRaces) rejecting).word (slotBase 1 + 2) = 10
      ∧ (after (.blockStart someRaces) rejecting).word 0x1804 = 0x1C08
      ∧ (after (.blockStart otherRaces) rejecting).word (slotBase 1 + 2) = 11 := by decide +kernel

theorem test_block_start_examines_part :
    ((after (.blockStart someRaces) (validating 0 [(0x1811, 17)])).adoption.map (fun a => (a.part, a.clampCount, a.firstClamp)))
      = some (1, 1, 0x1811) := by decide +kernel

theorem witness_ValidationExaminesField :
    demoAdoption.staging.wf ∧ demoAdoption.illegal = none ∧ bankField 0x046 = .unsigned 0 7
      ∧ bankField 0x042 = .gain ∧ bankField 0x043 = .asItStands ∧ bankField 0x044 = .enumerated 2 .forceMode
      ∧ bankField 0x6E8 = .enumerated 1 .logic ∧ bankField 0x010 = .unsigned 53000 61000
      ∧ bankField 0x020 = .signed (-120) (-12) ∧ bankField 0x6E5 = .signed (-512) 511 ∧ bankField 0x6E2 = .gain
      ∧ bankField 0x0BA = .gain ∧ bankField 0x700 = .coupling ∧ bankField 0x87F = .coupling
      ∧ bankField 0x00F = .unlisted ∧ bankField 0x025 = .unlisted ∧ bankField 0x1D0 = .unlisted
      ∧ bankField 0x6FC = .unlisted ∧ bankField 0x880 = .unlisted := by decide +kernel

theorem witness_EngineResetClearsEngine :
    let s := { demo with port := { demo.port with resetRequest := true } }
    s.mem.wf ∧ s.port.resetRequest = true ∧ s.running = true ∧ State.reset.running = false := by decide

/-- A survey and an adoption of each origin that an engine reset ends. -/
theorem witness_EngineResetClearsEngine_outcomes :
    let asked := fun s : State => { s with port := { s.port with resetRequest := true } }
    let slotted := asked (demoWith [] (surveyAt .probeMeasure 3 8))
    let called := asked { demo with adoption := some { demoAdoption with origin := .call, claim := true } }
    slotted.mem.wf ∧ slotted.surveying = true ∧ slotted.survey.origin = .slot 2 ∧ slotted.adoption = none
      ∧ (asked calledSurvey).survey.origin = .call ∧ (asked calledSurvey).survey.claim = false
      ∧ called.surveying = false ∧ (called.adoption.map (·.origin)) = some .call
      ∧ (after .engineReset slotted).word (slotBase 2 + 2) = 11 ∧ (after .engineReset called).port.callResult = 11 := by
  decide +kernel

/-- A block start that is a snapshot time, one that is not, and one with a capture to write. -/
theorem witness_SnapshotsFillBuffers_block :
    let counted := fun (n : Nat) (c : Option Capture) => { demo with meter := { demo.meter with periodCount := n, capture := c } }
    (counted 49 none).mem.wf ∧ (after (.blockStart someRaces) (counted 49 none)).meterPeriod ≤ 49 + 1
      ∧ (after (.blockStart someRaces) (counted 48 none)).meter.periodCount = 49
      ∧ (after (.blockStart someRaces) (counted 49 none)).meter.capture.isSome = true
      ∧ (after (.blockStart someRaces) (counted 3 (some { buffer := .buffer1, words := [(1, 1)] }))).word 0x3000 = 2 := by
  decide +kernel

/-- A capture written at a snapshot time, whose buffer alone is free then. -/
theorem witness_SnapshotsFillBuffers_taken :
    let s := { demo with mem := demo.mem.writeAll [(0x2C00, 1), (0x3000, 3)],
                         meter := { demo.meter with periodCount := 49, capture := some { buffer := .buffer0, words := [(7, 9)] } } }
    let t := after (.blockStart someRaces) s
    s.mem.wf ∧ t.word 0x2C00 = 1 ∧ t.word 0x2C07 = 9 ∧ t.meter.capture.map (·.buffer) = some .buffer0
      ∧ t.meter.lastWritten = .buffer0 ∧ t.noticed .meter = true := by decide +kernel

theorem witness_SnapshotsFillBuffers :
    let s := { demo with meter := { demo.meter with periodCount := 50 } }
    let full := { s with mem := s.mem.writeAll [(0x2C00, 2), (0x3000, 2)] }
    let held := { s with mem := s.mem.writeAll [(0x2C00, 3), (0x3000, 3)] }
    s.mem.wf ∧ s.meter.periodCount = s.meterPeriod ∧ s.word (bufferBase .buffer0) = 0
      ∧ full.mem.wf ∧ full.word (bufferBase .buffer1) = 2 ∧ full.meter.lastWritten ≠ .buffer0
      ∧ held.mem.wf ∧ held.word (bufferBase .buffer0) = 3 ∧ held.word (bufferBase .buffer1) = 3 := by decide +kernel

theorem witness_SnapshotsFillBuffers_write :
    let words := demo.snapshotWords
    (words.map Prod.fst).Nodup ∧ ∀ w ∈ words, 0 < w.1 ∧ w.1 < 0x400 := by decide +kernel

theorem witness_SnapshotsFillBuffers_words :
    demo.meter.lastLevels[15]? = some (-192) ∧ demo.meter.peakLevels[15]? = some (-192)
      ∧ demo.meter.zonePeaks[23]? = some (-192)
      ∧ (demoWith [demoEntry 0 0] demo.survey).routes[0]? = some (demoEntry 0 0) := by decide +kernel

theorem witness_HostWriteIsJudged :
    demo.mem.wf ∧ 6 ≤ (0x1810 : Addr).toNat ∧ demo.hostMayWrite 0x1810 5 = true ∧ demo.hostMayWrite 0x810 5 = false
      ∧ demo.hostMayWrite 0x40 1 = true ∧ demo.hostMayWrite 0x42 1 = false ∧ demo.hostMayWrite 6 1 = false
      ∧ demo.hostMayWrite 0x3FFF 1 = false := by decide +kernel

/-- Words with every other bit set, at the registers, in both widths. -/
theorem witness_HostWriteIsJudged_registers :
    let busy : State := { demo8 with port := { demo8.port with callPending := true, readLatch := some (3, 5) } }
    (0x7FF2 : Word).getLsbD 0 = false ∧ (0xFFFF : Word).getLsbD 0 = true ∧ (0xFFFF : Word).getLsbD 15 = true
      ∧ (0x7FFF : Word).getLsbD 15 = false ∧ demo.port.callPending = false ∧ demo.port.callResult ≠ 15
      ∧ busy.port.callPending = true ∧ (after (.hostWrite 0 0x7FF3) busy).port.controlWord = 0x8002
      ∧ (after (.hostWrite 0 0x7FF3) busy).port.callWord = 0
      ∧ (after (.hostWrite 0 0x800C) demo).port.controlWord = 0xC ∧ (after (.hostWrite 0 8) busy).port.readLatch = none
      ∧ (after (.hostWrite 3 0xFFF6) demo).port.callWord = 0x8006 ∧ (after (.hostWrite 3 0x7FFF) busy).port.callWord = 0
      ∧ (after (.hostWrite 3 0x7FFF) demo).port.protectAddr = 3 := by decide +kernel

theorem witness_GuardedWordCommands :
    demo.mem.wf ∧ demo.word (0x40 + 32 * 31) = 0
      ∧ (∃ m : Memory, m.wf ∧ m.read 0x2C00 = 2 ∧ m.read 0x3000 = 3 ∧ m.read 0x40 = 4) :=
  ⟨by decide, by decide, [(0x40, 4), (0x2C00, 2), (0x3000, 3)], by decide⟩

theorem witness_CallCommands :
    demo.port.callPending = false ∧ demo.port.callResult ≠ 15 ∧ (after (.hostCall 2) demo).port.callPending = true
      ∧ ({ demo with port := { demo.port with callResult := 15 } } : State).port.callResult = 15 := by decide +kernel

theorem witness_ByteAccesses :
    demo.port.width8 = false ∧ demo8.port.width8 = true
      ∧ (after (.byteWrite 5 .low 3) demo8).port.writeLatch = some (5, 3)
      ∧ (∀ staged, demo8.port.writeLatch ≠ some (5, staged))
      ∧ (after (.byteRead 6 .low) demo8).port.readLatch = some (6, 0x1624)
      ∧ (∀ w, demo8.port.readLatch ≠ some (6, w)) := by
  refine ⟨rfl, rfl, by decide +kernel, ?_, by decide +kernel, ?_⟩ <;> intro x h <;> cases h

/-- The fields of PORT_STATUS at their ends, and the words at the ends of the regions. -/
theorem witness_ByteAccesses_reads :
    let s := { inPhase .probeSettle 0 0 with scenes := List.replicate 4 demo.currentScene, hold := .takeNone }
    s.scenes.length ≤ 4 ∧ s.hostRead 1 = 0x633 ∧ 7 ≤ (0x3FFF : Addr).toNat
      ∧ ([0x3F, 0x40, 0x43F, 0x440, 0x7FF, 0x800, 0x29FF, 0x2A00, 0x2BFF, 0x2C00, 0x33FF, 0x3400].map (fun n =>
          ({ s with mem := [(n, 5)] } : State).hostRead (BitVec.ofNat 14 n)))
        = [0, 5, 5, 0, 0, 5, 5, 0, 0, 5, 5, 0] := by decide +kernel

/-- A queued command whose step answers a next state, from a state that meets every invariant but that of the shape,
which `witness_ShapeStays` shows. -/
def queued : State := { demo with pending := [.floorRise 0] }

theorem witness_steps_answer : step queued = .next (after (.floorRise 0) demo) := rfl

theorem witness_MemoryStaysCanonical : queued.mem.wf := by decide

theorem witness_ShapeStays : queued.sources.length = 16 ∧ queued.zones.length = 24
    ∧ (∀ x ∈ queued.sources, x.line.length = 16384 + 95) ∧ (∀ z ∈ queued.zones, z.waiting.length = 48)
    ∧ queued.delaysLegal := by
  refine ⟨rfl, rfl, ?_, by decide +kernel, fun e he => absurd he (List.not_mem_nil)⟩
  intro x hx
  obtain rfl : x = Source.reset := List.eq_of_mem_replicate hx
  exact reset_line_length

theorem witness_RouteValuesStayInRange :
    queued.delaysLegal ∧ queued.fadesAimed ∧ queued.gainsLegal :=
  ⟨fun _ h => absurd h List.not_mem_nil, fun _ h => absurd h List.not_mem_nil, fun _ h => absurd h List.not_mem_nil⟩

theorem witness_CountersStayInRange : queued.countersLegal := by
  refine ⟨by decide, by decide, ?_, by decide, by decide, by decide, by decide +kernel, by decide⟩
  intro x hx
  obtain rfl : x = Source.reset := List.eq_of_mem_replicate hx
  exact ⟨by decide, fun v h => by cases h⟩

theorem witness_RouteListsStayOrdered : queued.listsOrdered ∧ queued.fadesWithinPool := by decide +kernel

theorem witness_GatesStayConsistent : queued.holdCountersRest ∧ queued.lastAlone ∧ queued.nomCounts := by
  decide +kernel

theorem witness_EnginePhasesStayConsistent :
    State.reset.noBankIdle ∧ queued.live ≠ none ∧ queued.sources.length = 16 ∧ queued.surveyOrAdoption
      ∧ queued.resetRebuilt := by
  decide +kernel

theorem witness_RunningEndsOnlyAtPowerOn :
    exec (.floorRise 0) queued = .next (after (.floorRise 0) queued) ∧ queued.running = true := ⟨rfl, by decide⟩

theorem witness_BankStatesStayTrue : queued.bankStatesAgree := by
  refine ⟨by decide, by decide, ?_, ?_, ?_⟩
  · intro c h
    cases h
  · intro b
    cases b <;> decide +kernel
  · intro a h
    cases h

theorem witness_BankStatesStayTrue_adoption :
    { switching demo with pending := [.outputFrame] }.adoptionRuns ∧ (switching demo).adoption.isSome = true :=
  ⟨fun a h => by cases h; decide, rfl⟩

/-- A gain's range, as a condition to be decided. -/
def gainInRange : Gain → Bool
  | .off => true
  | .code c => -192 ≤ c && c ≤ 24

theorem gain_legal_iff (g : Gain) : g.legal ↔ gainInRange g = true := by
  cases g <;> simp [Gain.legal, gainInRange]

theorem witness_SettingsStayLegal : queued.valuesLegal ∧ queued.noBankIdle ∧ queued.fadesRun := by
  refine ⟨⟨?_, ?_, ?_, ?_, ?_⟩, by decide +kernel, fun _ h => absurd h List.not_mem_nil⟩
  · intro b hb
    obtain rfl : demoBank = b := Option.some.inj hb
    refine ⟨by decide +kernel, by decide +kernel, ?_, ?_, by decide +kernel, by decide +kernel, by decide +kernel, ?_⟩
    · simp only [SourceMix.legal, gain_legal_iff]
      decide +kernel
    · simp only [ZoneRow.legal, ZoneMix.legal, gain_legal_iff]
      decide +kernel
    · intro c hc v hv
      have zero : ∀ c ∈ demoBank.coupling, c = some 0 := by decide +kernel
      cases hv.symm.trans (zero c hc)
      decide
  · intro a h
    cases h
  · simp only [SourceMix.legal, gain_legal_iff]
    decide +kernel
  · simp only [ZoneMix.legal, gain_legal_iff]
    decide +kernel
  · intro c h
    cases h

theorem witness_PortStaysConsistent : queued.callExclusive ∧ queued.latchesRest := by decide +kernel

end Sys2Proof.Tests
end

section
/-! What a step is made of: the operations that change the fields the invariants read, and one assembly of every
command from them, so that each invariant is proved operation by operation. -/

namespace Sys2Proof.Machine

/-! ### Changes that no invariant of the units reads -/

/-- `t` is `s` but for the queue, the block number, the marks, the memory, the port, the slots sent, the hold decision
and the take list. -/
def State.quietTo (s t : State) : Prop :=
  ∃ pending block marks mem port outSlots fillsTaken hold takeList,
    t = { s with pending := pending, block := block, marks := marks, mem := mem, port := port, outSlots := outSlots,
                 fillsTaken := fillsTaken, hold := hold, takeList := takeList }

theorem State.quietTo_rfl (s : State) : s.quietTo s := ⟨_, _, _, _, _, _, _, _, _, rfl⟩

theorem State.quietTo_trans {s t u : State} (h : s.quietTo t) (k : t.quietTo u) : s.quietTo u := by
  obtain ⟨_, _, _, _, _, _, _, _, _, rfl⟩ := h
  obtain ⟨_, _, _, _, _, _, _, _, _, rfl⟩ := k
  exact ⟨_, _, _, _, _, _, _, _, _, rfl⟩

theorem State.quietTo_raise (s : State) (n : Notice) : s.quietTo (s.raise n) := ⟨_, _, _, _, _, _, _, _, _, rfl⟩

theorem State.quietTo_raiseIf (s : State) (c : Bool) (n : Notice) : s.quietTo (s.raiseIf c n) := by
  unfold State.raiseIf
  split
  · exact s.quietTo_raise n
  · exact s.quietTo_rfl

theorem State.quietTo_storeAll (s : State) (cells : List (Nat × Word)) : s.quietTo (s.storeAll cells) :=
  ⟨_, _, _, _, _, _, _, _, _, rfl⟩

theorem State.quietTo_withPort (s : State) (p : Port) : s.quietTo (s.withPort p) := ⟨_, _, _, _, _, _, _, _, _, rfl⟩

theorem State.quietTo_marks (s : State) (m : Marks) : s.quietTo { s with marks := m } :=
  ⟨_, _, _, _, _, _, _, _, _, rfl⟩

theorem State.quietTo_outcome (s : State) (o : Origin) (claim : Bool) (code : ResultCode) (detail : Nat) :
    s.quietTo (s.outcome o claim code detail) := by
  unfold State.outcome
  (repeat' split) <;> exact ⟨_, _, _, _, _, _, _, _, _, rfl⟩

theorem State.quietTo_doneClamped (s : State) (item : CueItem) (clamps : Nat) :
    s.quietTo (s.doneClamped item clamps) := by
  unfold State.doneClamped
  split <;> exact s.quietTo_outcome ..

theorem State.quietTo_drop (s : State) (a : Addr) : s.quietTo (s.drop a) := by
  unfold State.drop
  refine State.quietTo_trans ?_ (State.quietTo_raise _ _)
  split
  · exact s.quietTo_rfl
  · exact s.quietTo_withPort _

theorem State.quietTo_examineCall (s : State) : s.quietTo s.examineCall := by
  unfold State.examineCall
  split <;> exact ⟨_, _, _, _, _, _, _, _, _, rfl⟩

theorem State.quietTo_examineSlot (s : State) (k : Fin 32) : s.quietTo (s.examineSlot k) := by
  unfold State.examineSlot
  split <;> exact ⟨_, _, _, _, _, _, _, _, _, rfl⟩

theorem State.quietTo_writeCall (s : State) (v : Word) : s.quietTo (s.writeCall v) := by
  unfold State.writeCall
  (repeat' split) <;> first | exact s.quietTo_withPort _ | exact s.quietTo_drop _

theorem State.quietTo_writeSlot (s : State) (k : Fin 32) (w : Nat) (a : Addr) (v : Word) :
    s.quietTo (s.writeSlot k w a v) := by
  have either : ∀ legal : Bool, s.quietTo (if legal then s.accept a v else s.drop a)
    | true => ⟨_, _, _, _, _, _, _, _, _, rfl⟩
    | false => s.quietTo_drop a
  exact either _

theorem State.quietTo_latchByte (s : State) (a : Addr) (l : Lane) : s.quietTo (s.latchByte a l) := by
  unfold State.latchByte
  (repeat' split) <;> exact s.quietTo_withPort _

/-! ### Checks that a cue passes -/

/-- No check fails exactly when every check holds. -/
theorem firstFault_none (checks : List (Bool × ResultCode × Nat)) :
    firstFault checks = none ↔ ∀ c ∈ checks, c.1 = false := by
  induction checks with
  | nil => simp [firstFault]
  | cons c rest ih =>
    obtain ⟨fails, code, detail⟩ := c
    cases fails <;> simp [firstFault, ih]

/-- A cue passes its checks exactly when it has a body and none of them fails (R166, R173). -/
theorem checkedBody_none (item : CueItem) (checks : List Word → List (Bool × ResultCode × Nat)) :
    checkedBody item checks = none ↔ ∃ body, item.body = some body ∧ ∀ c ∈ checks body, c.1 = false := by
  unfold checkedBody
  cases item.body <;> simp [firstFault_none]

theorem State.live_of_running {s : State} (h : (!s.running) = false) : s.live ≠ none := by
  simpa [State.running, Option.isSome_iff_ne_none] using h

theorem State.live_of_sourceSet {s : State} {item : CueItem} (h : s.sourceSetFault item = none) : s.live ≠ none := by
  obtain ⟨body, _, passed⟩ := (checkedBody_none _ _).1 h
  exact State.live_of_running (passed _ (List.mem_cons_self ..))

theorem State.live_of_scenePush {s : State} {item : CueItem} (h : s.scenePushFault item = none) :
    s.live ≠ none ∧ s.scenes.length < 4 := by
  obtain ⟨body, _, passed⟩ := (checkedBody_none _ _).1 h
  have room := passed (decide (Config.sceneCapacity ≤ s.scenes.length), .stackFull, 0) (by simp)
  exact ⟨State.live_of_running (passed _ (List.mem_cons_self ..)), by simpa using room⟩

theorem State.live_of_scenePop {s : State} {item : CueItem} (h : s.scenePopFault item = none) : s.live ≠ none := by
  obtain ⟨body, _, passed⟩ := (checkedBody_none _ _).1 h
  exact State.live_of_running (passed _ (List.mem_cons_self ..))

theorem State.free_of_surveyStart {s : State} {item : CueItem} (h : s.surveyStartFault item = none) :
    s.live ≠ none ∧ s.surveying = false ∧ s.adoption = none := by
  obtain ⟨body, _, passed⟩ := (checkedBody_none _ _).1 h
  have idle := passed (s.surveying, .busy, 0) (by simp)
  have free := passed (s.adoptionBusy, .busy, 0) (by simp)
  refine ⟨State.live_of_running (passed _ (List.mem_cons_self ..)), idle, ?_⟩
  simpa [State.adoptionBusy] using (Bool.or_eq_false_iff.1 free).1

theorem State.idle_of_bankAdopt {s : State} {item : CueItem} (h : s.bankAdoptFault item = none) :
    s.surveying = false := by
  obtain ⟨body, _, passed⟩ := (checkedBody_none _ _).1 h
  exact passed (s.surveying, .busy, 0) (by simp)

theorem State.surveying_of_surveyAbort {s : State} {item : CueItem} (h : s.surveyAbortFault item = none) :
    s.surveying = true := by
  obtain ⟨body, _, passed⟩ := (checkedBody_none _ _).1 h
  simpa using passed (!s.surveying, .notRunning, 0) (by simp)

/-! ### An invariant kept by every operation -/

/-- The levels handed on lie in -192..0 (R7). -/
def State.levelsLegal (s : State) : Prop := ∀ i, -192 ≤ s.levelOfSource i ∧ s.levelOfSource i ≤ 0

/-- An invariant that every operation of the part keeps, each under what stands where the operation is made. -/
structure Kept (P : State → Prop) : Prop where
  quiet : ∀ s t, s.quietTo t → P s → P t
  powerOn : ∀ s t : State, State.reset.quietTo t → P s → P t
  survey : ∀ s v, (s.survey.phase = .idle → v.phase = .idle) → P s → P (s.withSurvey v)
  meter : ∀ s m, (s.meter.skip ≤ 65535 → m.skip ≤ 65535) → P s → P (s.withMeter m)
  input : ∀ s a b, P s → P (s.inputPeriod a b)
  output : ∀ s n, n ≤ 48 → P s → P { s with outIndex := n }
  sweep : ∀ s n, n ≤ 33 → P s → P { s with sweepPos := n }
  links : ∀ s : State, P s → P { s with linkA := s.linkA.beginBlock, linkB := s.linkB.beginBlock }
  riseFloor : ∀ s i, P s → P (s.setSource i (s.source i).riseFloor)
  expire : ∀ s i, s.atExpiry i = true → P s → P (s.expireHold i)
  evaluate : ∀ s, s.levelsLegal → P s → P s.evaluateGates
  rearbitrate : ∀ s, P s → P s.rearbitrate
  release : ∀ s, P s → P s.releaseLast
  follow : ∀ s before, (s.live = none → ∀ i, s.forceMode i = before i) → P s →
    P (s.followForces before).releaseLast
  count : ∀ s, P s → P s.countNom
  setSources : ∀ s body mask, s.live ≠ none → P s → P (s.setSources body mask)
  setZones : ∀ s body low high, P s → P (s.setZones body low high)
  saveScene : ∀ s : State, s.live ≠ none → s.scenes.length < 4 → P s → P { s with scenes := s.currentScene :: s.scenes }
  restore : ∀ s scene rest, s.live ≠ none → s.scenes = scene :: rest → P s →
    P { s.restoreScene scene with scenes := rest }
  clearScenes : ∀ s : State, P s → P { s with scenes := [] }
  adopt : ∀ (s : State) a, s.surveying = false → a.part = 0 → a.staging = [] → P s → P { s with adoption := some a }
  unclaim : ∀ s : State, P s → P { s with adoption := s.adoption.map (fun a => { a with claim := false }) }
  validate : ∀ s, P s → P s.validate
  dropAdoption : ∀ s : State, P s → P { s with adoption := none }
  install : ∀ (s : State) a n, s.adoption = some a → a.part = 8 → a.illegal = none → P s →
    P (State.lowerHolds { s with live := some { bank := a.bank, copy := bankOf a.staging }, adoption := none } n)
  reload : ∀ s, P s → P s.reloadMix
  beginSurvey : ∀ s v, s.live ≠ none → s.adoption = none → P s → P (s.withSurvey v)
  stopProbe : ∀ s, P s → P s.stopProbe
  request : ∀ s, P s → P s.requestRebuild
  serve : ∀ s, P s → P s.serveRebuild
  remove : ∀ s, P s → P s.removeRetired
  compose : ∀ s, P s → P s.compose
  glide : ∀ s, P s → P s.glide
  motion : ∀ s, P s → P s.motionSteps
  fadeEnd : ∀ s pair, P s →
    P (s.mapRoutes (fun e => if e.pair = pair ∧ e.atFadeEnd then e.endFade.freeStep s.slipLimit else e))
  grant : ∀ s, P s → P s.grantFades
  resetUnits : ∀ s, s.survey.phase = .idle → P s →
    P ((s.mapSources s.resetSource).mapZones s.resetZone).emptyLists
  endZones : ∀ s, P s → P (s.mapZones s.zoneEnd)
  discardSums : ∀ s : State, P s → P (s.mapZones (fun _ x => x.discardSum))

namespace Kept

variable {P : State → Prop}

/-! ### The port -/

theorem examineNext (k : Kept P) (s : State) (h : P s) : P s.examineNext := by
  unfold State.examineNext
  split
  · exact k.sweep _ 1 (by omega) (k.quiet _ _ s.quietTo_examineCall h)
  · split
    · rename_i inside
      exact k.sweep _ (s.sweepPos + 1) inside (k.quiet _ _ (s.quietTo_examineSlot _) h)
    · exact h

theorem examineMany (k : Kept P) (n : Nat) (s : State) (h : P s) : P (s.examineMany n) :=
  State.examineMany_keeps (P := P) k.examineNext n s h

theorem portInit (k : Kept P) (s : State) (h : P s) : P s.portInit :=
  k.quiet _ s.portInit ⟨_, _, _, _, _, _, _, _, _, rfl⟩
    (k.unclaim _ (k.survey s { s.survey with claim := false } id h))

theorem writeRegister (k : Kept P) (s : State) (n : Nat) (a : Addr) (v : Word) (h : P s) :
    P (s.writeRegister n a v) := by
  unfold State.writeRegister
  split
  · unfold State.writeControl
    dsimp only
    split
    · exact k.portInit _ (k.quiet _ _ (s.quietTo_withPort _) h)
    · exact k.quiet _ _ (s.quietTo_withPort _) h
  · exact k.quiet _ _ (s.quietTo_writeCall v) h
  · exact k.quiet _ _ (s.quietTo_withPort _) h
  · exact k.quiet _ _ (s.quietTo_withPort _) h
  · exact k.quiet _ _ (s.quietTo_drop a) h

theorem presentWrite (k : Kept P) (s : State) (a : Addr) (v : Word) (h : P s) : P (s.presentWrite a v) := by
  have accept : P (s.accept a v) := k.quiet _ _ ⟨_, _, _, _, _, _, _, _, _, rfl⟩ h
  have drop : P (s.drop a) := k.quiet _ _ (s.quietTo_drop a) h
  unfold State.presentWrite
  split
  · exact k.writeRegister s _ a v h
  · exact k.quiet _ _ (s.quietTo_writeSlot ..) h
  · split
    · exact accept
    · exact drop
  · exact drop
  · split
    · exact accept
    · exact drop
  · exact drop

theorem stageByte (k : Kept P) (s : State) (a : Addr) (l : Lane) (b : Byte) (h : P s) : P (s.stageByte a l b) := by
  have emptied : P (s.withPort { s.port with writeLatch := none }) := k.quiet _ _ (s.quietTo_withPort _) h
  unfold State.stageByte
  split
  · exact k.quiet _ _ (s.quietTo_withPort _) h
  · dsimp only
    split
    · split
      · exact k.presentWrite _ a _ emptied
      · exact k.quiet _ _ (State.quietTo_drop _ a) emptied
    · exact k.quiet _ _ (State.quietTo_drop _ a) emptied

theorem hostWrite (k : Kept P) (s : State) (a : Addr) (v : Word) (h : P s) : P (s.hostWrite a v) := by
  rw [State.hostWrite_eq]
  refine k.presentWrite _ a v (k.quiet s _ ?_ h)
  unfold State.atPort
  split
  · exact ⟨_, _, _, _, _, _, _, _, _, rfl⟩
  · exact s.quietTo_rfl

/-! ### What a change brings with it -/

theorem settle (k : Kept P) (s : State) (h : P s.releaseLast) : P s.settle :=
  k.quiet _ s.settle ⟨_, _, _, _, _, _, _, _, _, rfl⟩ (k.compose _ (k.serve _ (k.count _ h)))

theorem outcome (k : Kept P) (s : State) (o : Origin) (claim : Bool) (code : ResultCode) (detail : Nat) (h : P s) :
    P (s.outcome o claim code detail) := k.quiet _ _ (s.quietTo_outcome ..) h

theorem doneClamped (k : Kept P) (s : State) (item : CueItem) (clamps : Nat) (h : P s) :
    P (s.doneClamped item clamps) := k.quiet _ _ (s.quietTo_doneClamped ..) h

/-! ### Cues -/

theorem carrySourceSet (k : Kept P) (s : State) (item : CueItem) (live : s.live ≠ none) (h : P s) :
    P (s.carrySourceSet item) := k.doneClamped _ _ _ (k.setSources s _ _ live h)

theorem carryZoneSet (k : Kept P) (s : State) (item : CueItem) (h : P s) : P (s.carryZoneSet item) :=
  k.doneClamped _ _ _ (k.setZones s _ _ _ h)

theorem carryScenePush (k : Kept P) (s : State) (item : CueItem) (live : s.live ≠ none) (room : s.scenes.length < 4)
    (h : P s) : P (s.carryScenePush item) :=
  k.doneClamped _ _ _ (k.setZones _ _ _ _
    (k.setSources { s with scenes := s.currentScene :: s.scenes } _ _ live (k.saveScene s live room h)))

theorem carryScenePop (k : Kept P) (s : State) (item : CueItem) (live : s.live ≠ none) (h : P s) :
    P (s.carryScenePop item) := by
  unfold State.carryScenePop
  split
  · exact h
  · exact k.outcome _ _ _ _ _ (k.restore s _ _ live (by assumption) h)

theorem carryBankAdopt (k : Kept P) (s : State) (item : CueItem) (idle : s.surveying = false) (h : P s) :
    P (s.carryBankAdopt item) := by
  unfold State.carryBankAdopt
  split
  · exact k.adopt _ _ idle rfl rfl (k.quiet s _ (s.quietTo_storeAll _) h)
  · exact h

theorem carrySurveyStart (k : Kept P) (s : State) (item : CueItem) (live : s.live ≠ none) (free : s.adoption = none)
    (h : P s) : P (s.carrySurveyStart item) := by
  unfold State.carrySurveyStart
  split
  · rename_i b zone _ _
    have begun := k.beginSurvey s (s.survey.started b item (cueBody item) zone) live free h
    exact k.compose _ (k.quiet _ _ (State.quietTo_marks _ _) (k.quiet _ _ (State.quietTo_storeAll _ _) begun))
  · exact h

theorem abandonSurvey (k : Kept P) (s : State) (code : ResultCode) (h : P s) : P (s.abandonSurvey code) :=
  k.quiet _ _ (State.quietTo_raise _ _) (k.outcome _ _ _ _ _
    (k.survey _ _ (fun _ => rfl) (k.quiet _ _ (s.quietTo_storeAll _) h)))

theorem completeSurvey (k : Kept P) (s : State) (h : P s) : P s.completeSurvey :=
  k.quiet _ _ (State.quietTo_raise _ _) (k.outcome _ _ _ _ _
    (k.request _ (k.survey _ _ (fun _ => rfl) (k.quiet _ _ (s.quietTo_storeAll _) h))))

theorem carrySurveyAbort (k : Kept P) (s : State) (item : CueItem) (h : P s) : P (s.carrySurveyAbort item) :=
  k.outcome _ _ _ _ _ (k.request _ (k.abandonSurvey _ _ (k.stopProbe s h)))

theorem applySceneClear (k : Kept P) (s : State) (item : CueItem) (h : P s) : P (s.applySceneClear item) := by
  unfold State.applySceneClear
  split
  · exact k.outcome s _ _ _ _ h
  · exact k.outcome _ _ _ _ _ (k.clearScenes s h)

theorem applyBankAdopt (k : Kept P) (s : State) (item : CueItem) (h : P s) : P (s.applyBankAdopt item) := by
  unfold State.applyBankAdopt
  split
  · exact k.outcome s _ _ _ _ h
  · exact k.carryBankAdopt s item (State.idle_of_bankAdopt (by assumption)) h

theorem applyItem (k : Kept P) (s : State) (item : CueItem) (h : P s) : P (s.applyItem item) := by
  have faulted : ∀ f, P (s.faulted item f) := fun f => k.outcome s _ _ _ _ h
  unfold State.applyItem
  split
  · unfold State.applySourceSet
    split
    · exact faulted _
    · exact k.carrySourceSet s item (State.live_of_sourceSet (by assumption)) h
  · unfold State.applyZoneSet
    split
    · exact faulted _
    · exact k.carryZoneSet s item h
  · unfold State.applyScenePush
    split
    · exact faulted _
    · rename_i passed
      exact k.carryScenePush s item (State.live_of_scenePush passed).1 (State.live_of_scenePush passed).2 h
  · unfold State.applyScenePop
    split
    · exact faulted _
    · exact k.carryScenePop s item (State.live_of_scenePop (by assumption)) h
  · exact k.applySceneClear s item h
  · exact k.applyBankAdopt s item h
  · unfold State.applySurveyStart
    split
    · exact faulted _
    · rename_i passed
      obtain ⟨live, _, free⟩ := State.free_of_surveyStart passed
      exact k.carrySurveyStart s item live free h
  · unfold State.applySurveyAbort
    split
    · exact faulted _
    · exact k.carrySurveyAbort s item h
  · exact faulted _

theorem applyTaken (k : Kept P) (s : State) (h : P s) : P s.applyTaken :=
  State.applyTaken_keeps (P := P) s (k.quiet _ _ ⟨_, _, _, _, _, _, _, _, _, rfl⟩ h) k.applyItem

/-! ### Surveys and banks -/

theorem mutingEnd (k : Kept P) (s : State) (h : P s) : P s.mutingEnd := by
  unfold State.mutingEnd
  split
  · rename_i due
    refine k.survey s _ (fun idle => ?_) h
    simp [State.atMutingEnd, idle] at due
  · exact h

theorem quietEnd (k : Kept P) (s : State) (h : P s) : P s.quietEnd := by
  unfold State.quietEnd
  split
  · rename_i due
    refine k.survey s _ (fun idle => ?_) h
    simp [State.atQuietEnd, idle] at due
  · exact h

theorem settleEnd (k : Kept P) (s : State) (h : P s) : P s.settleEnd := by
  unfold State.settleEnd
  split
  · rename_i due
    refine k.survey s _ (fun idle => ?_) h
    simp [State.atSettleEnd, idle] at due
  · exact h

theorem measureEnd (k : Kept P) (s : State) (h : P s) : P s.measureEnd := by
  unfold State.measureEnd
  split
  · rename_i due
    split
    · exact k.completeSurvey s h
    · refine k.survey s _ (fun idle => ?_) h
      simp [State.atMeasureEnd, idle] at due
  · exact h

theorem tailEnd (k : Kept P) (s : State) (h : P s) : P s.tailEnd := by
  unfold State.tailEnd
  split
  · exact k.completeSurvey s h
  · exact h

theorem advanceSurvey (k : Kept P) (s : State) (h : P s) : P s.advanceSurvey := by
  unfold State.advanceSurvey
  split
  · exact k.quietEnd s h
  · exact k.settleEnd s h
  · exact k.measureEnd s h
  · exact k.tailEnd s h
  · exact h
  · exact h

theorem bankReject (k : Kept P) (s : State) (h : P s) : P s.bankReject := by
  unfold State.bankReject
  split
  · exact h
  · split
    · exact h
    · rename_i a _ reason addr _
      refine k.quiet _ _ (State.quietTo_raise _ _) (k.outcome _ _ _ _ _ ?_)
      exact k.quiet _ _ ⟨_, _, _, _, _, _, _, _, _, rfl⟩ (k.dropAdoption s h)

theorem installBank (k : Kept P) (s : State) (a : Adoption) (due : s.switchDue = true) (ha : s.adoption = some a)
    (h : P s) : P (s.installBank a) := by
  have parts : a.part = 8 ∧ a.illegal = none := by simpa [State.switchDue, ha] using due
  refine k.quiet _ _ (State.quietTo_raise _ _) (k.outcome _ _ _ _ _ ?_)
  exact k.install { s.storeAll (switchCells a s.liveBank) with marks := { s.marks with adoptionEnded := true } } a _ ha
    parts.1 parts.2 (k.quiet s _ ⟨_, _, _, _, _, _, _, _, _, rfl⟩ h)

theorem installDue (k : Kept P) (s : State) (h : P s) : P s.installDue := by
  unfold State.installDue
  split
  · exact h
  · split
    · exact k.installBank s _ (by assumption) (by assumption) h
    · exact h

theorem abandonAdoption (k : Kept P) (s : State) (h : P s) : P s.abandonAdoption := by
  unfold State.abandonAdoption
  split
  · exact h
  · exact k.quiet _ _ (State.quietTo_raise _ _) (k.outcome _ _ _ _ _
      (k.quiet _ _ ⟨_, _, _, _, _, _, _, _, _, rfl⟩ (k.dropAdoption s h)))

theorem carryReset (k : Kept P) (s : State) (h : P s) : P s.carryReset := by
  refine k.resetUnits _ ?_ (k.abandonAdoption _ ?_)
  · simp only [State.abandonAdoption_frame, State.resetSurvey]
    split
    · simp [State.abandonSurvey, Survey.discarded]
    · rename_i idle
      simpa [State.surveying] using idle
  · unfold State.resetSurvey
    split
    · exact k.abandonSurvey _ _ (k.quiet s _ ⟨_, _, _, _, _, _, _, _, _, rfl⟩ h)
    · exact k.quiet s _ ⟨_, _, _, _, _, _, _, _, _, rfl⟩ h

/-! ### The meter writer -/

theorem snapshotTime (k : Kept P) (s : State) (h : P s) : P s.snapshotTime := by
  unfold State.snapshotTime State.takeSnapshot
  split
  · have fresh := k.meter s { s.meter with periodCount := 0 } id h
    dsimp only
    split
    · exact k.quiet _ _ ⟨_, _, _, _, _, _, _, _, _, rfl⟩ (k.meter _ { s.meter.fresh with
        periodCount := 0
        capture := some { buffer := _, words := (s.withMeter { s.meter with periodCount := 0 }).snapshotWords } } id fresh)
    · exact k.meter _ _ (fun _ => by simp) fresh
  · exact h

theorem snapshotWrite (k : Kept P) (s : State) (h : P s) : P s.snapshotWrite := by
  unfold State.snapshotWrite
  split
  · exact h
  · exact k.quiet _ _ (State.quietTo_raise _ _)
      (k.meter _ _ (fun _ => by simp) (k.quiet _ _ (s.quietTo_storeAll _) h))

theorem meterStep (k : Kept P) (s : State) (h : P s) : P s.meterStep :=
  k.snapshotTime _ (k.meter _ _ id (k.snapshotWrite _ (k.meter s _ id h)))

end Kept

end Sys2Proof.Machine
end

section
/-! The gates and the levels through a block start, and the assembly of every command. -/

namespace Sys2Proof.Machine

/-! ### Levels of the ended block (R7, R8) -/

/-- The end of a block hands on the level of each source's ended block, and nothing after it in the block's end changes
them (R7, R8). -/
theorem State.endBlock_lastLevels (s : State) :
    s.endBlock.meter.lastLevels = allSources.map (fun i => (s.source i).level) := by
  simp only [State.endBlock, State.validate_frame, State.withSurvey_meter, State.endZones, State.raiseIf_frame,
    State.withMeter_meter]
  split <;> rfl

theorem State.endBlock_level (s : State) (i : Fin 16) : s.endBlock.levelOfSource i = (s.source i).level := by
  unfold State.levelOfSource
  rw [State.endBlock_lastLevels]
  simp [allSources]

theorem Source.level_range (x : Source) : -192 ≤ x.level ∧ x.level ≤ 0 := levelOf_range _ _

theorem State.endBlock_levelsLegal (s : State) : s.endBlock.levelsLegal := by
  intro i
  rw [State.endBlock_level]
  exact Source.level_range _

theorem State.levelsLegal_of_meter {s t : State} (h : s.levelsLegal) (m : t.meter = s.meter) : t.levelsLegal := by
  unfold State.levelsLegal State.levelOfSource at *
  rwa [m]

/-- The block that ends leaves the survey in its phase (R120, R121, R123). -/
theorem State.surveyBlockEnd_phase (s : State) : s.surveyBlockEnd.phase = s.survey.phase := by
  unfold State.surveyBlockEnd
  dsimp only
  split <;> simp_all

/-! ### A gate evaluation, source by source (R9 to R15) -/

theorem settleGates_getD (maxOpen : Nat) (lastOn : Bool) (steps : List GateStep) (level : Fin 16 → Int) (i : Fin 16)
    (d : GateState × Nat) :
    (settleGates maxOpen lastOn steps level).getD i.val d
      = settledGate lastOn steps (allSources.map (arbitrated maxOpen steps level)) i := by
  simp [settleGates, allSources]

theorem stepAt_map (own : Fin 16 → GateStep) (i : Fin 16) : stepAt (allSources.map own) i = own i := by
  simp [stepAt, allSources]

/-- The parameters an evaluation goes by, with those of NO_BANK, where every gate has settled by itself. -/
def State.paramsInForce (s : State) : GateParams :=
  s.evalParams.getD { openMargin := 0, maxOpen := 0, holdBlocks := 0, lastOn := false }

/-- The gate and hold counter an evaluation gives a source (R11 to R15). -/
def State.evaluatedGate (s : State) (i : Fin 16) : GateState × Nat :=
  settledGate s.paramsInForce.lastOn s.gateSteps
    (allSources.map (arbitrated s.paramsInForce.maxOpen s.gateSteps s.levelOfSource)) i

/-- A source placed in an evaluated gate. -/
def Source.withGate (x : Source) (g : GateState × Nat) : Source := { x with gate := g.1, holdCount := g.2 }

/-- What a lost block and the level of any other make of a source's floor (R9, R12). -/
theorem State.source_updateFloors (s : State) (i : Fin 16) :
    s.unsetLostFloors.updateFloors.source i
      = if s.lostBlock i then { s.source i with floor := none, rise := 0 }
        else (s.source i).updateFloor (s.levelOfSource i) := by
  have lost : s.unsetLostFloors.lostBlock i = s.lostBlock i := rfl
  have level : s.unsetLostFloors.levelOfSource i = s.levelOfSource i := rfl
  unfold State.updateFloors
  rw [State.source_mapSources, lost, level]
  unfold State.unsetLostFloors
  rw [State.source_mapSources]
  cases s.lostBlock i <;> rfl

theorem State.source_placeGates (s : State) (gates : List (GateState × Nat)) (i : Fin 16) :
    (s.placeGates gates).source i
      = (s.source i).withGate (gates.getD i.val ((s.source i).gate, (s.source i).holdCount)) :=
  State.source_mapSources s _ i

theorem State.source_congr {s t : State} (h : t.sources = s.sources) (i : Fin 16) : t.source i = s.source i := by
  unfold State.source
  rw [h]

theorem State.zone_congr {s t : State} (h : t.zones = s.zones) (z : Fin 24) : t.zone z = s.zone z := by
  unfold State.zone
  rw [h]

theorem State.lostBlock_congr {s t : State} (a : t.linkA = s.linkA) (b : t.linkB = s.linkB) (i : Fin 16) :
    t.lostBlock i = s.lostBlock i := by
  unfold State.lostBlock State.link
  rw [a, b]

theorem State.levelOfSource_congr {s t : State} (h : t.meter = s.meter) (i : Fin 16) :
    t.levelOfSource i = s.levelOfSource i := by
  unfold State.levelOfSource
  rw [h]

/-- What an evaluation makes of a source: its gate, then its floor, UNSET by a lost block (R9, R12). -/
theorem State.source_evaluateGates (s : State) (i : Fin 16) :
    s.evaluateGates.source i
      = if s.lostBlock i then { (s.source i).withGate (s.evaluatedGate i) with floor := none, rise := 0 }
        else ((s.source i).withGate (s.evaluatedGate i)).updateFloor (s.levelOfSource i) := by
  let gates := settleGates s.paramsInForce.maxOpen s.paramsInForce.lastOn s.gateSteps s.levelOfSource
  let placed := (s.raiseIf s.gateChangesLost .gate).placeGates gates
  have source : placed.source i = (s.source i).withGate (s.evaluatedGate i) := by
    rw [State.source_placeGates, settleGates_getD, State.source_congr (s := s) (by simp)]
    rfl
  have lost : placed.lostBlock i = s.lostBlock i := State.lostBlock_congr (by simp [placed]) (by simp [placed]) i
  have level : placed.levelOfSource i = s.levelOfSource i := State.levelOfSource_congr (by simp [placed]) i
  show placed.unsetLostFloors.updateFloors.source i = _
  rw [State.source_updateFloors, source, lost, level]

/-- A floor's update leaves the rest of its source. -/
theorem Source.updateFloor_rest (x : Source) (level : Int) :
    ∃ floor rise, x.updateFloor level = { x with floor := floor, rise := rise } := by
  unfold Source.updateFloor Source.riseFloor
  split
  · exact ⟨_, _, rfl⟩
  · (repeat' split) <;> exact ⟨_, _, rfl⟩

/-- An evaluation changes gates, hold counters and floors alone. -/
theorem State.evaluateGates_rest (s : State) (i : Fin 16) :
    ∃ floor rise, s.evaluateGates.source i
      = { (s.source i).withGate (s.evaluatedGate i) with floor := floor, rise := rise } := by
  rw [State.source_evaluateGates]
  split
  · exact ⟨_, _, rfl⟩
  · exact Source.updateFloor_rest _ _

/-- The gates after an evaluation. -/
theorem State.gate_evaluateGates (s : State) (i : Fin 16) :
    ((s.evaluateGates.source i).gate, (s.evaluateGates.source i).holdCount) = s.evaluatedGate i := by
  obtain ⟨floor, rise, e⟩ := s.evaluateGates_rest i
  rw [e]
  rfl

/-! ### No cue acts in NO_BANK (R167, R173) -/

/-- In NO_BANK a cue changes no source. -/
theorem State.applyItem_noBank (s : State) (item : CueItem) (h : s.live = none) :
    (s.applyItem item).sources = s.sources := by
  unfold State.applyItem
  split
  · unfold State.applySourceSet
    split
    · simp
    · exact absurd h (State.live_of_sourceSet (by assumption))
  · simp
  · unfold State.applyScenePush
    split
    · simp
    · exact absurd h (State.live_of_scenePush (by assumption)).1
  · unfold State.applyScenePop
    split
    · simp
    · exact absurd h (State.live_of_scenePop (by assumption))
  all_goals simp

/-- In NO_BANK the cues of a block start change no source. -/
theorem State.applyTaken_noBank (s : State) (h : s.live = none) : s.applyTaken.sources = s.sources := by
  have both : s.applyTaken.live = none ∧ s.applyTaken.sources = s.sources :=
    State.applyTaken_keeps (P := fun t => t.live = none ∧ t.sources = s.sources) s ⟨h, rfl⟩ (fun t item ⟨live, same⟩ =>
      ⟨by simpa using live, (State.applyItem_noBank t item live).trans same⟩)
  exact both.2

/-- A switch-over that is due leaves a bank LIVE (R140). -/
theorem State.live_installDue {s : State} (due : s.switchDue = true) : s.installDue.live ≠ none := by
  unfold State.installDue
  cases h : s.adoption with
  | none => simp [State.switchDue, h] at due
  | some a => simp [due, State.installBank]

/-! ### Every command -/

/-- What every command keeps, from the state without the command at the front, every step keeps. -/
theorem keptByStep_of_exec {P : State → Prop} (quiet : ∀ s t, s.quietTo t → P s → P t)
    (command : ∀ c s t, P s → exec c s = .next t → P t) : KeptByStep P := by
  intro s t h e
  unfold step at e
  split at e
  · exact Host.Outcome.next.inj e ▸ h
  · exact command _ _ t (quiet s _ ⟨_, _, _, _, _, _, _, _, _, rfl⟩ h) e

namespace Kept

variable {P : State → Prop}

theorem endBlock (k : Kept P) (s : State) (h : P s) : P s.endBlock := by
  have zones : P s.measureLevels.endZones := by
    refine k.quiet _ _ (State.quietTo_raiseIf _ _ _) ?_
    split
    · exact k.meter _ _ id (k.discardSums _ (k.meter s _ id h))
    · exact k.meter _ _ id (k.endZones _ (k.meter s _ id h))
  refine k.validate _ (k.quiet _ _ (State.quietTo_marks _ _) (k.survey _ _ (fun idle => ?_) zones))
  rw [State.surveyBlockEnd_phase]
  exact idle

theorem nextBlock (k : Kept P) (s : State) (h : P s) : P s.nextBlock :=
  k.quiet { s with outIndex := 0 } _ ⟨_, _, _, _, _, _, _, _, _, rfl⟩ (k.output s 0 (by omega) h)

theorem openBlock (k : Kept P) (s : State) (h : P s) : P s.openBlock :=
  k.quiet { s with linkA := s.linkA.beginBlock, linkB := s.linkB.beginBlock, sweepPos := 0 } _
    ⟨_, _, _, _, _, _, _, _, _, rfl⟩ (k.sweep _ 0 (by omega) (k.links s h))

theorem resetBoundary (k : Kept P) (s : State) (r : BlockRaces) (h : P s) : P (s.resetBoundary r) := by
  have bank : P (if r.bankBeforeReset then s.bankOutcome else s) := by
    unfold State.bankOutcome
    (repeat' split)
    · exact k.reload _ (k.installDue s h)
    · exact k.bankReject s h
    · exact h
  refine k.carryReset _ ?_
  split
  · exact k.advanceSurvey _ bank
  · exact bank

theorem plainBoundary (k : Kept P) (s : State) (r : BlockRaces) (levels : s.levelsLegal) (h : P s) :
    P (s.plainBoundary r) := by
  unfold State.plainBoundary
  generalize advanced : (if s.completionDue && !r.completionBeforeAbort then s else s.advanceSurvey) = u
  have hu : P u := by
    rw [← advanced]
    split
    · exact h
    · exact k.advanceSurvey s h
  have meter : u.meter = s.meter := by
    rw [← advanced]
    split <;> simp
  dsimp only
  split
  · exact k.reload _ (k.evaluate _ (State.levelsLegal_of_meter levels (by simp [meter])) (k.installDue _ hu))
  · exact k.evaluate _ (State.levelsLegal_of_meter levels (by simp [meter])) (k.bankReject _ hu)

theorem changeMix (k : Kept P) (s : State) (r : BlockRaces) (evaluated : Fin 16 → ForceMode)
    (forces : s.live = none → ∀ i, s.forceMode i = evaluated i) (h : P s) : P (s.changeMix r evaluated) := by
  have cues : P (if r.completionBeforeAbort then s.applyTaken else s.applyTaken.lateCompletion) := by
    unfold State.lateCompletion
    (repeat' split)
    · exact k.applyTaken s h
    · exact k.advanceSurvey _ (k.applyTaken s h)
    · exact k.applyTaken s h
  refine k.compose _ (k.remove _ (k.serve _ (k.count _ (k.follow _ _ (fun idle i => ?_) cues))))
  have live : s.live = none := by
    revert idle
    split <;> simp
  have same : (if r.completionBeforeAbort then s.applyTaken else s.applyTaken.lateCompletion).sources = s.sources := by
    split <;> simp [State.applyTaken_noBank s live]
  rw [State.forceMode, State.source_congr same]
  exact forces live i

/-- Where a block start leaves the part in NO_BANK, the force modes are those its gates stand by. -/
theorem forces_of_noBank (s : State) (r : BlockRaces)
    (live : (if s.port.resetRequest then s.resetBoundary r else s.plainBoundary r).live = none) (i : Fin 16) :
    (if s.port.resetRequest then s.resetBoundary r else s.plainBoundary r).forceMode i
      = s.evaluatedForces (if s.port.resetRequest then s.resetBoundary r else s.plainBoundary r) i := by
  unfold State.evaluatedForces
  split
  · rfl
  · rename_i unasked
    rw [if_neg unasked] at live
    unfold State.plainBoundary at live ⊢
    generalize advanced : (if s.completionDue && !r.completionBeforeAbort then s else s.advanceSurvey) = u at *
    have sources : u.sources = s.sources := by
      rw [← advanced]
      split <;> simp
    dsimp only at live ⊢
    split
    · rename_i due
      rw [if_pos due] at live
      exact absurd (by simpa using live) (State.live_installDue due)
    · obtain ⟨floor, rise, e⟩ := u.bankReject.evaluateGates_rest i
      rw [State.forceMode, e]
      show (u.bankReject.source i).mix.force = _
      rw [State.source_congr (s := s) (by simp [sources])]
      rfl

theorem blockStart (k : Kept P) (s : State) (r : BlockRaces) (h : P s) : P (s.blockStart r) := by
  unfold State.blockStart
  generalize begun : s.finishSweep.endBlock.nextBlock = u
  have hu : P u := by
    rw [← begun]
    exact k.nextBlock _ (k.endBlock _ (k.examineMany _ s h))
  have levels : u.levelsLegal := by
    rw [← begun]
    exact State.levelsLegal_of_meter (State.endBlock_levelsLegal s.finishSweep) rfl
  have boundary : P (if u.port.resetRequest then u.resetBoundary r else u.plainBoundary r) := by
    split
    · exact k.resetBoundary u r hu
    · exact k.plainBoundary u r levels hu
  have forces := forces_of_noBank u r
  dsimp only
  generalize (if u.port.resetRequest then u.resetBoundary r else u.plainBoundary r) = v at boundary forces ⊢
  have mixed : P (v.glide.changeMix r (u.evaluatedForces v)) :=
    k.changeMix _ r _ (fun live i => forces (by simpa using live) i) (k.glide v boundary)
  exact k.openBlock _ (k.meterStep _ (k.mutingEnd _ (k.grant _ (k.motion _ mixed))))

theorem inputPeriodOf (k : Kept P) (s : State) (l : LinkId) (a b : LinkFrame) (h : P s) :
    P (s.inputPeriodOf l a b) := by
  cases l
  · exact k.input s a b h
  · exact k.input s b a h

/-- What a cue that has set the mix brings with it, with a bank LIVE. -/
theorem followThenSettle (k : Kept P) (s u : State) (live : s.live ≠ none) (same : u.live = s.live) (h : P u) :
    P ((u.followForces s.forceMode).settle) :=
  k.settle _ (k.follow u _ (fun none => absurd (same ▸ none) live) h)

/-- Every command keeps what every operation keeps. -/
theorem exec (k : Kept P) (c : Instr) (s t : State) (h : P s) (e : exec c s = .next t) : P t := by
  have host : ∀ a v, P (s.hostWrite a v) := fun a v => k.hostWrite s a v h
  cases c <;> obtain rfl := (Host.Outcome.next.inj e).symm
  case powerOnReset strap => exact k.powerOn s _ ⟨_, _, _, _, _, _, _, _, _, rfl⟩ h
  case inputFrame a b => exact k.input s a b h
  case linkLost l f =>
    split
    · exact k.inputPeriodOf s l _ f h
    · exact h
  case linkRecovery l slots f =>
    split
    · exact k.inputPeriodOf s l _ f h
    · exact h
  case outputFrame =>
    split
    · rename_i left
      exact k.quiet { s with outIndex := s.outIndex + 1 } _ ⟨_, _, _, _, _, _, _, _, _, rfl⟩ (k.output s _ left h)
    · exact h
  case blockStart r => exact k.blockStart s r h
  case floorRise i =>
    split
    · exact k.riseFloor s i h
    · exact h
  case holdExpiry i =>
    split
    · exact k.compose _ (k.count _ (k.expire s i (by assumption) h))
    · exact h
  case intakeSweep n => exact k.examineMany _ s h
  case sourceSet item =>
    split
    · exact k.outcome s _ _ _ _ h
    · have live := State.live_of_sourceSet (by assumption)
      exact k.followThenSettle s _ live (by simp) (k.carrySourceSet s item live h)
  case zoneSet item =>
    split
    · exact k.outcome s _ _ _ _ h
    · exact k.settle _ (k.release _ (k.carryZoneSet s item h))
  case scenePush item =>
    split
    · exact k.outcome s _ _ _ _ h
    · obtain ⟨live, room⟩ := State.live_of_scenePush (by assumption)
      exact k.followThenSettle s _ live (by simp) (k.carryScenePush s item live room h)
  case scenePop item =>
    split
    · exact k.outcome s _ _ _ _ h
    · have live := State.live_of_scenePop (by assumption)
      exact k.followThenSettle s _ live (by simp) (k.carryScenePop s item live h)
  case sceneClear item => exact k.applySceneClear s item h
  case bankAdopt item => exact k.applyBankAdopt s item h
  case surveyStart item =>
    split
    · exact k.outcome s _ _ _ _ h
    · rename_i passed
      obtain ⟨live, _, free⟩ := State.free_of_surveyStart passed
      exact k.settle _ (k.release _ (k.carrySurveyStart s item live free h))
  case surveyAbort item =>
    split
    · exact k.outcome s _ _ _ _ h
    · exact k.settle _ (k.release _ (k.carrySurveyAbort s item h))
  case badKind item => exact k.outcome s _ _ _ _ h
  case bankReject => exact k.bankReject s h
  case switchOver =>
    split
    · rename_i due
      refine k.settle _ (k.follow _ _ (fun none => ?_) (k.reload _ (k.rearbitrate _ (k.installDue s h))))
      exact absurd (by simpa using none) (State.live_installDue due)
    · exact h
  case engineReset =>
    split
    · exact k.settle _ (k.release _ (k.carryReset s h))
    · exact h
  case routeRemoval =>
    split
    · exact k.compose _ (k.remove s h)
    · exact h
  case fadeGrant => exact k.grant s h
  case fadeEnd pair => exact k.fadeEnd s pair h
  case mutingEnd => exact k.mutingEnd s h
  case quietEnd => exact k.quietEnd s h
  case settleEnd => exact k.settleEnd s h
  case measureEnd =>
    split
    · exact k.settle _ (k.release _ (k.measureEnd s h))
    · exact h
  case surveyComplete =>
    split
    · exact k.settle _ (k.release _ (k.tailEnd s h))
    · exact h
  case snapshotTime => exact k.snapshotTime s h
  case snapshotWrite => exact k.snapshotWrite s h
  case byteWrite a l b =>
    split
    · exact k.stageByte s a l b h
    · exact h
  case byteRead a l =>
    split
    · exact k.quiet _ _ (s.quietTo_latchByte a l) h
    · exact h
  all_goals exact host _ _

/-- Every step keeps what every operation keeps. -/
theorem keptByStep (k : Kept P) : KeptByStep P := keptByStep_of_exec k.quiet k.exec

end Kept

end Sys2Proof.Machine
end

section
/-! Lines, waiting sums and delays through every operation (O51). -/

namespace Sys2Proof.Machine

/-! ### Properties of every source and every zone -/

/-- A property of every source in the list, and of a source at power-on, holds of every source read by its number. -/
theorem State.source_has {Q : Source → Prop} (s : State) (h : ∀ x ∈ s.sources, Q x) (reset : Q .reset) (i : Fin 16) :
    Q (s.source i) := by
  unfold State.source
  by_cases inside : i.val < s.sources.length
  · rw [List.getD_eq_getElem _ _ inside]
    exact h _ (List.getElem_mem _)
  · rw [List.getD_eq_default _ _ (by omega)]
    exact reset

/-- A property of every zone in the list, and of a zone at power-on, holds of every zone read by its number. -/
theorem State.zone_has {Q : Zone → Prop} (s : State) (h : ∀ x ∈ s.zones, Q x) (reset : Q .reset) (z : Fin 24) :
    Q (s.zone z) := by
  unfold State.zone
  by_cases inside : z.val < s.zones.length
  · rw [List.getD_eq_getElem _ _ inside]
    exact h _ (List.getElem_mem _)
  · rw [List.getD_eq_default _ _ (by omega)]
    exact reset

/-- With sixteen sources, a property of each by its number is a property of every source in the list. -/
theorem State.sources_forall {Q : Source → Prop} (s : State) (len : s.sources.length = 16)
    (h : ∀ i, Q (s.source i)) : ∀ x ∈ s.sources, Q x := by
  intro x hx
  obtain ⟨n, inside, rfl⟩ := List.getElem_of_mem hx
  have at_n := h ⟨n, len ▸ inside⟩
  unfold State.source at at_n
  rwa [List.getD_eq_getElem _ _ inside] at at_n

/-- Another source than the one set is as it was. -/
theorem State.source_setSource_ne (s : State) {i j : Fin 16} (x : Source) (other : j ≠ i) :
    (s.setSource i x).source j = s.source j := by
  have apart : i.val ≠ j.val := fun same => other (Fin.ext same.symm)
  simp [State.source, State.setSource, List.getD_eq_getElem?_getD, List.getElem?_set_ne apart]

/-- A source set is the source read. -/
theorem State.source_setSource_same (s : State) (len : s.sources.length = 16) (i : Fin 16) (x : Source) :
    (s.setSource i x).source i = x := by
  have inside : i.val < s.sources.length := by rw [len]; exact i.isLt
  simp [State.source, State.setSource, List.getD_eq_getElem?_getD, inside]

theorem State.evaluateGates_length (s : State) : s.evaluateGates.sources.length = 16 := State.mapSources_length _ _

/-- A source with the sample that its link delivers to it written into its line (R1, R4). -/
def State.sampled (s : State) (a b : LinkFrame) (i : Fin 16) (x : Source) : Source :=
  { x with
    line := lineWrite x.line ((s.link (linkOf i)).delivers (s.inWidth16 (linkOf i)) (frameOf a b (linkOf i)) (i.val % 8)) }

theorem State.inputPeriod_sources (s : State) (a b : LinkFrame) :
    (s.inputPeriod a b).sources = (s.mapSources (s.sampled a b)).sources := by
  unfold State.inputPeriod
  simp only [State.raiseIf_frame]
  rfl

theorem State.source_inputPeriod (s : State) (a b : LinkFrame) (i : Fin 16) :
    (s.inputPeriod a b).source i = s.sampled a b i (s.source i) :=
  (State.source_congr (s.inputPeriod_sources a b) i).trans (s.source_mapSources _ i)

/-! ### Samples of a block -/

theorem Entry.routeSamples_length (e : Entry) (line : List Sample) (full : line.length = 16384 + 95)
    (h : e.delaysLegal) : (e.routeSamples line).length = 48 := by
  obtain ⟨hd, _, hf⟩ := h
  unfold Entry.routeSamples
  split
  · rename_i destination progress unitLength pendingTarget m
    simp [tapBlock_length line _ full hd, tapBlock_length line _ full (hf _ _ _ _ m).1]
  · simp [tapBlock_length line _ full hd]

theorem Entry.scaledSamples_length (e : Entry) (line : List Sample) (full : line.length = 16384 + 95)
    (h : e.delaysLegal) : (e.scaledSamples line).length = 48 := by
  unfold Entry.scaledSamples
  dsimp only
  split
  · simp
  · simp [Entry.routeSamples_length e line full h]

/-- With full lines and legal delays the sums of a zone have 48 samples (R99). -/
theorem State.zoneSums_length (s : State) (z : Fin 24) (lines : ∀ i, (s.source i).line.length = 16384 + 95)
    (delays : s.delaysLegal) : (s.zoneSums z).length = 48 := by
  have all : ∀ (l : List Entry) (acc : List Int), (∀ e ∈ l, e.delaysLegal) → acc.length = 48 →
      (l.foldl (fun acc e => List.zipWith (· + ·) acc (e.scaledSamples (s.source e.pair.source).line)) acc).length
        = 48 := by
    intro l
    induction l with
    | nil => intro acc _ h; exact h
    | cons e l ih =>
      intro acc h hacc
      refine ih _ (fun x hx => h x (List.mem_cons_of_mem _ hx)) ?_
      simp [hacc, Entry.scaledSamples_length e _ (lines _) (h e (List.mem_cons_self ..))]
  exact all _ _ (fun e he => delays e (List.mem_of_mem_filter he)) (by simp)

theorem probeSamples_length (m n : Nat) : ∀ r, (probeSamples m n r).length = n := by
  induction n with
  | zero => intro r; rfl
  | succ n ih => intro r; simp [probeSamples, ih]

theorem State.zoneEnd_waiting (s : State) (z : Fin 24) (x : Zone) (sums : (s.zoneSums z).length = 48) :
    (s.zoneEnd z x).waiting.length = 48 := by
  unfold State.zoneEnd State.probeBlock
  dsimp only
  split
  · simp [probeSamples_length]
  · simp [sums]

/-! ### Delays of an entry -/

theorem Entry.delaysLegal_of_steady (e : Entry) (hd : delayLegal e.delay) (ht : delayLegal e.targetDelay)
    (rest : e.motion.isFading = false) : e.delaysLegal := by
  refine ⟨hd, ht, fun _ _ _ _ m => ?_⟩
  rw [m] at rest
  cases rest

theorem Entry.freeStep_delays (e : Entry) (slip : Nat) (h : e.delaysLegal) : (e.freeStep slip).delaysLegal := by
  obtain ⟨hd, ht, _⟩ := h
  unfold Entry.freeStep
  dsimp only
  split
  · exact Entry.delaysLegal_of_steady _ hd ht rfl
  · rename_i apart
    split
    · have between := stepTowards_between e.delay e.targetDelay (fun same => apart (by rw [same]; simp))
      refine Entry.delaysLegal_of_steady _ ?_ ht rfl
      simp only [delayLegal] at *
      omega
    · exact Entry.delaysLegal_of_steady _ hd ht rfl

theorem Entry.endFade_delays (e : Entry) (h : e.delaysLegal) : e.endFade.delaysLegal := by
  obtain ⟨hd, ht, hf⟩ := h
  unfold Entry.endFade
  split
  · rename_i destination progress unitLength pendingTarget m
    obtain ⟨dest, pend⟩ := hf _ _ _ _ m
    refine Entry.delaysLegal_of_steady _ dest ?_ rfl
    cases pendingTarget with
    | none => exact dest
    | some p => exact pend p rfl
  · exact ⟨hd, ht, hf⟩

theorem Entry.latestTarget_legal (e : Entry) (h : e.delaysLegal) : delayLegal e.latestTarget := by
  obtain ⟨hd, ht, hf⟩ := h
  unfold Entry.latestTarget
  split
  · rename_i destination progress unitLength pendingTarget m
    obtain ⟨dest, pend⟩ := hf _ _ _ _ m
    cases pendingTarget with
    | none => exact dest
    | some p => exact pend p rfl
  · exact ht

theorem Entry.motionStep_delays (e : Entry) (slip : Nat) (h : e.delaysLegal) : (e.motionStep slip).delaysLegal := by
  unfold Entry.motionStep
  split
  · exact Entry.delaysLegal_of_steady _ (e.latestTarget_legal h) (e.latestTarget_legal h) rfl
  · split
    · rename_i destination progress unitLength pendingTarget m
      split
      · exact Entry.freeStep_delays _ _ (e.endFade_delays h)
      · obtain ⟨hd, ht, hf⟩ := h
        refine ⟨hd, ht, fun _ _ _ _ m' => ?_⟩
        cases m'
        exact hf _ _ _ _ m
    · exact e.freeStep_delays slip h

theorem Entry.placeTarget_delays (e : Entry) (t : TargetDelay) (h : e.delaysLegal) (legal : delayLegal t.delay) :
    (e.placeTarget t).delaysLegal := by
  obtain ⟨hd, ht, hf⟩ := h
  cases m : e.motion with
  | fading destination progress unitLength pendingTarget =>
    simp only [Entry.placeTarget, m, Motion.withTarget, Motion.targetAfter, Entry.delaysLegal]
    refine ⟨hd, ht, fun _ _ _ _ m' => ?_⟩
    cases m'
    refine ⟨(hf _ _ _ _ m).1, fun p hp => ?_⟩
    split at hp
    · cases hp
    · cases hp
      exact legal
  | steady | slipping | awaitingFade =>
    refine Entry.delaysLegal_of_steady _ hd ?_ (by simp [Entry.placeTarget, m, Motion.withTarget, Motion.isFading])
    simpa [Entry.placeTarget, m, Motion.targetAfter] using legal

theorem State.targetDelayOf_legal (s : State) (p : Pair) : delayLegal (s.targetDelayOf p).delay := by
  unfold State.targetDelayOf
  split
  · exact Nat.zero_le _
  · exact clampRaw_range _

theorem State.newEntry_delays (s : State) (p : Pair) : (s.newEntry p).delaysLegal :=
  Entry.delaysLegal_of_steady _ (s.targetDelayOf_legal p) (s.targetDelayOf_legal p) rfl

/-! ### Properties of every entry through the list's operations -/

theorem State.retarget_forall {Q : Entry → Prop} (s : State) (chosen : Fin 16 → Bool) (h : ∀ e ∈ s.routes, Q e)
    (placed : ∀ e, Q e → Q (e.placeTarget (s.targetDelayOf e.pair))) : ∀ e ∈ (s.retarget chosen).routes, Q e := by
  refine State.mapRoutes_forall s _ h (fun e he => ?_)
  split
  · exact placed e he
  · exact he

theorem State.rebuildRoutes_forall {Q : Entry → Prop} (s : State) (h : ∀ e ∈ s.routes, Q e)
    (rebuilt : ∀ e a, Q e → Q (e.rebuilt a)) (new : ∀ u : State, ∀ p, Q (u.newEntry p)) :
    ∀ e ∈ s.rebuildRoutes.routes, Q e := by
  unfold State.rebuildRoutes
  simp only [State.raiseIf_frame]
  exact State.insertPairs_forall _ _ (State.mapRoutes_forall s _ h (fun e he => rebuilt e _ he)) (fun p _ => new _ p)

theorem State.serveRebuild_forall {Q : Entry → Prop} (s : State) (h : ∀ e ∈ s.routes, Q e)
    (rebuilt : ∀ e a, Q e → Q (e.rebuilt a)) (new : ∀ u : State, ∀ p, Q (u.newEntry p)) :
    ∀ e ∈ s.serveRebuild.routes, Q e := by
  have list := s.rebuildRoutes_forall h rebuilt new
  unfold State.serveRebuild
  (repeat' split) <;> first | exact list | exact h

theorem State.removeRetired_forall {Q : Entry → Prop} (s : State) (h : ∀ e ∈ s.routes, Q e)
    (new : ∀ u : State, ∀ p, Q (u.newEntry p)) : ∀ e ∈ s.removeRetired.routes, Q e :=
  State.insertPairs_forall _ _ (fun e he => h e (List.mem_of_mem_filter he)) (fun p _ => new _ p)

theorem State.setSources_sources (s : State) (body : List Word) (mask : Word) :
    (s.setSources body mask).sources
      = (s.mapSources (fun i x => if namesSource mask i then x.takeBody body else x)).sources := by
  unfold State.setSources
  dsimp only
  split <;> simp

theorem State.setSources_forall {Q : Entry → Prop} (s : State) (body : List Word) (mask : Word)
    (h : ∀ e ∈ s.routes, Q e) (placed : ∀ (u : State) e, Q e → Q (e.placeTarget (u.targetDelayOf e.pair))) :
    ∀ e ∈ (s.setSources body mask).routes, Q e := by
  unfold State.setSources
  dsimp only
  split
  all_goals exact State.retarget_forall (s.mapSources _) _ h (placed _)

/-- A source with its fields and position from a copy's record (R141). -/
def Source.reloaded (b : Bank) (i : Fin 16) (x : Source) : Source :=
  { x with mix := (b.sourceRow i).mix, pos := (b.sourceRow i).pos }

/-- A zone with its fields from a copy's record (R141). -/
def Zone.reloaded (b : Bank) (z : Fin 24) (x : Zone) : Zone := { x with mix := (b.zoneRow z).mix }

/-- The mix reloaded from the adopted copy (R141, R61, R42). -/
theorem State.reloadMix_live (s : State) (b : Bank) (h : s.adopted = some b) :
    s.reloadMix = (((s.mapSources (Source.reloaded b)).mapZones (Zone.reloaded b)).retarget
      (fun _ => true)).requestRebuild := by
  unfold State.reloadMix
  rw [h]
  rfl

theorem State.reloadMix_none (s : State) (h : s.adopted = none) : s.reloadMix = s := by
  unfold State.reloadMix
  rw [h]

theorem State.reloadMix_forall {Q : Entry → Prop} (s : State) (h : ∀ e ∈ s.routes, Q e)
    (placed : ∀ (u : State) e, Q e → Q (e.placeTarget (u.targetDelayOf e.pair))) :
    ∀ e ∈ s.reloadMix.routes, Q e := by
  cases live : s.adopted with
  | none => rw [s.reloadMix_none live]; exact h
  | some b =>
    rw [s.reloadMix_live b live]
    exact State.retarget_forall ((s.mapSources (Source.reloaded b)).mapZones (Zone.reloaded b)) (fun _ => true) h (placed _)

theorem Entry.rebuilt_motion (e : Entry) (admitted : Bool) :
    (e.rebuilt admitted).motion = e.motion ∧ (e.rebuilt admitted).delay = e.delay
      ∧ (e.rebuilt admitted).targetDelay = e.targetDelay := by
  unfold Entry.rebuilt
  split <;> exact ⟨rfl, rfl, rfl⟩

theorem State.composeEntry_motion (s : State) (e : Entry) :
    (s.composeEntry e).motion = e.motion ∧ (s.composeEntry e).delay = e.delay
      ∧ (s.composeEntry e).targetDelay = e.targetDelay := by
  unfold State.composeEntry
  split <;> exact ⟨rfl, rfl, rfl⟩

theorem Entry.delaysLegal_congr {e e' : Entry}
    (h : e'.motion = e.motion ∧ e'.delay = e.delay ∧ e'.targetDelay = e.targetDelay) (legal : e.delaysLegal) :
    e'.delaysLegal := by
  obtain ⟨m, d, t⟩ := h
  simpa only [Entry.delaysLegal, m, d, t] using legal

/-! ### The invariant -/

/-- What O51 states. -/
abbrev State.fullyShaped (s : State) : Prop := s.shaped ∧ s.delaysLegal

theorem State.fullyShaped_congr {s t : State} (sources : t.sources = s.sources) (zones : t.zones = s.zones)
    (routes : t.routes = s.routes) (h : s.fullyShaped) : t.fullyShaped := by
  simpa only [State.fullyShaped, State.shaped, State.delaysLegal, sources, zones, routes] using h

theorem State.fullyShaped_routes {s t : State} (sources : t.sources = s.sources) (zones : t.zones = s.zones)
    (routes : ∀ e ∈ t.routes, e.delaysLegal) (h : s.fullyShaped) : t.fullyShaped := by
  obtain ⟨shape, _⟩ := h
  exact ⟨by simpa only [State.shaped, sources, zones] using shape, routes⟩

theorem State.fullyShaped.line {s : State} (h : s.fullyShaped) (i : Fin 16) :
    (s.source i).line.length = 16384 + 95 := by
  obtain ⟨⟨sources, _, lines, _⟩, _⟩ := h
  exact lines _ (s.source_mem sources i)

theorem State.fullyShaped.waiting {s : State} (h : s.fullyShaped) (z : Fin 24) :
    (s.zone z).waiting.length = 48 := by
  obtain ⟨⟨_, zones, _, waiting⟩, _⟩ := h
  exact waiting _ (s.zone_mem zones z)

/-- A change of every source that keeps the lengths of the lines. -/
theorem State.fullyShaped_mapSources {s : State} (f : Fin 16 → Source → Source)
    (line : ∀ i x, x.line.length = 16384 + 95 → (f i x).line.length = 16384 + 95) (h : s.fullyShaped) :
    (s.mapSources f).fullyShaped := by
  have lines : ∀ x ∈ (s.mapSources f).sources, x.line.length = 16384 + 95 :=
    State.mapSources_forall s f (fun i => line i _ (h.line i))
  obtain ⟨⟨_, zones, _, waiting⟩, delays⟩ := h
  exact ⟨⟨s.mapSources_length f, zones, lines, waiting⟩, delays⟩

/-- A change of every zone that leaves 48 samples waiting. -/
theorem State.fullyShaped_mapZones {s : State} (f : Fin 24 → Zone → Zone)
    (waiting : ∀ z x, x.waiting.length = 48 → (f z x).waiting.length = 48) (h : s.fullyShaped) :
    (s.mapZones f).fullyShaped := by
  have waits : ∀ x ∈ (s.mapZones f).zones, x.waiting.length = 48 :=
    State.mapZones_forall s f (fun z => waiting z _ (h.waiting z))
  obtain ⟨⟨sources, _, lines, _⟩, delays⟩ := h
  exact ⟨⟨sources, s.mapZones_length f, lines, waits⟩, delays⟩

theorem State.fullyShaped_setSource {s : State} (i : Fin 16) (x : Source) (line : x.line.length = 16384 + 95)
    (h : s.fullyShaped) : (s.setSource i x).fullyShaped := by
  obtain ⟨⟨sources, zones, lines, waiting⟩, delays⟩ := h
  exact ⟨⟨by simpa [State.setSource] using sources, zones, State.setSource_forall s i x lines line, waiting⟩, delays⟩

theorem State.fullyShaped_releaseLast {s : State} (h : s.fullyShaped) : s.releaseLast.fullyShaped := by
  unfold State.releaseLast
  split
  · exact State.fullyShaped_mapSources _ (fun i x hx => by split <;> exact hx) h
  · exact h

theorem State.reset_fullyShaped : State.reset.fullyShaped := by
  refine ⟨⟨rfl, rfl, fun x hx => ?_, fun z hz => ?_⟩, fun e he => nomatch he⟩
  · rw [List.eq_of_mem_replicate hx]
    exact List.length_replicate
  · rw [List.eq_of_mem_replicate hz]
    exact List.length_replicate

theorem kept_fullyShaped : Kept State.fullyShaped where
  quiet := by
    rintro s t ⟨_, _, _, _, _, _, _, _, _, rfl⟩ h
    exact h
  powerOn := by
    rintro s t ⟨_, _, _, _, _, _, _, _, _, rfl⟩ _
    exact State.reset_fullyShaped
  survey s v _ h := h
  meter s m _ h := h
  input s a b h := by
    refine State.fullyShaped_congr (s.inputPeriod_sources a b) (by simp) (by simp)
      (State.fullyShaped_mapSources (s := s) (s.sampled a b) (fun i x hx => ?_) h)
    simp only [State.sampled, lineWrite, List.length_take, List.length_cons, hx]
    rfl
  output s n _ h := h
  sweep s n _ h := h
  links s h := h
  riseFloor s i h := State.fullyShaped_setSource i _ (h.line i) h
  expire s i _ h := State.fullyShaped_setSource i _ (h.line i) h
  evaluate s _ h := by
    have placed := State.fullyShaped_mapSources (s := s.raiseIf s.gateChangesLost .gate) (fun i x =>
      x.withGate ((settleGates s.paramsInForce.maxOpen s.paramsInForce.lastOn s.gateSteps s.levelOfSource).getD i.val
        (x.gate, x.holdCount))) (fun _ _ hx => hx) (State.fullyShaped_congr (by simp) (by simp) (by simp) h)
    refine State.fullyShaped_mapSources _ (fun i x hx => ?_) (State.fullyShaped_mapSources _ (fun i x hx => ?_) placed)
    · split
      · exact hx
      · obtain ⟨_, _, e⟩ := x.updateFloor_rest (State.levelOfSource _ i)
        rw [e]
        exact hx
    · split <;> exact hx
  rearbitrate s h := by
    unfold State.rearbitrate
    split
    · exact h
    · exact State.fullyShaped_mapSources _ (fun _ _ hx => hx) h
  release s h := State.fullyShaped_releaseLast h
  follow s before _ h := State.fullyShaped_releaseLast (State.fullyShaped_mapSources _ (fun i x hx => by
    rw [(x.followForce_spec (before i)).2.2.1]
    exact hx) h)
  count s h := h
  setSources s body mask _ h := by
    exact State.fullyShaped_routes (s.setSources_sources body mask) (by simp) (State.setSources_forall s body mask h.2
      (fun u e he => e.placeTarget_delays _ he (u.targetDelayOf_legal _)))
      (State.fullyShaped_mapSources (fun i x => if namesSource mask i then x.takeBody body else x)
        (fun i x hx => by split <;> exact hx) h)
  setZones s body low high h := State.fullyShaped_mapZones _ (fun z x hx => by split <;> exact hx) h
  saveScene s _ _ h := h
  restore s scene rest _ _ h :=
    State.fullyShaped_mapZones (fun z x => { x with mix := scene.zones.getD z.val x.mix }) (fun _ _ hx => hx)
      (State.fullyShaped_mapSources (fun i x => { x with mix := scene.sources.getD i.val x.mix }) (fun _ _ hx => hx) h)
  clearScenes s h := h
  adopt s a _ _ _ h := h
  unclaim s h := h
  validate s h := h
  dropAdoption s h := h
  install s a n _ _ _ h := State.fullyShaped_mapSources _ (fun _ x hx => by split <;> exact hx) h
  reload s h := by
    cases live : s.adopted with
    | none => rw [s.reloadMix_none live]; exact h
    | some b =>
      have routes := s.reloadMix_forall h.2 (fun u e he => e.placeTarget_delays _ he (u.targetDelayOf_legal _))
      rw [s.reloadMix_live b live] at routes ⊢
      exact State.fullyShaped_routes (s := (s.mapSources (Source.reloaded b)).mapZones (Zone.reloaded b)) rfl rfl routes
        (State.fullyShaped_mapZones (Zone.reloaded b) (fun _ _ hx => hx)
          (State.fullyShaped_mapSources (Source.reloaded b) (fun _ _ hx => hx) h))
  beginSurvey s v _ _ h := h
  stopProbe s h := by
    unfold State.stopProbe
    split
    · obtain ⟨⟨sources, zones, lines, waiting⟩, delays⟩ := h
      exact ⟨⟨sources, by simpa [State.setZone] using zones, lines,
        State.setZone_forall s _ _ waiting List.length_replicate⟩, delays⟩
    · exact h
  request s h := h
  serve s h := State.fullyShaped_routes (by simp) (by simp) (s.serveRebuild_forall h.2
    (fun e a he => Entry.delaysLegal_congr (e.rebuilt_motion a) he) (fun u p => u.newEntry_delays p)) h
  remove s h := State.fullyShaped_routes (by simp) (by simp) (s.removeRetired_forall h.2
    (fun u p => u.newEntry_delays p)) h
  compose s h := State.fullyShaped_routes (by simp) (by simp) (State.mapRoutes_forall s _ h.2
    (fun e he => Entry.delaysLegal_congr (s.composeEntry_motion e) he)) h
  glide s h := State.fullyShaped_routes (by simp) (by simp) (State.mapRoutes_forall s _ h.2 (fun _ he => he)) h
  motion s h := State.fullyShaped_routes (by simp) (by simp) (State.mapRoutes_forall s _ h.2
    (fun e he => e.motionStep_delays _ he)) h
  fadeEnd s pair h := State.fullyShaped_routes (by simp) (by simp) (State.mapRoutes_forall s _ h.2 (fun e he => by
    split
    · exact Entry.freeStep_delays _ _ (e.endFade_delays he)
    · exact he)) h
  grant s h := State.fullyShaped_routes (by simp) (by simp) (grantUnits_forall _ (fun e he _ =>
    ⟨he.1, he.2.1, fun _ _ _ _ m => by cases m; exact ⟨he.2.1, fun _ hp => nomatch hp⟩⟩) _ _ h.2) h
  resetUnits s _ h :=
    ⟨⟨s.mapSources_length _, State.mapZones_length _ _, State.mapSources_forall s _ (fun i => List.length_replicate),
      State.mapZones_forall (s.mapSources s.resetSource) _ (fun z => List.length_replicate)⟩, fun e he => nomatch he⟩
  endZones s h := State.fullyShaped_mapZones _
    (fun z x _ => s.zoneEnd_waiting z x (s.zoneSums_length z h.line h.2)) h
  discardSums s h := State.fullyShaped_mapZones _ (fun _ _ _ => List.length_replicate) h

/-- Settles O51: every operation keeps full lines, 48 samples waiting and delays inside the line. -/
theorem shapeStays : Obligations.ShapeStays := kept_fullyShaped.keptByStep

end Sys2Proof.Machine
end

section
/-! Counters through every operation (O53). -/

namespace Sys2Proof.Machine

/-! ### Counts and floors -/

theorem InLink.afterFrame_counts (l : InLink) (f : LinkFrame) (h : l.countsLegal) : (l.afterFrame f).countsLegal := by
  obtain ⟨lost, missing, good, inBlock⟩ := l
  obtain ⟨hm, hg⟩ := h
  simp only at hm hg
  unfold InLink.afterFrame
  cases lost <;> cases f <;> simp only [InLink.countsLegal]
  case false.missing => split <;> constructor <;> simp only <;> omega
  case true.good => split <;> constructor <;> simp only <;> omega
  all_goals omega

/-- A source's rise counter and floor in their ranges (R9). -/
abbrev Source.floorLegal (x : Source) : Prop := x.rise ≤ 255 ∧ ∀ v, x.floor = some v → -192 ≤ v ∧ v ≤ -24

theorem Source.floorLegal_reset : Source.reset.floorLegal := ⟨Nat.zero_le _, fun _ h => nomatch h⟩

theorem Source.riseFloor_legal (x : Source) (h : x.floorLegal) : x.riseFloor.floorLegal := by
  refine ⟨Nat.zero_le _, fun v hv => ?_⟩
  obtain ⟨w, hw, e⟩ := Option.map_eq_some_iff.1 hv
  have range := h.2 w hw
  split at e <;> omega

/-- A floor follows a level in -192..0 inside its range (R9). -/
theorem Source.updateFloor_legal (x : Source) (level : Int) (range : -192 ≤ level ∧ level ≤ 0) (h : x.floorLegal) :
    (x.updateFloor level).floorLegal := by
  unfold Source.updateFloor
  split
  · refine ⟨Nat.zero_le _, fun v hv => ?_⟩
    have e : clampInt (-192) (-24) level = v := Option.some.inj hv
    rw [clampInt_eq _ _ _ (by omega)] at e
    omega
  · rename_i v hv
    have old := h.2 v hv
    split
    · refine ⟨Nat.zero_le _, fun w hw => ?_⟩
      have e : level = w := Option.some.inj hw
      omega
    · split
      · exact x.riseFloor_legal h
      · exact ⟨by simp only; omega, h.2⟩

/-! ### The invariant -/

/-- What `countersLegal` reads, but for the sources and the zones. -/
theorem State.countersLegal_members {s t : State} (a : t.linkA = s.linkA) (b : t.linkB = s.linkB)
    (sources : ∀ x ∈ t.sources, x.floorLegal) (sweep : t.sweepPos = s.sweepPos) (out : t.outIndex = s.outIndex)
    (meter : t.meter = s.meter) (zones : ∀ z ∈ t.zones, z.clipCount ≤ 65535) (scenes : t.scenes = s.scenes)
    (h : s.countersLegal) : t.countersLegal := by
  obtain ⟨ha, hb, _, hs, ho, hm, _, hc⟩ := h
  exact ⟨a ▸ ha, b ▸ hb, sources, sweep ▸ hs, out ▸ ho, meter ▸ hm, zones, scenes ▸ hc⟩

theorem State.countersLegal.floors {s : State} (h : s.countersLegal) : ∀ x ∈ s.sources, x.floorLegal := h.2.2.1

theorem State.countersLegal.clips {s : State} (h : s.countersLegal) : ∀ z ∈ s.zones, z.clipCount ≤ 65535 := by
  obtain ⟨_, _, _, _, _, _, clips, _⟩ := h
  exact clips

theorem State.countersLegal.source {s : State} (h : s.countersLegal) (i : Fin 16) : (s.source i).floorLegal :=
  s.source_has h.floors Source.floorLegal_reset i

theorem State.countersLegal.zone {s : State} (h : s.countersLegal) (z : Fin 24) : (s.zone z).clipCount ≤ 65535 :=
  s.zone_has h.clips (Nat.zero_le _) z

/-- A change of every source that keeps floors and rise counters in their ranges. -/
theorem State.countersLegal_mapSources {s : State} (f : Fin 16 → Source → Source)
    (floor : ∀ i x, x.floorLegal → (f i x).floorLegal) (h : s.countersLegal) : (s.mapSources f).countersLegal :=
  State.countersLegal_members (s := s) rfl rfl (State.mapSources_forall s f (fun i => floor i _ (h.source i))) rfl rfl rfl
    h.clips rfl h

/-- A change of every zone that keeps the clip counters in their range. -/
theorem State.countersLegal_mapZones {s : State} (f : Fin 24 → Zone → Zone)
    (clips : ∀ z x, x.clipCount ≤ 65535 → (f z x).clipCount ≤ 65535) (h : s.countersLegal) :
    (s.mapZones f).countersLegal :=
  State.countersLegal_members (s := s) rfl rfl h.floors rfl rfl rfl
    (State.mapZones_forall s f (fun z => clips z _ (h.zone z))) rfl h

theorem State.countersLegal_setSource {s : State} (i : Fin 16) (x : Source) (floor : x.floorLegal)
    (h : s.countersLegal) : (s.setSource i x).countersLegal :=
  State.countersLegal_members (s := s) rfl rfl (State.setSource_forall s i x h.floors floor) rfl rfl rfl h.clips rfl h

/-- A change of other fields. -/
theorem State.countersLegal_congr {s t : State} (a : t.linkA = s.linkA) (b : t.linkB = s.linkB)
    (sources : t.sources = s.sources) (sweep : t.sweepPos = s.sweepPos) (out : t.outIndex = s.outIndex)
    (meter : t.meter = s.meter) (zones : t.zones = s.zones) (scenes : t.scenes = s.scenes)
    (h : s.countersLegal) : t.countersLegal :=
  State.countersLegal_members a b (sources ▸ h.floors) sweep out meter (zones ▸ h.clips) scenes h

theorem State.countersLegal_quiet {s t : State} (quiet : s.quietTo t) (h : s.countersLegal) : t.countersLegal := by
  obtain ⟨_, _, _, _, _, _, _, _, _, rfl⟩ := quiet
  exact h

theorem State.countersLegal_releaseLast {s : State} (h : s.countersLegal) : s.releaseLast.countersLegal := by
  unfold State.releaseLast
  split
  · exact State.countersLegal_mapSources _ (fun i x hx => by split <;> exact hx) h
  · exact h

theorem State.reset_countersLegal : State.reset.countersLegal := by
  refine ⟨by decide, by decide, fun x hx => ?_, by decide, by decide, by decide, fun z hz => ?_, by decide⟩
  · rw [List.eq_of_mem_replicate hx]
    exact Source.floorLegal_reset
  · rw [List.eq_of_mem_replicate hz]
    exact Nat.zero_le _

theorem kept_countersLegal : Kept State.countersLegal where
  quiet _ _ quiet h := State.countersLegal_quiet quiet h
  powerOn _ _ quiet _ := State.countersLegal_quiet quiet State.reset_countersLegal
  survey s v _ h := h
  meter s m skip h := by
    obtain ⟨a, b, floors, sweep, out, skips, clips, depth⟩ := h
    exact ⟨a, b, floors, sweep, out, skip skips, clips, depth⟩
  input s a b h := by
    have floors := State.mapSources_forall (P := Source.floorLegal) s (fun i x =>
      { x with line := lineWrite x.line ((s.link (linkOf i)).delivers (s.inWidth16 (linkOf i))
          (frameOf a b (linkOf i)) (i.val % 8)) }) h.source
    obtain ⟨countsA, countsB, _, sweep, out, skips, clips, depth⟩ := h
    refine State.countersLegal_quiet (State.quietTo_raiseIf _ _ _) ⟨s.linkA.afterFrame_counts a countsA, s.linkB.afterFrame_counts b countsB, floors, sweep,
      out, skips, clips, depth⟩
  output s n inside h := by
    obtain ⟨a, b, floors, sweep, out, skips, clips, depth⟩ := h
    exact ⟨a, b, floors, sweep, inside, skips, clips, depth⟩
  sweep s n inside h := by
    obtain ⟨a, b, floors, sweep, out, skips, clips, depth⟩ := h
    exact ⟨a, b, floors, inside, out, skips, clips, depth⟩
  links s h := h
  riseFloor s i h := State.countersLegal_setSource i _ ((s.source i).riseFloor_legal (h.source i)) h
  expire s i _ h := State.countersLegal_setSource i _ (h.source i) h
  evaluate s levels h := by
    refine State.countersLegal_members (by simp) (by simp) ?_ (by simp) (by simp) (by simp) ?_ (by simp) h
    · refine State.sources_forall _ s.evaluateGates_length (fun i => ?_)
      rw [State.source_evaluateGates]
      split
      · exact ⟨Nat.zero_le _, fun _ hv => nomatch hv⟩
      · exact Source.updateFloor_legal ((s.source i).withGate (s.evaluatedGate i)) _ (levels i) (h.source i)
    · simpa using h.clips
  rearbitrate s h := by
    unfold State.rearbitrate
    split
    · exact h
    · exact State.countersLegal_mapSources _ (fun _ _ hx => hx) h
  release s h := State.countersLegal_releaseLast h
  follow s before _ h := State.countersLegal_releaseLast (State.countersLegal_mapSources _ (fun i x hx => by
    obtain ⟨_, _, _, floor, rise, _⟩ := x.followForce_spec (before i)
    rw [Source.floorLegal, floor, rise]
    exact hx) h)
  count s h := h
  setSources s body mask _ h := by
    have mapped := State.countersLegal_mapSources (fun i x => if namesSource mask i then x.takeBody body else x)
      (fun i x hx => by split <;> exact hx) h
    refine State.countersLegal_congr (by simp) (by simp) ?_ (by simp) (by simp) (by simp) (by simp) ?_ mapped
    · unfold State.setSources
      dsimp only
      split <;> simp
    · simp
  setZones s body low high h := State.countersLegal_mapZones _ (fun z x hx => by split <;> exact hx) h
  saveScene s _ room h := by
    obtain ⟨a, b, floors, sweep, out, skips, clips, depth⟩ := h
    exact ⟨a, b, floors, sweep, out, skips, clips, room⟩
  restore s scene rest _ top h := by
    have restored := State.countersLegal_mapZones (fun z x => { x with mix := scene.zones.getD z.val x.mix })
      (fun _ _ hx => hx) (State.countersLegal_mapSources (s := s)
        (fun i x => { x with mix := scene.sources.getD i.val x.mix }) (fun _ _ hx => hx) h)
    obtain ⟨a, b, floors, sweep, out, skips, clips, _⟩ := restored
    obtain ⟨_, _, _, _, _, _, _, depth⟩ := h
    rw [top, List.length_cons] at depth
    exact ⟨a, b, floors, sweep, out, skips, clips, Nat.le_of_succ_le depth⟩
  clearScenes s h := by
    obtain ⟨a, b, floors, sweep, out, skips, clips, depth⟩ := h
    exact ⟨a, b, floors, sweep, out, skips, clips, Nat.zero_le _⟩
  adopt s a _ _ _ h := h
  unclaim s h := h
  validate s h := h
  dropAdoption s h := h
  install s a n _ _ _ h := State.countersLegal_mapSources _ (fun _ x hx => by split <;> exact hx) h
  reload s h := by
    cases live : s.adopted with
    | none => rw [s.reloadMix_none live]; exact h
    | some b =>
      rw [s.reloadMix_live b live]
      exact State.countersLegal_mapZones (s := s.mapSources (Source.reloaded b)) (Zone.reloaded b) (fun _ _ hx => hx)
          (State.countersLegal_mapSources (s := s) (Source.reloaded b) (fun _ _ hx => hx) h)
  beginSurvey s v _ _ h := h
  stopProbe s h := by
    unfold State.stopProbe
    split
    · exact State.countersLegal_members (s := s) rfl rfl h.floors rfl rfl rfl
        (State.setZone_forall s _ _ h.clips (h.zone _)) rfl h
    · exact h
  request s h := h
  serve s h := State.countersLegal_congr (by simp) (by simp) (by simp) (by simp) (by simp) (by simp) (by simp) (by simp) h
  remove s h := State.countersLegal_congr (by simp) (by simp) (by simp) (by simp) (by simp) (by simp) (by simp) (by simp) h
  compose s h := h
  glide s h := h
  motion s h := h
  fadeEnd s pair h := h
  grant s h := h
  resetUnits s _ h := by
    obtain ⟨a, b, floors, sweep, out, skips, clips, depth⟩ := h
    exact ⟨a, b, State.mapSources_forall s _ (fun i => Source.floorLegal_reset), sweep, out, skips,
      State.mapZones_forall (s.mapSources s.resetSource) _ (fun z => Nat.zero_le _), Nat.zero_le _⟩
  endZones s h := State.countersLegal_mapZones _ (fun z x hx => by
    unfold State.zoneEnd
    dsimp only
    split
    · exact Nat.min_le_right ..
    · exact hx) h
  discardSums s h := State.countersLegal_mapZones _ (fun _ _ hx => hx) h

/-- Settles O53: every operation keeps the counters in their ranges. -/
theorem countersStayInRange : Obligations.CountersStayInRange := kept_countersLegal.keptByStep

end Sys2Proof.Machine
end

section
/-! NO_BANK, surveys against adoptions, and the rebuild of an engine reset (O56). -/

namespace Sys2Proof.Machine

/-! ### NO_BANK stays idle -/

/-- What O56 states of NO_BANK. -/
abbrev State.idleInNoBank (s : State) : Prop := s.noBankIdle ∧ s.sources.length = 16

/-- A gate as NO_BANK has it (R18). -/
abbrev GateState.resting (g : GateState) : Prop := g = .closed ∨ g = .lost

theorem GateState.resting.uncounted {g : GateState} (h : g.resting) : g.counted = false := by
  rcases h with rfl | rfl <;> rfl

theorem State.idleInNoBank_quiet {s t : State} (quiet : s.quietTo t) (h : s.idleInNoBank) : t.idleInNoBank := by
  obtain ⟨_, _, _, _, _, _, _, _, _, rfl⟩ := quiet
  exact h

theorem State.idleInNoBank_of_live {s : State} (len : s.sources.length = 16) (live : s.live ≠ none) :
    s.idleInNoBank := ⟨fun off => absurd off live, len⟩

/-- In NO_BANK a source at its number rests. -/
theorem State.idleInNoBank.rests {s : State} (h : s.idleInNoBank) (live : s.live = none) (i : Fin 16) :
    (s.source i).gate.resting := by
  obtain ⟨_, _, _, _, _, _, gates⟩ := h.1 live
  exact gates _ (s.source_mem h.2 i)

/-- A change that keeps all but the sources, and leaves the gates at rest in NO_BANK. -/
theorem State.idleInNoBank_sources {s t : State} (live : t.live = s.live) (routes : t.routes = s.routes)
    (unserved : t.unserved = s.unserved) (admitted : t.admitted = s.admitted) (scenes : t.scenes = s.scenes)
    (phase : t.survey = s.survey) (nom : t.nom = s.nom) (len : t.sources.length = 16)
    (gates : s.live = none → ∀ i, (t.source i).gate.resting) (h : s.idleInNoBank) : t.idleInNoBank := by
  refine ⟨fun none => ?_, len⟩
  rw [live] at none
  obtain ⟨r, u, a, c, p, n, _⟩ := h.1 none
  exact ⟨routes ▸ r, unserved ▸ u, admitted ▸ a, scenes ▸ c, phase ▸ p, nom ▸ n,
    t.sources_forall len (gates none)⟩

/-- A change of every source that keeps gates at rest. -/
theorem State.idleInNoBank_mapSources {s : State} (f : Fin 16 → Source → Source)
    (gates : ∀ i x, x.gate.resting → (f i x).gate.resting) (h : s.idleInNoBank) : (s.mapSources f).idleInNoBank :=
  State.idleInNoBank_sources (s := s) rfl rfl rfl rfl rfl rfl rfl (s.mapSources_length f)
    (fun live i => by rw [State.source_mapSources]; exact gates i _ (h.rests live i)) h

/-- A change that keeps all but the list of routes, whose list stays empty in NO_BANK. -/
theorem State.idleInNoBank_routes {s t : State} (live : t.live = s.live) (scenes : t.scenes = s.scenes)
    (phase : t.survey = s.survey) (nom : t.nom = s.nom) (sources : t.sources = s.sources)
    (lists : s.live = none → t.routes = [] ∧ t.unserved = [] ∧ t.admitted = []) (h : s.idleInNoBank) :
    t.idleInNoBank := by
  refine ⟨fun none => ?_, sources ▸ h.2⟩
  rw [live] at none
  obtain ⟨_, _, _, c, p, n, g⟩ := h.1 none
  obtain ⟨r, u, a⟩ := lists none
  exact ⟨r, u, a, scenes ▸ c, phase ▸ p, nom ▸ n, sources ▸ g⟩

/-- In NO_BANK there is no list to change. -/
theorem State.idleInNoBank_mapRoutes {s : State} (f : Entry → Entry) (h : s.idleInNoBank) :
    (s.mapRoutes f).idleInNoBank :=
  State.idleInNoBank_routes (s := s) rfl rfl rfl rfl rfl (fun none => by
    obtain ⟨r, u, a, _⟩ := h.1 none
    exact ⟨by rw [State.mapRoutes, State.withRoutes_routes, r]; rfl, u, a⟩) h

/-- The engine's gates in NO_BANK are evaluated to CLOSED or LOST (R18). -/
theorem State.evaluatedGate_noBank (s : State) (live : s.live = none) (i : Fin 16) :
    (s.evaluatedGate i).1.resting := by
  have own : ∀ j, stepAt s.gateSteps j = .settled (if s.lostBlock j then .lost else .closed) := by
    intro j
    rw [State.gateSteps, stepAt_map]
    unfold Source.gateStep State.evalParams State.adopted
    rw [live]
    split <;> simp_all
  unfold State.evaluatedGate settledGate
  rw [stepAt_map]
  unfold arbitrated
  rw [own]
  dsimp only
  split
  · exact .inr rfl
  · exact .inl rfl

theorem State.idleInNoBank_releaseLast {s : State} (h : s.idleInNoBank) : s.releaseLast.idleInNoBank := by
  unfold State.releaseLast
  split
  · exact State.idleInNoBank_mapSources _ (fun i x hx => by split <;> first | exact .inl rfl | exact hx) h
  · exact h

theorem State.reset_idleInNoBank : State.reset.idleInNoBank :=
  ⟨fun _ => ⟨rfl, rfl, rfl, rfl, rfl, rfl, fun x hx => by rw [List.eq_of_mem_replicate hx]; exact .inl rfl⟩, rfl⟩

theorem resetGate_resting (linkLost : Bool) (mode : ForceMode) : (resetGate false linkLost mode).resting := by
  unfold resetGate
  split
  · exact .inr rfl
  · exact .inl rfl

theorem State.countedGates_rest (s : State) (h : ∀ x ∈ s.sources, x.gate.resting) : s.countedGates = 0 := by
  unfold State.countedGates
  rw [List.length_eq_zero_iff, List.filter_eq_nil_iff]
  intro x hx
  rw [(h x hx).uncounted]
  exact Bool.false_ne_true

theorem State.running_of_none {s : State} (h : s.live = none) : s.running = false := by
  unfold State.running
  rw [h]
  rfl

theorem kept_idleInNoBank : Kept State.idleInNoBank where
  quiet _ _ quiet h := State.idleInNoBank_quiet quiet h
  powerOn _ _ quiet _ := State.idleInNoBank_quiet quiet State.reset_idleInNoBank
  survey s v idle h := by
    refine ⟨fun none => ?_, h.2⟩
    obtain ⟨r, u, a, c, p, n, g⟩ := h.1 none
    exact ⟨r, u, a, c, idle p, n, g⟩
  meter s m _ h := h
  input s a b h := by
    refine State.idleInNoBank_sources (s := s) (by simp) (by simp) (by simp) (by simp) (by simp) (by simp) (by simp)
      (by rw [s.inputPeriod_sources]; exact s.mapSources_length _) (fun live i => ?_) h
    rw [s.source_inputPeriod]
    exact h.rests live i
  output s n _ h := h
  sweep s n _ h := h
  links s h := h
  riseFloor s i h := by
    refine ⟨fun none => ?_, by simpa [State.setSource] using h.2⟩
    obtain ⟨r, u, a, c, p, n, g⟩ := h.1 none
    exact ⟨r, u, a, c, p, n, State.setSource_forall s i _ g (h.rests none i)⟩
  expire s i due h := by
    refine State.idleInNoBank_of_live (by simpa [State.expireHold, State.setSource] using h.2) (fun off => ?_)
    have live : s.live = none := by simpa using off
    simp [State.atExpiry, State.running_of_none live] at due
  evaluate s _ h := by
    refine State.idleInNoBank_sources (by simp) (by simp) (by simp) (by simp) (by simp) (by simp) (by simp)
      s.evaluateGates_length (fun live i => ?_) h
    obtain ⟨_, _, e⟩ := s.evaluateGates_rest i
    rw [e]
    exact s.evaluatedGate_noBank live i
  rearbitrate s h := by
    unfold State.rearbitrate
    split
    · exact h
    · rename_i p live
      refine State.idleInNoBank_of_live (State.mapSources_length _ _) (fun off => ?_)
      have off : s.live = none := by simpa using off
      simp [State.evalParams, State.adopted, off] at live
  release s h := State.idleInNoBank_releaseLast h
  follow s before same h := by
    refine State.idleInNoBank_releaseLast (State.idleInNoBank_sources (s := s) rfl rfl rfl rfl rfl rfl rfl
      (State.mapSources_length _ _) (fun live i => ?_) h)
    rw [State.source_followForces_same s before i (same live i)]
    exact h.rests live i
  count s h := by
    refine ⟨fun none => ?_, h.2⟩
    obtain ⟨r, u, a, c, p, n, g⟩ := h.1 none
    exact ⟨r, u, a, c, p, s.countedGates_rest g, g⟩
  setSources s body mask live h := by
    refine State.idleInNoBank_of_live ?_ (by simpa using live)
    unfold State.setSources
    dsimp only
    split
    all_goals exact State.mapSources_length _ _
  setZones s body low high h := h
  saveScene s live _ h := State.idleInNoBank_of_live h.2 live
  restore s scene rest live _ h := State.idleInNoBank_of_live
    (s.mapSources_length (fun i x => { x with mix := scene.sources.getD i.val x.mix })) live
  clearScenes s h := by
    refine ⟨fun none => ?_, h.2⟩
    obtain ⟨r, u, a, c, p, n, g⟩ := h.1 none
    exact ⟨r, u, a, rfl, p, n, g⟩
  adopt s a _ _ _ h := h
  unclaim s h := h
  validate s h := h
  dropAdoption s h := h
  install s a n _ _ _ h := State.idleInNoBank_of_live (State.mapSources_length _ _) (fun none => nomatch none)
  reload s h := by
    cases live : s.adopted with
    | none => rw [s.reloadMix_none live]; exact h
    | some b =>
      rw [s.reloadMix_live b live]
      refine State.idleInNoBank_of_live (State.mapSources_length _ _) (fun off => ?_)
      have off : s.live = none := off
      simp [State.adopted, off] at live
  beginSurvey s v live _ h := State.idleInNoBank_of_live h.2 live
  stopProbe s h := State.idleInNoBank_sources (by simp) (by simp) (by simp) (by simp) (by simp) (by simp) (by simp)
    (by simpa using h.2) (fun live i => by rw [State.source_congr (s := s) (by simp)]; exact h.rests live i) h
  request s h := h
  serve s h := by
    refine State.idleInNoBank_routes (by simp) (by simp) (by simp) (by simp) (by simp) (fun none => ?_) h
    obtain ⟨r, u, a, _⟩ := h.1 none
    unfold State.serveRebuild
    rw [State.running_of_none none]
    (repeat' split) <;> first | exact ⟨r, u, a⟩ | contradiction
  remove s h := by
    refine State.idleInNoBank_routes (by simp) (by simp) (by simp) (by simp) (by simp) (fun none => ?_) h
    obtain ⟨r, u, a, _⟩ := h.1 none
    simp [State.removeRetired, State.insertPairs, r, u, a]
  compose s h := State.idleInNoBank_mapRoutes _ h
  glide s h := State.idleInNoBank_mapRoutes _ h
  motion s h := State.idleInNoBank_mapRoutes _ h
  fadeEnd s pair h := State.idleInNoBank_mapRoutes _ h
  grant s h := State.idleInNoBank_routes (s := s) rfl rfl rfl rfl rfl (fun none => by
    obtain ⟨r, u, a, _⟩ := h.1 none
    simp [State.grantFades, r, u, a, grantUnits]) h
  resetUnits s idle h := by
    refine ⟨fun off => ?_, State.mapSources_length _ _⟩
    have live : s.live = none := off
    obtain ⟨_, _, _, _, p, n, _⟩ := h.1 live
    refine ⟨rfl, rfl, rfl, rfl, p, n, State.mapSources_forall s _ (fun i => ?_)⟩
    show (resetGate s.running _ _).resting
    rw [State.running_of_none live]
    exact resetGate_resting _ _
  endZones s h := h
  discardSums s h := h

/-! ### A survey and an adoption exclude each other (R141) -/

theorem State.surveyOrAdoption_quiet {s t : State} (quiet : s.quietTo t) (h : s.surveyOrAdoption) :
    t.surveyOrAdoption := by
  obtain ⟨_, _, _, _, _, _, _, _, _, rfl⟩ := quiet
  exact h

theorem State.surveyOrAdoption_congr {s t : State} (survey : t.survey = s.survey) (adoption : t.adoption = s.adoption)
    (h : s.surveyOrAdoption) : t.surveyOrAdoption := by
  simpa only [State.surveyOrAdoption, State.surveying, survey, adoption] using h

theorem kept_surveyOrAdoption : Kept State.surveyOrAdoption where
  quiet _ _ quiet h := State.surveyOrAdoption_quiet quiet h
  powerOn _ _ quiet _ := State.surveyOrAdoption_quiet quiet (.inr rfl)
  survey s v idle h := by
    refine h.imp_left (fun none => ?_)
    have phase : s.survey.phase = .idle := by simpa [State.surveying] using none
    simp [State.surveying, idle phase]
  meter s m _ h := h
  input s a b h := State.surveyOrAdoption_congr (by simp) (by simp) h
  output s n _ h := h
  sweep s n _ h := h
  links s h := h
  riseFloor s i h := h
  expire s i _ h := h
  evaluate s _ h := State.surveyOrAdoption_congr (by simp) (by simp) h
  rearbitrate s h := State.surveyOrAdoption_congr (by simp) (by simp) h
  release s h := State.surveyOrAdoption_congr (by simp) (by simp) h
  follow s before _ h := State.surveyOrAdoption_congr (by simp) (by simp) h
  count s h := h
  setSources s body mask _ h := State.surveyOrAdoption_congr (by simp) (by simp) h
  setZones s body low high h := h
  saveScene s _ _ h := h
  restore s scene rest _ _ h := h
  clearScenes s h := h
  adopt s a idle _ _ h := .inl idle
  unclaim s h := h.imp_right (fun none => by simp [none])
  validate s h := h.imp_right (fun none => by simp [State.validate, none])
  dropAdoption s h := .inr rfl
  install s a n _ _ _ h := .inr rfl
  reload s h := State.surveyOrAdoption_congr (by simp) (by simp) h
  beginSurvey s v _ free h := .inr free
  stopProbe s h := State.surveyOrAdoption_congr (by simp) (by simp) h
  request s h := h
  serve s h := State.surveyOrAdoption_congr (by simp) (by simp) h
  remove s h := h
  compose s h := h
  glide s h := h
  motion s h := h
  fadeEnd s pair h := h
  grant s h := h
  resetUnits s _ h := h
  endZones s h := h
  discardSums s h := h

/-! ### The rebuild of an engine reset is served where it is asked for (R54) -/

/-- A rebuild that has been served or deferred is no engine reset's (R50, R54). -/
theorem State.serveRebuild_resetRebuilt (s : State) : s.serveRebuild.resetRebuilt := by
  have list : s.rebuildRoutes.rebuild = .none := by simp [State.rebuildRoutes]
  unfold State.serveRebuild State.resetRebuilt
  cases request : s.rebuild with
  | none => simp [request]
  | requested => dsimp only; (repeat' split) <;> simp [request, list]
  | forced => dsimp only; split <;> simp [list]

/-! ### A block start in its parts (R166) -/

/-- The state at the end of the ended block, with the next block's number. -/
def State.ended (s : State) : State := s.finishSweep.endBlock.nextBlock

/-- The state that the boundary's works and the gate evaluation leave. -/
def State.boundary (s : State) (r : BlockRaces) : State :=
  if s.ended.port.resetRequest then s.ended.resetBoundary r else s.ended.plainBoundary r

/-- The state that the cues leave. -/
def State.cued (s : State) (r : BlockRaces) : State :=
  if r.completionBeforeAbort then (s.boundary r).glide.applyTaken else (s.boundary r).glide.applyTaken.lateCompletion

/-- The state with the force modes followed and LAST released. -/
def State.followed (s : State) (r : BlockRaces) : State :=
  ((s.cued r).followForces (s.ended.evaluatedForces (s.boundary r))).releaseLast

/-- The state with the new list and its targets. -/
def State.mixed (s : State) (r : BlockRaces) : State := (s.followed r).countNom.serveRebuild.removeRetired.compose

theorem State.blockStart_eq (s : State) (r : BlockRaces) :
    s.blockStart r = (s.mixed r).motionSteps.grantFades.mutingEnd.meterStep.openBlock := rfl

/-- What the last works of a block start leave as the list's composition left it. -/
theorem State.blockStart_of_mixed (s : State) (r : BlockRaces) :
    (s.blockStart r).sources = (s.mixed r).sources ∧ (s.blockStart r).zones = (s.mixed r).zones
    ∧ (s.blockStart r).nom = (s.mixed r).nom ∧ (s.blockStart r).rebuild = (s.mixed r).rebuild
    ∧ (s.blockStart r).live = (s.mixed r).live ∧ (s.blockStart r).adoption = (s.mixed r).adoption
    ∧ (s.blockStart r).scenes = (s.mixed r).scenes ∧ (s.blockStart r).admitted = (s.mixed r).admitted
    ∧ (s.blockStart r).unserved = (s.mixed r).unserved ∧ (s.blockStart r).block = (s.mixed r).block
    ∧ (s.blockStart r).outIndex = (s.mixed r).outIndex ∧ (s.blockStart r).takeList = (s.mixed r).takeList
    ∧ (s.blockStart r).outSlots = (s.mixed r).outSlots := by
  rw [State.blockStart_eq]
  simp

/-- The gates, the mixes and NOM that a block start leaves are those after the force modes (R17, R19). -/
theorem State.blockStart_of_followed (s : State) (r : BlockRaces) :
    (s.blockStart r).sources = (s.followed r).sources ∧ (s.blockStart r).zones = (s.followed r).zones
    ∧ (s.blockStart r).nom = (s.followed r).countedGates
    ∧ (s.blockStart r).rebuild = (s.followed r).countNom.serveRebuild.rebuild := by
  obtain ⟨sources, zones, nom, rebuild, _⟩ := s.blockStart_of_mixed r
  rw [sources, zones, nom, rebuild]
  simp [State.mixed]

/-! ### Which commands settle the lists and NOM -/

/-- `t` has the request for a rebuild, NOM and the gates of `s`. -/
def State.sameCounts (s t : State) : Prop :=
  t.rebuild = s.rebuild ∧ t.nom = s.nom
  ∧ (s.sources.length = 16 → t.sources.length = 16 ∧ ∀ i, (t.source i).gate = (s.source i).gate)

theorem State.sameCounts_of_sources {s t : State} (rebuild : t.rebuild = s.rebuild) (nom : t.nom = s.nom)
    (sources : t.sources = s.sources) : s.sameCounts t :=
  ⟨rebuild, nom, fun len => ⟨sources ▸ len, fun i => by rw [State.source_congr sources]⟩⟩

theorem State.sameCounts_inputPeriod (s : State) (a b : LinkFrame) : s.sameCounts (s.inputPeriod a b) :=
  ⟨by simp, by simp, fun _ =>
    ⟨by rw [s.inputPeriod_sources]; exact s.mapSources_length _, fun i => by rw [State.source_inputPeriod]; rfl⟩⟩

theorem State.sameCounts_inputPeriodOf (s : State) (l : LinkId) (a b : LinkFrame) :
    s.sameCounts (s.inputPeriodOf l a b) := by
  cases l <;> exact s.sameCounts_inputPeriod ..

/-- The five ways in which a command leaves the request for a rebuild, NOM and the gates. -/
inductive CountsAfter (s : State) : State → Prop
  | settled (u : State) (len : s.sources.length = 16 → u.sources.length = 16) : CountsAfter s u.settle
  | begun (r : BlockRaces) : CountsAfter s (s.blockStart r)
  | powerOn (t : State) (h : State.reset.quietTo t) : CountsAfter s t
  | expired (i : Fin 16) (due : s.atExpiry i = true) : CountsAfter s (s.expireHold i).countNom.compose
  | same (t : State) (h : s.sameCounts t) : CountsAfter s t

theorem CountsAfter.rest (s : State) : CountsAfter s s := .same s (State.sameCounts_of_sources rfl rfl rfl)

/-- A state with the request, NOM and the sources of the one before. -/
theorem CountsAfter.of_frame {s t : State} (rebuild : t.rebuild = s.rebuild) (nom : t.nom = s.nom)
    (sources : t.sources = s.sources) : CountsAfter s t := .same t (State.sameCounts_of_sources rebuild nom sources)

/-- A command ends in `State.settle`, is a block start, a power-on reset or the expiry of a hold, or leaves the request
for a rebuild, NOM and the gates. -/
theorem exec_countsAfter (c : Instr) (s t : State) (e : exec c s = .next t) : CountsAfter s t := by
  have host : ∀ a v, CountsAfter s (s.hostWrite a v) := fun a v => .of_frame (by simp) (by simp) (by simp)
  have faulted : ∀ item f, CountsAfter s (s.faulted item f) := fun item f => .of_frame (by simp) (by simp) (by simp)
  cases c <;> obtain rfl := (Host.Outcome.next.inj e).symm
  case powerOnReset strap => exact .powerOn _ ⟨_, _, _, _, _, _, _, _, _, rfl⟩
  case inputFrame a b => exact .same _ (s.sameCounts_inputPeriod a b)
  case linkLost l f =>
    split
    · exact .same _ (s.sameCounts_inputPeriodOf ..)
    · exact .rest s
  case linkRecovery l slots f =>
    split
    · exact .same _ (s.sameCounts_inputPeriodOf ..)
    · exact .rest s
  case outputFrame =>
    split
    · exact .of_frame rfl rfl rfl
    · exact .rest s
  case blockStart r => exact .begun r
  case floorRise i =>
    split
    · refine .same _ ⟨rfl, rfl, fun len => ⟨by simpa [State.setSource] using len, fun j => ?_⟩⟩
      by_cases here : j = i
      · rw [here, State.source_setSource_same s len]
        rfl
      · rw [State.source_setSource_ne s _ here]
    · exact .rest s
  case holdExpiry i =>
    split
    · rename_i due
      exact .expired i due
    · exact .rest s
  case sourceSet item =>
    split
    · exact faulted item _
    · exact .settled _ (fun _ => State.mapSources_length _ _)
  case zoneSet item =>
    split
    · exact faulted item _
    · exact .settled _ (fun len => by simpa using len)
  case scenePush item =>
    split
    · exact faulted item _
    · exact .settled _ (fun _ => State.mapSources_length _ _)
  case scenePop item =>
    split
    · exact faulted item _
    · exact .settled _ (fun _ => State.mapSources_length _ _)
  case surveyStart item =>
    split
    · exact faulted item _
    · exact .settled _ (fun len => by simpa using len)
  case surveyAbort item =>
    split
    · exact faulted item _
    · exact .settled _ (fun len => by simpa using len)
  case switchOver =>
    split
    · exact .settled _ (fun _ => State.mapSources_length _ _)
    · exact .rest s
  case engineReset =>
    split
    · exact .settled _ (fun _ => State.mapSources_length _ _)
    · exact .rest s
  case measureEnd =>
    split
    · exact .settled _ (fun len => by simpa using len)
    · exact .rest s
  case surveyComplete =>
    split
    · exact .settled _ (fun len => by simpa using len)
    · exact .rest s
  case routeRemoval =>
    split
    · exact .of_frame (by simp) (by simp) (by simp)
    · exact .rest s
  case byteWrite a l b =>
    split
    · exact .of_frame (by simp) (by simp) (by simp)
    · exact .rest s
  case byteRead a l =>
    split
    · exact .of_frame (by simp) (by simp) (by simp)
    · exact .rest s
  case bankAdopt item => exact .of_frame (by simp) (by simp) (by simp)
  case sceneClear item => exact .of_frame (by simp) (by simp) (by simp)
  case badKind item => exact faulted item _
  case intakeSweep n => exact .of_frame (by simp) (by simp) (by simp)
  case bankReject => exact .of_frame (by simp) (by simp) (by simp)
  case fadeGrant => exact .of_frame rfl rfl rfl
  case fadeEnd pair => exact .of_frame rfl rfl rfl
  case mutingEnd => exact .of_frame (by simp) (by simp) (by simp)
  case quietEnd => exact .of_frame (by simp) (by simp) (by simp)
  case settleEnd => exact .of_frame (by simp) (by simp) (by simp)
  case snapshotTime => exact .of_frame (by simp) (by simp) (by simp)
  case snapshotWrite => exact .of_frame (by simp) (by simp) (by simp)
  all_goals exact host _ _

theorem State.settle_resetRebuilt (s : State) : s.settle.resetRebuilt :=
  State.serveRebuild_resetRebuilt s.releaseLast.countNom

theorem State.blockStart_resetRebuilt (s : State) (r : BlockRaces) : (s.blockStart r).resetRebuilt := by
  obtain ⟨_, _, _, rebuild⟩ := s.blockStart_of_followed r
  unfold State.resetRebuilt
  rw [rebuild]
  exact State.serveRebuild_resetRebuilt _

theorem exec_resetRebuilt (c : Instr) (s t : State) (h : s.resetRebuilt) (e : exec c s = .next t) : t.resetRebuilt := by
  cases exec_countsAfter c s t e with
  | settled u _ => exact u.settle_resetRebuilt
  | begun r => exact s.blockStart_resetRebuilt r
  | powerOn t quiet =>
    obtain ⟨_, _, _, _, _, _, _, _, _, rfl⟩ := quiet
    exact fun forced => nomatch forced
  | expired i _ => exact h
  | same t kept =>
    unfold State.resetRebuilt
    rw [kept.1]
    exact h

theorem State.resetRebuilt_quiet {s t : State} (quiet : s.quietTo t) (h : s.resetRebuilt) : t.resetRebuilt := by
  obtain ⟨_, _, _, _, _, _, _, _, _, rfl⟩ := quiet
  exact h

/-- Settles O56: NO_BANK's units and the exclusion of surveys and adoptions operation by operation, the rebuild of an
engine reset by how a command ends. -/
theorem enginePhasesStayConsistent : Obligations.EnginePhasesStayConsistent :=
  ⟨kept_idleInNoBank.keptByStep, kept_surveyOrAdoption.keptByStep,
    keptByStep_of_exec (fun _ _ => State.resetRebuilt_quiet) exec_resetRebuilt⟩

end Sys2Proof.Machine
end

section
/-! Hold counters, the LAST gate and NOM through every operation (O55). -/

namespace Sys2Proof.Machine

/-! ### Invariants of gates and hold counters alone -/

/-- `t` has the gates and hold counters of `s`. -/
def State.sameGates (s t : State) : Prop :=
  (∀ x ∈ t.sources, ∃ y, (y ∈ s.sources ∨ y = .reset) ∧ x.gate = y.gate ∧ x.holdCount = y.holdCount)
  ∧ ∀ i, (t.source i).gate = (s.source i).gate

theorem State.source_mem_or_reset (s : State) (i : Fin 16) : s.source i ∈ s.sources ∨ s.source i = .reset :=
  s.source_has (Q := fun x => x ∈ s.sources ∨ x = .reset) (fun _ hx => .inl hx) (.inr rfl) i

theorem State.sameGates_of_sources {s t : State} (h : t.sources = s.sources) : s.sameGates t :=
  ⟨fun x hx => ⟨x, .inl (h ▸ hx), rfl, rfl⟩, fun i => by rw [State.source_congr h]⟩

theorem State.sameGates_mapSources (s : State) (f : Fin 16 → Source → Source)
    (same : ∀ i x, (f i x).gate = x.gate ∧ (f i x).holdCount = x.holdCount) : s.sameGates (s.mapSources f) := by
  refine ⟨State.mapSources_forall s f (fun i => ⟨s.source i, s.source_mem_or_reset i, same i _⟩), fun i => ?_⟩
  rw [State.source_mapSources]
  exact (same i _).1

theorem State.sameGates_trans {s t u : State} (h : s.sameGates t) (k : t.sources = u.sources) : s.sameGates u := by
  obtain ⟨members, gates⟩ := h
  exact ⟨k ▸ members, fun i => by rw [State.source_congr k.symm, gates]⟩

/-- The source after a setting of one is the one set, or as it was. -/
theorem State.source_setSource_cases (s : State) (i : Fin 16) (x : Source) (j : Fin 16) :
    (j = i ∧ (s.setSource i x).source j = x) ∨ (s.setSource i x).source j = s.source j := by
  by_cases here : j = i
  · by_cases inside : i.val < s.sources.length
    · exact .inl ⟨here, by simp [here, State.source, State.setSource, List.getD_eq_getElem?_getD, inside]⟩
    · exact .inr (by simp [here, State.source, State.setSource, List.getD_eq_getElem?_getD, inside])
  · exact .inr (s.source_setSource_ne x here)

theorem State.sameGates_setSource (s : State) (i : Fin 16) (x : Source)
    (same : x.gate = (s.source i).gate ∧ x.holdCount = (s.source i).holdCount) : s.sameGates (s.setSource i x) := by
  refine ⟨State.setSource_forall s i x (fun y hy => ⟨y, .inl hy, rfl, rfl⟩)
    ⟨s.source i, s.source_mem_or_reset i, same⟩, fun j => ?_⟩
  rcases s.source_setSource_cases i x j with ⟨here, e⟩ | e
  · rw [e, here, same.1]
  · rw [e]

/-- An invariant of gates and hold counters that the operations on them keep. -/
structure KeptGates (P : State → Prop) : Prop where
  sameGates : ∀ s t, s.sameGates t → P s → P t
  reset : P .reset
  expire : ∀ s i, s.atExpiry i = true → P s → P (s.expireHold i)
  evaluate : ∀ s, P s → P s.evaluateGates
  rearbitrate : ∀ s, P s → P s.rearbitrate
  release : ∀ s, P s → P s.releaseLast
  follow : ∀ s before, P s → P (s.followForces before).releaseLast
  lower : ∀ s n, P s → P (s.lowerHolds n)
  resetSources : ∀ s, P s → P (s.mapSources s.resetSource)

/-- Such an invariant is kept by every operation of the part. -/
theorem KeptGates.kept {P : State → Prop} (k : KeptGates P) : Kept P := by
  have frame : ∀ s t : State, t.sources = s.sources → P s → P t :=
    fun s t same => k.sameGates s t (State.sameGates_of_sources same)
  have mapped : ∀ (s t : State) f, (∀ i x, (f i x).gate = x.gate ∧ (f i x).holdCount = x.holdCount) →
      t.sources = (s.mapSources f).sources → P s → P t := fun s t f same sources =>
    k.sameGates s t (State.sameGates_trans (s.sameGates_mapSources f same) sources.symm)
  exact {
    quiet := by
      rintro s t ⟨_, _, _, _, _, _, _, _, _, rfl⟩ h
      exact frame s _ rfl h
    powerOn := by
      rintro s t ⟨_, _, _, _, _, _, _, _, _, rfl⟩ _
      exact frame .reset _ rfl k.reset
    survey := fun s v _ => frame s _ rfl
    meter := fun s m _ => frame s _ rfl
    input := fun s a b => mapped s _ (s.sampled a b) (fun _ _ => ⟨rfl, rfl⟩) (s.inputPeriod_sources a b)
    output := fun s n _ => frame s _ rfl
    sweep := fun s n _ => frame s _ rfl
    links := fun s => frame s _ rfl
    riseFloor := fun s i => k.sameGates s _ (s.sameGates_setSource i _ ⟨rfl, rfl⟩)
    expire := k.expire
    evaluate := fun s _ => k.evaluate s
    rearbitrate := k.rearbitrate
    release := k.release
    follow := fun s before _ => k.follow s before
    count := fun s => frame s _ rfl
    setSources := fun s body mask _ => mapped s _ (fun i x => if namesSource mask i then x.takeBody body else x)
      (fun i x => by split <;> exact ⟨rfl, rfl⟩) (s.setSources_sources body mask)
    setZones := fun s body low high => frame s _ rfl
    saveScene := fun s _ _ => frame s _ rfl
    restore := fun s scene rest _ _ => mapped s _ (fun i x => { x with mix := scene.sources.getD i.val x.mix })
      (fun _ _ => ⟨rfl, rfl⟩) rfl
    clearScenes := fun s => frame s _ rfl
    adopt := fun s a _ _ _ => frame s _ rfl
    unclaim := fun s => frame s _ rfl
    validate := fun s => frame s _ rfl
    dropAdoption := fun s => frame s _ rfl
    install := fun s a n _ _ _ h => k.lower _ n (frame s _ rfl h)
    reload := fun s => by
      cases live : s.adopted with
      | none => rw [s.reloadMix_none live]; exact id
      | some b =>
        rw [s.reloadMix_live b live]
        exact mapped s _ (Source.reloaded b) (fun _ _ => ⟨rfl, rfl⟩) rfl
    beginSurvey := fun s v _ _ => frame s _ rfl
    stopProbe := fun s => frame s _ (by simp)
    request := fun s => frame s _ rfl
    serve := fun s => frame s _ (by simp)
    remove := fun s => frame s _ rfl
    compose := fun s => frame s _ rfl
    glide := fun s => frame s _ rfl
    motion := fun s => frame s _ rfl
    fadeEnd := fun s pair => frame s _ rfl
    grant := fun s => frame s _ rfl
    resetUnits := fun s _ h => frame (s.mapSources s.resetSource) _ rfl (k.resetSources s h)
    endZones := fun s => frame s _ rfl
    discardSums := fun s => frame s _ rfl }

/-! ### The hold counter runs in HOLD alone (R10) -/

/-- The gate after a change of the force mode (R17). -/
theorem Source.followForce_gate (x : Source) (before : ForceMode) :
    (x.followForce before).gate = if x.mix.force = before then x.gate else forcedGate x.mix.force x.gate := by
  obtain ⟨_, _, _, _, _, gate, _⟩ := x.followForce_spec before
  exact gate

/-- A source's hold counter is 0 outside HOLD. -/
abbrev Source.counterRests (x : Source) : Prop := x.gate ≠ .hold → x.holdCount = 0

/-- A settled gate's counter is 0 outside HOLD (R15). -/
theorem settledGate_counterRests (lastOn : Bool) (before after : List GateStep) (i : Fin 16)
    (h : (settledGate lastOn before after i).1 ≠ .hold) : (settledGate lastOn before after i).2 = 0 := by
  unfold settledGate at *
  split <;> first | rfl | simp_all

theorem State.holdCountersRest_source {s : State} (h : s.holdCountersRest) (i : Fin 16) : (s.source i).counterRests :=
  s.source_has h (fun _ => rfl) i

theorem State.holdCountersRest_releaseLast {s : State} (h : s.holdCountersRest) : s.releaseLast.holdCountersRest := by
  unfold State.releaseLast
  split
  · refine State.mapSources_forall s _ (fun i => ?_)
    have rests := s.holdCountersRest_source h i
    split
    · rename_i last
      exact fun _ => rests (by rw [last]; decide)
    · exact rests
  · exact h

/-- A force-mode change clears the counter of a gate it takes out of HOLD (R17). -/
theorem Source.followForce_counterRests (x : Source) (before : ForceMode) (h : x.counterRests) :
    (x.followForce before).counterRests := by
  unfold Source.followForce
  split
  · exact h
  · intro left
    exact if_neg left

theorem keptGates_holdCountersRest : KeptGates State.holdCountersRest where
  sameGates s t same h x hx := by
    obtain ⟨y, member, gate, count⟩ := same.1 x hx
    have rests : y.counterRests := member.elim (h y) (fun e => by rw [e]; exact fun _ => rfl)
    rw [gate, count]
    exact rests
  reset x hx := by
    rw [List.eq_of_mem_replicate hx]
    exact fun _ => rfl
  expire s i _ h := State.setSource_forall s i _ h (settledGate_counterRests _ _ _ _)
  evaluate s h := by
    refine s.evaluateGates.sources_forall s.evaluateGates_length (fun i => ?_)
    obtain ⟨_, _, e⟩ := s.evaluateGates_rest i
    rw [e]
    exact settledGate_counterRests _ _ _ _
  rearbitrate s h := by
    unfold State.rearbitrate
    split
    · exact h
    · refine State.mapSources_forall s _ (fun i => ?_)
      rw [settleGates_getD]
      exact settledGate_counterRests _ _ _ _
  release s h := State.holdCountersRest_releaseLast h
  follow s before h := State.holdCountersRest_releaseLast (State.mapSources_forall s _ (fun i =>
    Source.followForce_counterRests _ _ (s.holdCountersRest_source h i)))
  lower s n h := by
    refine State.mapSources_forall s _ (fun i => ?_)
    split
    · rename_i hold
      exact fun left => absurd hold left
    · exact s.holdCountersRest_source h i
  resetSources s h := State.mapSources_forall s _ (fun i _ => rfl)

/-! ### The last-on decision (R15) -/

/-- What the arbiter makes of a step: it stands, a candidate is opened, or the gate closes (R14). -/
theorem arbitrated_cases (maxOpen : Nat) (steps : List GateStep) (level : Fin 16 → Int) (i : Fin 16) :
    arbitrated maxOpen steps level i = stepAt steps i ∨ arbitrated maxOpen steps level i = .opened
    ∨ arbitrated maxOpen steps level i = .settled .closed := by
  unfold arbitrated
  dsimp only
  split <;> (try split) <;> simp_all

/-- The steps of a gate evaluation in state `s`: a LAST gate's step from a gate in LAST, an expiring one from a gate that
counted, and none settled in LAST. -/
def State.stepsFrom (s : State) (steps : List GateStep) : Prop :=
  ∀ i, (stepAt steps i = .last → (s.source i).gate = .last)
    ∧ (stepAt steps i = .expiring → (s.source i).gate.counted = true) ∧ stepAt steps i ≠ .settled .last

theorem State.stepsFrom_arbitrated {s : State} {steps : List GateStep} (h : s.stepsFrom steps) (maxOpen : Nat)
    (level : Fin 16 → Int) : s.stepsFrom (allSources.map (arbitrated maxOpen steps level)) := by
  intro i
  rw [stepAt_map]
  rcases arbitrated_cases maxOpen steps level i with e | e | e <;> rw [e]
  · exact h i
  all_goals exact ⟨nofun, nofun, nofun⟩

/-- What settles a gate in LAST: no other gate is other-open and, where it leaves HOLD, none leaves it with it (R15). -/
theorem settledGate_last {lastOn : Bool} {before after : List GateStep} {i : Fin 16}
    (closed : stepAt after i ≠ .settled .last) (h : (settledGate lastOn before after i).1 = .last) :
    anyOtherOpen after i = false
    ∧ (stepAt after i = .last ∨ stepAt after i = .expiring
        ∧ (allSources.filter (fun j => stepAt after j == .expiring)).length = 1) := by
  unfold settledGate at h
  split at h <;> simp_all

theorem otherOpen_of_anyOtherOpen {after : List GateStep} {i j : Fin 16} (h : anyOtherOpen after i = false)
    (apart : j ≠ i) : (stepAt after j).otherOpen = false := by
  unfold anyOtherOpen at h
  rw [List.any_eq_false] at h
  simpa [apart] using h j (List.mem_finRange j)

/-- Two sources that `p` admits are two of the sixteen. -/
theorem two_le_filter {p : Fin 16 → Bool} {i j : Fin 16} (apart : i ≠ j) (hi : p i = true) (hj : p j = true) :
    2 ≤ (allSources.filter p).length := by
  have sub : [i, j] ⊆ allSources.filter p := by
    intro k hk
    rw [List.mem_filter]
    refine ⟨List.mem_finRange k, ?_⟩
    simp only [List.mem_cons, List.not_mem_nil, or_false] at hk
    rcases hk with rfl | rfl <;> assumption
  exact (List.Nodup.subperm (by simp [apart]) sub).length_le

/-- A gate that counts after its settling and is not other-open was LAST or left HOLD (R15). -/
theorem settledGate_counted {lastOn : Bool} {before after : List GateStep} {j : Fin 16}
    (closed : stepAt after j ≠ .settled .last) (unopened : (stepAt after j).otherOpen = false)
    (h : (settledGate lastOn before after j).1.counted = true) : stepAt after j = .last ∨ stepAt after j = .expiring := by
  unfold settledGate at h
  split at h
  · rename_i g e
    rw [e] at unopened closed
    cases g <;> simp_all [GateState.counted, GateStep.otherOpen, GateState.otherOpen]
  all_goals simp_all [GateState.counted, GateStep.otherOpen]

/-- A settling leaves a LAST gate alone (R15). -/
theorem settledGate_lastAlone {s : State} (alone : s.lastAlone) (lastOn : Bool) (before after : List GateStep)
    (steps : s.stepsFrom after) {i j : Fin 16} (apart : i ≠ j) (last : (settledGate lastOn before after i).1 = .last) :
    (settledGate lastOn before after j).1.counted = false := by
  obtain ⟨wasLast, wasCounted, closed⟩ := steps i
  obtain ⟨wasLast', wasCounted', closed'⟩ := steps j
  obtain ⟨others, own⟩ := settledGate_last closed last
  have unopened := otherOpen_of_anyOtherOpen others apart.symm
  rw [← Bool.not_eq_true]
  intro counted
  rcases settledGate_counted closed' unopened counted with stays' | leaves' <;> rcases own with stays | ⟨leaves, one⟩
  · have rest := alone i j apart (wasLast stays)
    rw [wasLast' stays'] at rest
    cases rest
  · rw [alone j i apart.symm (wasLast' stays')] at wasCounted
    cases wasCounted leaves
  · rw [alone i j apart (wasLast stays)] at wasCounted'
    cases wasCounted' leaves'
  · have two := two_le_filter (p := fun j => stepAt after j == .expiring) apart (by simp [leaves]) (by simp [leaves'])
    omega

/-- The gates' own steps (R11 to R13). -/
theorem State.stepsFrom_gateSteps (s : State) : s.stepsFrom s.gateSteps := by
  intro i
  unfold State.gateSteps
  rw [stepAt_map]
  unfold Source.gateStep
  split
  · exact ⟨nofun, nofun, nofun⟩
  · split
    · exact ⟨nofun, nofun, nofun⟩
    · split
      · rename_i forced
        cases mode : (s.source i).mix.force <;> rw [mode] at forced <;> cases forced <;> exact ⟨nofun, nofun, nofun⟩
      · split
        · exact ⟨nofun, nofun, nofun⟩
        · unfold Source.autoStep
          dsimp only
          split <;> rename_i gate <;> rw [gate] <;> (repeat' split) <;>
            simp_all [GateState.counted]

/-- The steps of gates that stand (R16). -/
theorem GateState.standing_from (g : GateState) (count : Nat) :
    (g.standing count = .last → g = .last) ∧ (g.standing count = .expiring → g.counted = true)
    ∧ g.standing count ≠ .settled .last := by
  cases g
  case hold =>
    simp only [GateState.standing]
    split <;> exact ⟨nofun, fun _ => rfl, nofun⟩
  all_goals simp [GateState.standing]

theorem State.stepsFrom_standing (s : State) :
    s.stepsFrom (allSources.map (fun i => (s.source i).gate.standing (s.source i).holdCount)) := by
  intro i
  rw [stepAt_map]
  exact GateState.standing_from _ _

theorem State.hold_of_atExpiry {s : State} {i : Fin 16} (due : s.atExpiry i = true) : (s.source i).gate = .hold := by
  simp only [State.atExpiry, Bool.and_eq_true, beq_iff_eq] at due
  exact due.1.1.2

/-- The gate and hold counter that R15 gives an expiring hold. -/
def State.expiredGate (s : State) (i : Fin 16) : GateState × Nat :=
  settledGate ((s.evalParams.map (·.lastOn)).getD false) (s.stepsWithExpiry i) (s.stepsWithExpiry i) i

theorem State.expireHold_eq (s : State) (i : Fin 16) :
    s.expireHold i = s.setSource i ((s.source i).withGate (s.expiredGate i)) := rfl

/-- The steps of an expiring hold among gates that stand (R15). -/
theorem State.stepsFrom_stepsWithExpiry (s : State) {i : Fin 16} (due : s.atExpiry i = true) :
    s.stepsFrom (s.stepsWithExpiry i) := by
  intro j
  rw [State.stepsWithExpiry, stepAt_map]
  split
  · rename_i here
    rw [here, State.hold_of_atExpiry due]
    exact ⟨nofun, fun _ => rfl, nofun⟩
  · exact GateState.standing_from _ _

/-- A gate that counts beside an expiring one and is not other-open stands in LAST or leaves HOLD too. -/
theorem State.counted_stepsWithExpiry (s : State) {i j : Fin 16} (apart : j ≠ i)
    (unopened : (stepAt (s.stepsWithExpiry i) j).otherOpen = false) (counted : (s.source j).gate.counted = true) :
    (s.source j).gate = .last ∨ stepAt (s.stepsWithExpiry i) j = .expiring := by
  rw [State.stepsWithExpiry, stepAt_map, if_neg apart] at unopened ⊢
  revert unopened counted
  cases (s.source j).gate
  case hold =>
    simp only [GateState.standing]
    split
    · exact fun _ _ => .inr rfl
    · exact fun e => nomatch e
  all_goals simp [GateState.standing, GateStep.otherOpen, GateState.otherOpen, GateState.counted]

/-! ### The LAST gate stands alone -/

theorem State.source_reset (i : Fin 16) : State.reset.source i = .reset :=
  State.source_has (Q := fun x => x = .reset) _ (fun _ hx => List.eq_of_mem_replicate hx) rfl i

theorem State.reset_countedGates : State.reset.countedGates = 0 := by decide +kernel

theorem resetGate_ne_last (running linkLost : Bool) (mode : ForceMode) : resetGate running linkLost mode ≠ .last := by
  cases running <;> cases linkLost <;> cases mode <;> decide

/-- A change after which a gate in LAST was in LAST, and one that counts counted. -/
theorem State.lastAlone_of_fewer {s t : State} (last : ∀ i, (t.source i).gate = .last → (s.source i).gate = .last)
    (counted : ∀ i, (t.source i).gate.counted = true → (s.source i).gate.counted = true) (h : s.lastAlone) :
    t.lastAlone := by
  intro i j apart isLast
  rw [← Bool.not_eq_true]
  intro isCounted
  have alone := h i j apart (last i isLast)
  rw [counted j isCounted] at alone
  cases alone

theorem State.lastAlone_releaseLast {s : State} (len : s.sources.length = 16)
    (h : (∀ i, (s.source i).gate ≠ .forcedOpen) → s.lastAlone) : s.releaseLast.lastAlone := by
  unfold State.releaseLast
  split
  · intro i j _ last
    rw [State.source_mapSources] at last
    split at last
    · cases last
    · contradiction
  · rename_i unforced
    refine h (fun i forced => unforced ?_)
    exact List.any_eq_true.2 ⟨_, s.source_mem len i, by simp [forced]⟩

/-- A force-mode change makes no gate LAST, and makes none count but FORCED_OPEN (R17). -/
theorem forcedGate_fewer (mode : ForceMode) (g : GateState) :
    (forcedGate mode g = .last → g = .last)
    ∧ (forcedGate mode g ≠ .forcedOpen → (forcedGate mode g).counted = true → g.counted = true) := by
  cases mode <;> cases g <;> simp [forcedGate, GateState.counted]

theorem keptGates_lastAlone : KeptGates State.lastAlone where
  sameGates s t same h := State.lastAlone_of_fewer (fun i e => same.2 i ▸ e) (fun i e => same.2 i ▸ e) h
  reset := by
    intro i j _ last
    rw [State.source_reset] at last
    cases last
  expire s i due h := by
    have hold := State.hold_of_atExpiry due
    intro a b apart last
    rw [s.expireHold_eq] at last ⊢
    rcases s.source_setSource_cases i ((s.source i).withGate (s.expiredGate i)) a with ⟨here, e⟩ | e
    · obtain rfl := here
      rw [e] at last
      rw [s.source_setSource_ne _ apart.symm, ← Bool.not_eq_true]
      intro counted
      obtain ⟨others, own⟩ := settledGate_last (s.stepsFrom_stepsWithExpiry due a).2.2 last
      rcases s.counted_stepsWithExpiry apart.symm (otherOpen_of_anyOtherOpen others apart.symm) counted with e | e
      · have alone := h b a apart.symm e
        rw [hold] at alone
        cases alone
      · rcases own with own | ⟨own, one⟩
        · simp [State.stepsWithExpiry, stepAt_map] at own
        · have two := two_le_filter (p := fun j => stepAt (s.stepsWithExpiry a) j == .expiring) apart (by simp [own])
            (by simp [e])
          omega
    · rw [e] at last
      by_cases here : a = i
      · rw [here, hold] at last
        cases last
      · have alone := h a i here last
        rw [hold] at alone
        cases alone
  evaluate s h := by
    intro i j apart last
    obtain ⟨_, _, ei⟩ := s.evaluateGates_rest i
    obtain ⟨_, _, ej⟩ := s.evaluateGates_rest j
    rw [ei] at last
    rw [ej]
    exact settledGate_lastAlone h _ _ _ (State.stepsFrom_arbitrated s.stepsFrom_gateSteps _ _) apart last
  rearbitrate s h := by
    unfold State.rearbitrate
    split
    · exact h
    · intro i j apart last
      rw [State.source_placeGates, settleGates_getD] at last ⊢
      exact settledGate_lastAlone h _ _ _ (State.stepsFrom_arbitrated s.stepsFrom_standing _ _) apart last
  release s h := by
    unfold State.releaseLast
    split
    · refine State.lastAlone_of_fewer (fun i last => ?_) (fun i counted => ?_) h
      · rw [State.source_mapSources] at last
        split at last
        · cases last
        · exact last
      · rw [State.source_mapSources] at counted
        split at counted
        · cases counted
        · exact counted
    · exact h
  follow s before h := by
    refine State.lastAlone_releaseLast (State.mapSources_length _ _) (fun unforced => ?_)
    refine State.lastAlone_of_fewer (fun i last => ?_) (fun i counted => ?_) h
    all_goals
      have open_i := unforced i
      rw [State.source_followForces] at open_i
    · rw [State.source_followForces, Source.followForce_gate] at last
      split at last
      · exact last
      · exact (forcedGate_fewer _ _).1 last
    · rw [State.source_followForces, Source.followForce_gate] at counted
      rw [Source.followForce_gate] at open_i
      split at counted <;> rename_i mode
      · exact counted
      · rw [if_neg mode] at open_i
        exact (forcedGate_fewer _ _).2 open_i counted
  lower s n h := by
    refine State.lastAlone_of_fewer (fun i last => ?_) (fun i counted => ?_) h
    all_goals
      unfold State.lowerHolds at *
      rw [State.source_mapSources] at *
    · split at last <;> exact last
    · split at counted <;> exact counted
  resetSources s h := by
    intro i j _ last
    rw [State.source_mapSources] at last
    exact absurd last (resetGate_ne_last _ _ _)

/-! ### NOM counts the gates (R19) -/

theorem State.sources_eq_map (s : State) (len : s.sources.length = 16) : s.sources = allSources.map s.source := by
  refine List.ext_getElem (by simp [len, allSources]) (fun n inside _ => ?_)
  simp [allSources, State.source, inside]

/-- NOM as the gates stand, source by source (R19). -/
theorem State.countedGates_eq (s : State) (len : s.sources.length = 16) :
    s.countedGates = (allSources.filter (fun i => (s.source i).gate.counted)).length := by
  unfold State.countedGates
  conv_lhs => rw [s.sources_eq_map len]
  rw [List.filter_map, List.length_map]
  rfl

theorem State.countedGates_congr {s t : State} (h : t.sources = s.sources) : t.countedGates = s.countedGates := by
  unfold State.countedGates
  rw [h]

theorem State.nomCounts_quiet {s t : State} (quiet : s.quietTo t) (h : s.nomCounts) : t.nomCounts := by
  obtain ⟨_, _, _, _, _, _, _, _, _, rfl⟩ := quiet
  exact h

theorem State.releaseLast_length (s : State) (len : s.sources.length = 16) : s.releaseLast.sources.length = 16 := by
  unfold State.releaseLast
  split
  · exact State.mapSources_length _ _
  · exact len

/-- What a change brings with it ends with NOM counted from the gates it leaves (R19). -/
theorem State.settle_nomCounts (s : State) (len : s.sources.length = 16) : s.settle.nomCounts := by
  have sources : s.settle.sources = s.releaseLast.sources := by simp [State.settle]
  refine ⟨by rw [sources]; exact s.releaseLast_length len, ?_⟩
  rw [State.countedGates_congr sources]
  simp [State.settle, State.countNom]

theorem State.blockStart_nomCounts (s : State) (r : BlockRaces) : (s.blockStart r).nomCounts := by
  obtain ⟨sources, _, nom, _⟩ := s.blockStart_of_followed r
  refine ⟨by rw [sources]; exact State.releaseLast_length _ (State.mapSources_length _ _), ?_⟩
  rw [State.countedGates_congr sources, nom]

theorem exec_nomCounts (c : Instr) (s t : State) (h : s.nomCounts) (e : exec c s = .next t) : t.nomCounts := by
  obtain ⟨len, nom⟩ := h
  cases exec_countsAfter c s t e with
  | settled u same => exact u.settle_nomCounts (same len)
  | begun r => exact s.blockStart_nomCounts r
  | powerOn t quiet => exact State.nomCounts_quiet quiet ⟨rfl, State.reset_countedGates.symm⟩
  | expired i _ =>
    have sources : (s.expireHold i).countNom.compose.sources = (s.expireHold i).sources := rfl
    exact ⟨by rw [sources, s.expireHold_eq]; simpa [State.setSource] using len,
      (State.countedGates_congr sources).symm⟩
  | same t kept =>
    obtain ⟨_, sameNom, rest⟩ := kept
    obtain ⟨len', gates⟩ := rest len
    refine ⟨len', ?_⟩
    rw [sameNom, nom, State.countedGates_eq _ len, State.countedGates_eq _ len']
    simp only [gates]

/-- Settles O55: the hold counters and the LAST gate operation by operation, NOM by how a command ends. -/
theorem gatesStayConsistent : Obligations.GatesStayConsistent :=
  ⟨keptGates_holdCountersRest.kept.keptByStep, keptGates_lastAlone.kept.keptByStep,
    keptByStep_of_exec (fun _ _ => State.nomCounts_quiet) exec_nomCounts⟩

end Sys2Proof.Machine
end

section
/-! The setting bank's fields, from validation to the adopted copy (O59). -/

namespace Sys2Proof.Machine

/-! ### The fields of a bank (R133, R134) -/

/-- The ends of a field's range are 16-bit words of their kind, in order. -/
def BankField.ranged : BankField → Bool
  | .unsigned lo hi => decide (lo ≤ hi ∧ hi < 65536)
  | .signed lo hi => decide (-32768 ≤ lo ∧ lo ≤ hi ∧ hi ≤ 32767)
  | _ => true

theorem BankField.ranged_getD (l : List BankField) (n : Nat) (h : ∀ f ∈ l, f.ranged = true) :
    (l.getD n .unlisted).ranged = true := by
  rw [List.getD_eq_getElem?_getD]
  cases at_n : l[n]? with
  | none => rfl
  | some f => exact h f (List.mem_of_getElem? at_n)

theorem bankField_ranged (off : Nat) : (bankField off).ranged = true := by
  unfold bankField
  split
  · exact BankField.ranged_getD globalFields _ (by decide)
  split
  · exact BankField.ranged_getD sourceFields _ (by decide)
  split
  · decide
  split
  · decide
  split
  · decide
  split
  · rfl
  split
  · exact BankField.ranged_getD zoneFields _ (by decide)
  split <;> rfl

/-- The word stands in its field's range, and is no illegal enumeration (R137, R138). -/
def BankField.holds (f : BankField) (w : Word) : Prop := f.clamps w = false ∧ f.rejects w = none

theorem BankField.clamped_of_holds {f : BankField} {w : Word} (h : f.holds w) : f.clamped w = w := by
  simpa [BankField.clamps] using h.1

theorem BankField.unsigned_range {lo hi : Nat} {w : Word} (ends : lo ≤ hi ∧ hi < 65536)
    (h : (BankField.unsigned lo hi).holds w) : lo ≤ w.toNat ∧ w.toNat ≤ hi := by
  have same : natWord (clampNat lo hi w.toNat) = w := BankField.clamped_of_holds h
  have inside : clampNat lo hi w.toNat ≤ hi ∧ lo ≤ clampNat lo hi w.toNat := by
    rw [clampNat_eq _ _ _ ends.1]
    omega
  rw [← same, natWord_toNat _ (by omega)]
  exact ⟨inside.2, inside.1⟩

theorem BankField.signed_range {lo hi : Int} {w : Word} (ends : -32768 ≤ lo ∧ lo ≤ hi ∧ hi ≤ 32767)
    (h : (BankField.signed lo hi).holds w) : lo ≤ w.toInt ∧ w.toInt ≤ hi := by
  have same : signedWord (clampInt lo hi w.toInt) = w := BankField.clamped_of_holds h
  have inside : clampInt lo hi w.toInt ≤ hi ∧ lo ≤ clampInt lo hi w.toInt := by
    rw [clampInt_eq _ _ _ ends.2.1]
    omega
  rw [← same, signedWord_toInt _ (by omega) (by omega)]
  exact ⟨inside.2, inside.1⟩

theorem BankField.coupling_range {w : Word} (h : BankField.coupling.holds w) (v : Int)
    (measured : couplingOfWord w = some v) : -192 ≤ v ∧ v ≤ 192 := by
  have same : (if w = 0x7FFF then w else signedWord (clampInt (-192) 192 w.toInt)) = w := BankField.clamped_of_holds h
  unfold couplingOfWord at measured
  split at measured
  · cases measured
  · rename_i apart
    rw [if_neg apart, clampInt_eq _ _ _ (by norm_num)] at same
    cases measured
    rw [← same, signedWord_toInt _ (by omega) (by omega)]
    omega

theorem BankField.enumerated_range {top : Nat} {reason : RejectReason} {w : Word}
    (h : (BankField.enumerated top reason).holds w) : w.toNat ≤ top := by
  have unrejected := h.2
  unfold BankField.rejects at unrejected
  by_contra beyond
  simp [show top < w.toNat by omega] at unrejected

/-- A field's clamped value stands in its range (R138). -/
theorem BankField.holds_clamped {f : BankField} {w : Word} (ranged : f.ranged = true) (unrejected : f.rejects w = none) :
    f.holds (f.clamped w) := by
  cases f with
  | unsigned lo hi =>
    have ends : lo ≤ hi ∧ hi < 65536 := by simpa [BankField.ranged] using ranged
    refine ⟨?_, rfl⟩
    simp only [BankField.clamps, BankField.clamped, clampNat_eq _ _ _ ends.1]
    rw [natWord_toNat _ (by omega)]
    have same : max lo (min hi (max lo (min hi w.toNat))) = max lo (min hi w.toNat) := by omega
    simp [same]
  | signed lo hi =>
    have ends : -32768 ≤ lo ∧ lo ≤ hi ∧ hi ≤ 32767 := by simpa [BankField.ranged] using ranged
    refine ⟨?_, rfl⟩
    simp only [BankField.clamps, BankField.clamped, clampInt_eq _ _ _ ends.2.1]
    rw [signedWord_toInt _ (by omega) (by omega)]
    have same : max lo (min hi (max lo (min hi w.toInt))) = max lo (min hi w.toInt) := by omega
    simp [same]
  | gain =>
    refine ⟨?_, rfl⟩
    simp only [BankField.clamps, BankField.clamped]
    cases taken : gainOfWord w with
    | off => decide
    | code c =>
      have range := gainOfWord_range w c taken
      have back : gainOfWord (signedWord c) = .code c := by
        unfold gainOfWord
        rw [signedWord_toInt _ (by omega) (by omega), if_neg (by omega), if_neg (by omega)]
      simp [gainWord, back]
  | coupling =>
    refine ⟨?_, rfl⟩
    simp only [BankField.clamps, BankField.clamped]
    split
    · rename_i unmeasured
      simp [unmeasured]
    · rw [clampInt_eq _ _ _ (by norm_num)]
      have back := signedWord_toInt (max (-192) (min 192 w.toInt)) (by omega) (by omega)
      split
      · simp
      · rw [back, clampInt_eq _ _ _ (by norm_num)]
        simp
  | unlisted => exact ⟨by simp [BankField.clamps, BankField.clamped], rfl⟩
  | asItStands => exact ⟨by simp [BankField.clamps, BankField.clamped], rfl⟩
  | enumerated top reason => exact ⟨by simp [BankField.clamps, BankField.clamped], unrejected⟩

/-! ### Validation (R137, R138) -/

/-- The listed words below `n` stand in their ranges. -/
def Memory.legalBelow (img : Memory) (n : Nat) : Prop :=
  ∀ off, off < n → (bankField off).listed = true → (bankField off).holds (img.read off)

/-- A staging copy with the words below `n` examined. -/
def Adoption.examinedBelow (a : Adoption) (n : Nat) : Prop :=
  a.staging.wf ∧ (a.illegal = none → a.staging.legalBelow n)

/-- The examination of a word extends what has been examined by it. -/
theorem Adoption.examine_examinedBelow (a : Adoption) (m : Memory) (n : Nat) (inside : n < Config.memoryWords)
    (h : a.examinedBelow n) : (a.examine m n).examinedBelow (n + 1) := by
  obtain ⟨canonical, legal⟩ := h
  unfold Adoption.examine
  dsimp only
  split
  · rename_i skipped
    refine ⟨canonical, fun sound off below listed => ?_⟩
    have earlier : off < n := by
      by_contra here
      obtain rfl : off = n := by omega
      simp [sound, listed] at skipped
    exact legal sound off earlier listed
  · rename_i taken
    have sound : a.illegal = none := by simp at taken; exact taken.1
    split
    · exact ⟨canonical, nofun⟩
    · rename_i unrejected
      refine ⟨Memory.write_wf _ _ _ canonical, fun _ off below listed => ?_⟩
      show (bankField off).holds ((a.staging.write n _).read off)
      rw [Memory.read_write _ _ _ _ canonical inside]
      split
      · rename_i here
        rw [here]
        exact BankField.holds_clamped (bankField_ranged n) unrejected
      · exact legal sound off (by omega) listed

/-- The examination of a part extends what has been examined by the part. -/
theorem Adoption.examined_examinedBelow (a : Adoption) (m : Memory) (part : a.part < 8)
    (h : a.examinedBelow (512 * a.part)) : (a.examined m).examinedBelow (512 * (a.part + 1)) := by
  have upTo : ∀ n, n ≤ 512 →
      ((List.range n).foldl (fun b k => b.examine m (512 * a.part + k)) a).examinedBelow (512 * a.part + n) := by
    intro n
    induction n with
    | zero => intro _; exact h
    | succ n ih =>
      intro within
      rw [List.range_succ, List.foldl_append]
      exact Adoption.examine_examinedBelow _ m _ (by simp only [Config.memoryWords]; omega) (ih (by omega))
  have whole := upTo 512 (le_refl _)
  have next : 512 * (a.part + 1) = 512 * a.part + 512 := by ring
  unfold Adoption.examined
  rw [next]
  exact whole

theorem Adoption.examinedBelow_of_stagingLegal {a : Adoption} (h : a.stagingLegal) :
    a.examinedBelow (512 * a.part) := ⟨h.1, h.2.2⟩

theorem Adoption.validatePart_stagingLegal (a : Adoption) (m : Memory) (h : a.stagingLegal) :
    (a.validatePart m).stagingLegal := by
  by_cases due : a.part < 8 ∧ a.illegal = none
  · rw [a.validatePart_eq m due.1 due.2]
    have examined := a.examined_examinedBelow m due.1 (Adoption.examinedBelow_of_stagingLegal h)
    generalize a.examined m = b at examined
    exact ⟨examined.1, due.1, examined.2⟩
  · unfold Adoption.validatePart
    rw [if_neg due]
    exact h

end Sys2Proof.Machine
end

section
/-! Legal settings through every operation (O59). -/

namespace Sys2Proof.Machine

/-! ### The adopted copy is legal (R22, R133, R134) -/

/-- Every listed word of a whole bank stands in its range. -/
abbrev Memory.legalBank (img : Memory) : Prop := img.legalBelow 4096

theorem bankField_global (j : Fin 21) : bankField (0x10 + j.val) = globalFields.getD j.val .unlisted := by
  have inside : 0x010 ≤ 0x10 + j.val ∧ 0x10 + j.val ≤ 0x024 := by omega
  unfold bankField
  rw [if_pos inside, Nat.add_sub_cancel_left]

theorem bankField_source (i : Fin 16) (j : Fin 8) :
    bankField (0x40 + 8 * i.val + j.val) = sourceFields.getD j.val .unlisted := by
  have place : (0x40 + 8 * i.val + j.val - 0x040) % 8 = j.val := by omega
  unfold bankField
  rw [if_neg (by omega), if_pos (by omega), place]

theorem bankField_zone (z : Fin 24) (j : Fin 32) :
    bankField (0x400 + 32 * z.val + j.val) = zoneFields.getD j.val .unlisted := by
  have place : (0x400 + 32 * z.val + j.val - 0x400) % 32 = j.val := by omega
  unfold bankField
  rw [if_neg (by omega), if_neg (by omega), if_neg (by omega), if_neg (by omega), if_neg (by omega), if_neg (by omega),
    if_pos (by omega), place]

theorem bankField_row (k : Nat) (inside : k < 256) : bankField (0xC0 + k) = .unsigned 0 2047 := by
  unfold bankField
  rw [if_neg (by omega), if_neg (by omega), if_pos (by omega)]

theorem bankField_priority (k : Nat) (inside : k < 8) : bankField (0x1C0 + k) = .unsigned 0 7 := by
  unfold bankField
  rw [if_neg (by omega), if_neg (by omega), if_neg (by omega), if_pos (by omega)]

theorem bankField_duck (k : Nat) (inside : k < 8) : bankField (0x1C8 + k) = .unsigned 0 192 := by
  unfold bankField
  rw [if_neg (by omega), if_neg (by omega), if_neg (by omega), if_neg (by omega), if_pos (by omega)]

theorem bankField_coupling (k : Nat) (inside : k < 384) : bankField (0x700 + k) = .coupling := by
  unfold bankField
  rw [if_neg (by omega), if_neg (by omega), if_neg (by omega), if_neg (by omega), if_neg (by omega), if_neg (by omega),
    if_neg (by omega), if_pos (by omega)]

theorem Memory.legalBank.nat {img : Memory} (h : img.legalBank) {off lo hi : Nat}
    (field : bankField off = .unsigned lo hi) (inside : off < 4096) : inRange lo hi (natAt img off) := by
  have holds := h off inside (by rw [field]; rfl)
  have ranged := bankField_ranged off
  rw [field] at holds ranged
  exact BankField.unsigned_range (by simpa [BankField.ranged] using ranged) holds

theorem Memory.legalBank.int {img : Memory} (h : img.legalBank) {off : Nat} {lo hi : Int}
    (field : bankField off = .signed lo hi) (inside : off < 4096) :
    lo ≤ (img.read off).toInt ∧ (img.read off).toInt ≤ hi := by
  have holds := h off inside (by rw [field]; rfl)
  have ranged := bankField_ranged off
  rw [field] at holds ranged
  exact BankField.signed_range (by simpa [BankField.ranged] using ranged) holds

theorem Memory.legalBank.code {img : Memory} (h : img.legalBank) {off top : Nat} {reason : RejectReason}
    (field : bankField off = .enumerated top reason) (inside : off < 4096) : natAt img off ≤ top := by
  have holds := h off inside (by rw [field]; rfl)
  rw [field] at holds
  exact BankField.enumerated_range holds

theorem gainOfWord_legal (w : Word) : (gainOfWord w).legal := gainOfWord_range w

theorem globalsOf_legal {img : Memory} (h : img.legalBank) : (globalsOf img).legal :=
  ⟨h.nat (bankField_global 0) (by decide), h.nat (bankField_global 1) (by decide),
    h.nat (bankField_global 2) (by decide), (h.nat (bankField_global 3) (by decide)).2,
    h.nat (bankField_global 4) (by decide), (h.nat (bankField_global 5) (by decide)).2,
    h.nat (bankField_global 6) (by decide), (h.nat (bankField_global 7) (by decide)).2,
    (h.nat (bankField_global 8) (by decide)).2, (h.nat (bankField_global 10) (by decide)).2,
    h.int (bankField_global 16) (by decide), h.nat (bankField_global 17) (by decide),
    h.nat (bankField_global 18) (by decide), h.nat (bankField_global 19) (by decide),
    (h.nat (bankField_global 20) (by decide)).2⟩

theorem sourceRowOf_legal {img : Memory} (h : img.legalBank) (i : Fin 16) :
    (sourceRowOf img i).mix.legal ∧ (sourceRowOf img i).pos.legal :=
  ⟨⟨gainOfWord_legal _, (h.nat (bankField_source i 5) (by simp; omega)).2,
      (h.nat (bankField_source i 6) (by simp; omega)).2⟩,
    (h.nat (bankField_source i 0) (by simp; omega)).2, (h.nat (bankField_source i 1) (by simp; omega)).2⟩

/-- A window at nine or seventeen words into a zone record (section 9.5). -/
theorem windowOf_legal {img : Memory} (h : img.legalBank) (z : Fin 24) (w : Nat) (place : w = 9 ∨ w = 17) :
    (windowOf img (0x400 + 32 * z.val + w)).legal := by
  have field : ∀ k, (inside : k < 8) → bankField (0x400 + 32 * z.val + w + k) = windowFields.getD k .unlisted := by
    intro k inside
    have at_k := bankField_zone z ⟨w + k, by omega⟩
    rw [Nat.add_assoc (_ + _), at_k]
    rcases place with rfl | rfl <;> (interval_cases k <;> rfl)
  exact ⟨(h.nat (field 3 (by decide)) (by omega)).2, (h.nat (field 4 (by decide)) (by omega)).2,
    (h.nat (field 5 (by decide)) (by omega)).2, (h.nat (field 6 (by decide)) (by omega)).2,
    h.code (field 7 (by decide)) (by omega)⟩

theorem zoneRowOf_legal {img : Memory} (h : img.legalBank) (z : Fin 24) : (zoneRowOf img z).legal :=
  ⟨⟨gainOfWord_legal _, (h.nat (bankField_zone z 7) (by simp; omega)).2⟩,
    ⟨(h.nat (bankField_zone z 0) (by simp; omega)).2, (h.nat (bankField_zone z 1) (by simp; omega)).2⟩,
    (h.nat (bankField_zone z 4) (by simp; omega)).2, (h.int (bankField_zone z 5) (by simp; omega)).1,
    (h.int (bankField_zone z 5) (by simp; omega)).2, windowOf_legal h z 9 (.inl rfl), windowOf_legal h z 17 (.inr rfl)⟩

/-- A fully validated staging copy is a legal bank. -/
theorem bankOf_legal {img : Memory} (h : img.legalBank) : (bankOf img).legal := by
  refine ⟨⟨by simp [bankOf, allSources], by simp [bankOf, allZones], by simp [bankOf], by simp [bankOf],
    by simp [bankOf], by simp [bankOf], by simp [bankOf]⟩, globalsOf_legal h, ?_, ?_, ?_, ?_, ?_, ?_⟩
  · intro r hr
    obtain ⟨i, _, rfl⟩ := List.mem_map.1 hr
    exact sourceRowOf_legal h i
  · intro r hr
    obtain ⟨z, _, rfl⟩ := List.mem_map.1 hr
    exact zoneRowOf_legal h z
  · intro r hr
    obtain ⟨i, hi, rfl⟩ := List.mem_map.1 hr
    have inside := List.mem_range.1 hi
    have second : 0xC1 + 2 * i = 0xC0 + (2 * i + 1) := by omega
    refine ⟨(h.nat (bankField_row (2 * i) (by omega)) (by omega)).2, ?_⟩
    show natAt img (0xC1 + 2 * i) ≤ 2047
    rw [second]
    exact (h.nat (bankField_row (2 * i + 1) (by omega)) (by omega)).2
  · intro n hn
    obtain ⟨i, hi, rfl⟩ := List.mem_map.1 hn
    have inside := List.mem_range.1 hi
    exact (h.nat (bankField_priority i inside) (by omega)).2
  · intro n hn
    obtain ⟨i, hi, rfl⟩ := List.mem_map.1 hn
    have inside := List.mem_range.1 hi
    exact (h.nat (bankField_duck i inside) (by omega)).2
  · intro c hc v measured
    obtain ⟨i, hi, rfl⟩ := List.mem_map.1 hc
    have inside := List.mem_range.1 hi
    have holds := h (0x700 + i) (by omega) (by rw [bankField_coupling i inside]; rfl)
    rw [bankField_coupling i inside] at holds
    exact BankField.coupling_range holds v measured

end Sys2Proof.Machine
end

section
/-! The operating mix, the scenes and the fades through every operation (O59). -/

namespace Sys2Proof.Machine

/-! ### Fields set by a cue (R168, R169) -/

theorem applySourceFields_legal (body : List Word) (m : SourceMix) (h : m.legal) : (applySourceFields body m).legal := by
  obtain ⟨fader, priority, ratio⟩ := h
  unfold applySourceFields
  refine ⟨?_, ?_, ?_⟩ <;> dsimp only <;> split
  · exact gainOfWord_legal _
  · exact fader
  · exact Nat.min_le_left ..
  · exact priority
  · exact Nat.min_le_left ..
  · exact ratio

theorem applyPosition_legal (body : List Word) (p : Position) (h : p.legal) : (applyPosition body p).legal := by
  unfold applyPosition
  split
  · exact ⟨Nat.min_le_left .., Nat.min_le_left ..⟩
  · exact h

theorem applyZoneFields_legal (body : List Word) (m : ZoneMix) (h : m.legal) : (applyZoneFields body m).legal := by
  obtain ⟨level, number⟩ := h
  unfold applyZoneFields
  refine ⟨?_, ?_⟩ <;> dsimp only <;> split
  · exact gainOfWord_legal _
  · exact level
  · exact Nat.min_le_left ..
  · exact number

/-! ### Legal values -/

/-- A source's fields and position in their ranges (R5). -/
abbrev Source.mixLegal (x : Source) : Prop := x.mix.legal ∧ x.pos.legal

/-- A scene's fields in their ranges (R105). -/
abbrev Scene.legal (c : Scene) : Prop := (∀ m ∈ c.sources, m.legal) ∧ ∀ m ∈ c.zones, m.legal

theorem Source.reset_mixLegal : Source.reset.mixLegal :=
  ⟨⟨nofun, Nat.zero_le _, Nat.zero_le _⟩, Nat.zero_le _, Nat.zero_le _⟩

theorem Zone.reset_mixLegal : Zone.reset.mix.legal := ⟨nofun, Nat.zero_le _⟩

theorem Bank.legal.sourceRow {b : Bank} (h : b.legal) (i : Fin 16) :
    (b.sourceRow i).mix.legal ∧ (b.sourceRow i).pos.legal := by
  obtain ⟨⟨len, _⟩, _, rows, _⟩ := h
  have inside : i.val < b.sources.length := by rw [len]; exact i.isLt
  unfold Bank.sourceRow
  rw [List.getD_eq_getElem _ _ inside]
  exact rows _ (List.getElem_mem _)

theorem Bank.legal.zoneRow {b : Bank} (h : b.legal) (z : Fin 24) : (b.zoneRow z).mix.legal := by
  obtain ⟨⟨_, len, _⟩, _, _, rows, _⟩ := h
  have inside : z.val < b.zones.length := by rw [len]; exact z.isLt
  unfold Bank.zoneRow
  rw [List.getD_eq_getElem _ _ inside]
  exact (rows _ (List.getElem_mem _)).1

/-- The five parts of `valuesLegal`, each from its own field. -/
theorem State.valuesLegal_parts {t : State} (copy : ∀ b, t.adopted = some b → b.legal)
    (staging : ∀ a, t.adoption = some a → a.stagingLegal) (sources : ∀ x ∈ t.sources, x.mixLegal)
    (zones : ∀ z ∈ t.zones, z.mix.legal) (scenes : ∀ c ∈ t.scenes, c.legal) : t.valuesLegal :=
  ⟨copy, staging, sources, zones, scenes⟩

section
variable {s : State} (h : s.valuesLegal)
include h

theorem State.valuesLegal.copy (b : Bank) (live : s.adopted = some b) : b.legal := h.1 b live

theorem State.valuesLegal.source (i : Fin 16) : (s.source i).mixLegal := s.source_has h.2.2.1 Source.reset_mixLegal i

theorem State.valuesLegal.zone (z : Fin 24) : (s.zone z).mix.legal := by
  obtain ⟨_, _, _, zones, _⟩ := h
  exact s.zone_has (Q := fun x => x.mix.legal) zones Zone.reset_mixLegal z

/-- The state with other legal sources. -/
theorem State.valuesLegal_sources {t : State} (live : t.live = s.live) (adoption : t.adoption = s.adoption)
    (zones : t.zones = s.zones) (scenes : t.scenes = s.scenes) (sources : ∀ x ∈ t.sources, x.mixLegal) :
    t.valuesLegal := by
  obtain ⟨copy, staging, _, zonesLegal, scenesLegal⟩ := h
  refine ⟨?_, adoption ▸ staging, sources, zones ▸ zonesLegal, scenes ▸ scenesLegal⟩
  simpa only [State.adopted, live] using copy

theorem State.valuesLegal_congr {t : State} (live : t.live = s.live) (adoption : t.adoption = s.adoption)
    (sources : t.sources = s.sources) (zones : t.zones = s.zones) (scenes : t.scenes = s.scenes) : t.valuesLegal :=
  State.valuesLegal_sources h live adoption zones scenes (sources ▸ h.2.2.1)

theorem State.valuesLegal_mapSources (f : Fin 16 → Source → Source) (legal : ∀ i x, x.mixLegal → (f i x).mixLegal) :
    (s.mapSources f).valuesLegal :=
  State.valuesLegal_sources h rfl rfl rfl rfl (State.mapSources_forall s f (fun i => legal i _ (h.source i)))

theorem State.valuesLegal_mapZones (f : Fin 24 → Zone → Zone) (legal : ∀ z x, x.mix.legal → (f z x).mix.legal) :
    (s.mapZones f).valuesLegal := by
  have zones := State.mapZones_forall (P := fun x => x.mix.legal) s f (fun z => legal z _ (h.zone z))
  obtain ⟨copy, staging, sources, _, scenes⟩ := h
  exact ⟨copy, staging, sources, zones, scenes⟩

theorem State.valuesLegal_setSource (i : Fin 16) (x : Source) (legal : x.mixLegal) : (s.setSource i x).valuesLegal :=
  State.valuesLegal_sources h rfl rfl rfl rfl (State.setSource_forall s i x h.2.2.1 legal)

theorem State.valuesLegal_releaseLast : s.releaseLast.valuesLegal := by
  unfold State.releaseLast
  split
  · exact State.valuesLegal_mapSources h _ (fun i x hx => by split <;> exact hx)
  · exact h

theorem State.valuesLegal_scenes (scenes : List Scene) (legal : ∀ c ∈ scenes, c.legal) :
    State.valuesLegal { s with scenes := scenes } := by
  obtain ⟨copy, staging, sources, zones, _⟩ := h
  exact ⟨copy, staging, sources, zones, legal⟩

theorem State.valuesLegal_adoption (adoption : Option Adoption) (legal : ∀ a, adoption = some a → a.stagingLegal) :
    State.valuesLegal { s with adoption := adoption } := by
  obtain ⟨copy, _, sources, zones, scenes⟩ := h
  exact ⟨copy, legal, sources, zones, scenes⟩

theorem State.valuesLegal.currentScene : s.currentScene.legal := by
  obtain ⟨_, _, sources, zones, _⟩ := h
  refine ⟨fun m hm => ?_, fun m hm => ?_⟩
  · obtain ⟨x, hx, rfl⟩ := List.mem_map.1 hm
    exact (sources x hx).1
  · obtain ⟨z, hz, rfl⟩ := List.mem_map.1 hm
    exact zones z hz

end

/-- A scene gives every member legal fields. -/
theorem legal_getD {α : Type} {Q : α → Prop} (l : List α) (n : Nat) (d : α) (all : ∀ m ∈ l, Q m) (rest : Q d) :
    Q (l.getD n d) := by
  rw [List.getD_eq_getElem?_getD]
  cases at_n : l[n]? with
  | none => exact rest
  | some m => exact all m (List.mem_of_getElem? at_n)

theorem State.valuesLegal_quiet {s t : State} (quiet : s.quietTo t) (h : s.valuesLegal) : t.valuesLegal := by
  obtain ⟨_, _, _, _, _, _, _, _, _, rfl⟩ := quiet
  exact h

theorem State.reset_valuesLegal : State.reset.valuesLegal := by
  refine ⟨nofun, nofun, fun x hx => ?_, fun z hz => ?_, nofun⟩
  · rw [List.eq_of_mem_replicate hx]
    exact Source.reset_mixLegal
  · rw [List.eq_of_mem_replicate hz]
    exact Zone.reset_mixLegal

theorem kept_valuesLegal : Kept State.valuesLegal where
  quiet _ _ quiet h := State.valuesLegal_quiet quiet h
  powerOn _ _ quiet _ := State.valuesLegal_quiet quiet State.reset_valuesLegal
  survey s v _ h := h
  meter s m _ h := h
  input s a b h := State.valuesLegal_congr (s := s.mapSources (s.sampled a b))
    (State.valuesLegal_mapSources h (s.sampled a b) (fun _ _ hx => hx)) (by simp) (by simp) (s.inputPeriod_sources a b)
    (by simp) (by simp)
  output s n _ h := h
  sweep s n _ h := h
  links s h := h
  riseFloor s i h := State.valuesLegal_setSource h i _ (h.source i)
  expire s i _ h := State.valuesLegal_setSource h i _ (h.source i)
  evaluate s _ h := by
    refine State.valuesLegal_sources h (by simp) (by simp) (by simp) (by simp)
      (s.evaluateGates.sources_forall s.evaluateGates_length (fun i => ?_))
    obtain ⟨_, _, e⟩ := s.evaluateGates_rest i
    rw [e]
    exact h.source i
  rearbitrate s h := by
    unfold State.rearbitrate
    split
    · exact h
    · exact State.valuesLegal_mapSources h _ (fun _ _ hx => hx)
  release s h := State.valuesLegal_releaseLast h
  follow s before _ h := State.valuesLegal_releaseLast (State.valuesLegal_mapSources h _ (fun i x hx => by
    obtain ⟨mix, pos, _⟩ := x.followForce_spec (before i)
    rw [Source.mixLegal, mix, pos]
    exact hx))
  count s h := h
  setSources s body mask _ h := State.valuesLegal_congr
    (s := s.mapSources (fun i x => if namesSource mask i then x.takeBody body else x))
    (State.valuesLegal_mapSources h _ (fun i x hx => by
      split
      · exact ⟨applySourceFields_legal body _ hx.1, applyPosition_legal body _ hx.2⟩
      · exact hx)) (by simp) (by simp) (s.setSources_sources body mask) (by simp) (by simp)
  setZones s body low high h := State.valuesLegal_mapZones h _ (fun z x hx => by
    split
    · exact applyZoneFields_legal body _ hx
    · exact hx)
  saveScene s _ _ h := State.valuesLegal_scenes h _ (fun c hc => by
    rcases List.mem_cons.1 hc with rfl | old
    · exact h.currentScene
    · obtain ⟨_, _, _, _, scenes⟩ := h
      exact scenes c old)
  restore s scene rest _ top h := by
    have legal : ∀ c ∈ scene :: rest, c.legal := by
      obtain ⟨_, _, _, _, scenes⟩ := h
      exact top ▸ scenes
    obtain ⟨sources, zones⟩ := legal scene (List.mem_cons_self ..)
    have mixed := State.valuesLegal_mapSources h (fun i x => { x with mix := scene.sources.getD i.val x.mix })
      (fun i x hx => ⟨legal_getD (Q := SourceMix.legal) _ _ _ sources hx.1, hx.2⟩)
    exact State.valuesLegal_scenes (State.valuesLegal_mapZones mixed
      (fun z x => { x with mix := scene.zones.getD z.val x.mix })
      (fun z x hx => legal_getD (Q := ZoneMix.legal) _ _ _ zones hx)) rest
      (fun c hc => legal c (List.mem_cons_of_mem _ hc))
  clearScenes s h := State.valuesLegal_scenes h [] nofun
  adopt s a _ part empty h := State.valuesLegal_adoption h (some a) (fun _ e => by
    obtain rfl := Option.some.inj e
    exact ⟨empty ▸ Memory.wf_nil, by omega, fun _ off below => by omega⟩)
  unclaim s h := State.valuesLegal_adoption h _ (fun _ e => by
    obtain ⟨a, before, rfl⟩ := Option.map_eq_some_iff.1 e
    exact h.2.1 a before)
  validate s h := State.valuesLegal_adoption h _ (fun _ e => by
    obtain ⟨a, before, rfl⟩ := Option.map_eq_some_iff.1 e
    exact a.validatePart_stagingLegal _ (h.2.1 a before))
  dropAdoption s h := State.valuesLegal_adoption h none nofun
  install s a n before part sound h := by
    obtain ⟨canonical, _, legal⟩ := h.2.1 a before
    have bank : (bankOf a.staging).legal := bankOf_legal (by rw [part] at legal; exact legal sound)
    obtain ⟨_, _, sources, zones, scenes⟩ := h
    refine State.valuesLegal_mapSources (State.valuesLegal_parts
      (t := { s with live := some { bank := a.bank, copy := bankOf a.staging }, adoption := none })
      (fun b e => ?_) nofun sources zones scenes) _ (fun _ x hx => by split <;> exact hx)
    obtain rfl := Option.some.inj e
    exact bank
  reload s h := by
    cases live : s.adopted with
    | none => rw [s.reloadMix_none live]; exact h
    | some b =>
      have legal := h.copy b live
      rw [s.reloadMix_live b live]
      exact State.valuesLegal_congr (State.valuesLegal_mapZones
        (State.valuesLegal_mapSources h (Source.reloaded b) (fun i _ _ => legal.sourceRow i)) (Zone.reloaded b)
        (fun z _ _ => legal.zoneRow z)) rfl rfl rfl rfl rfl
  beginSurvey s v _ _ h := h
  stopProbe s h := by
    unfold State.stopProbe
    split
    · obtain ⟨copy, staging, sources, zones, scenes⟩ := h
      exact ⟨copy, staging, sources, State.setZone_forall (P := fun z => z.mix.legal) s _ _ zones
        (s.zone_has (Q := fun z => z.mix.legal) zones Zone.reset_mixLegal _), scenes⟩
    · exact h
  request s h := h
  serve s h := State.valuesLegal_congr h (by simp) (by simp) (by simp) (by simp) (by simp)
  remove s h := h
  compose s h := h
  glide s h := h
  motion s h := h
  fadeEnd s pair h := h
  grant s h := h
  resetUnits s _ h := by
    have copy := h.copy
    have units : ((s.mapSources s.resetSource).mapZones s.resetZone).valuesLegal := by
      refine State.valuesLegal_mapZones (State.valuesLegal_mapSources h s.resetSource (fun i _ _ => ?_)) s.resetZone
        (fun z _ _ => ?_)
      · unfold State.resetSource
        cases live : s.adopted with
        | none => exact Source.reset_mixLegal
        | some b => exact (copy b live).sourceRow i
      · unfold State.resetZone
        cases live : s.adopted with
        | none => exact Zone.reset_mixLegal
        | some b => exact (copy b live).zoneRow z
    exact State.valuesLegal_scenes units [] nofun
  endZones s h := State.valuesLegal_mapZones h _ (fun _ _ hx => hx)
  discardSums s h := State.valuesLegal_mapZones h _ (fun _ _ hx => hx)

/-! ### Fades run below a legal length (R69, R71) -/

/-- What `fadesRun` states of one entry. -/
abbrev Entry.fadeRuns (e : Entry) : Prop :=
  ∀ destination progress unitLength pendingTarget,
    e.motion = .fading destination progress unitLength pendingTarget →
      progress < unitLength ∧ 8 ≤ unitLength ∧ unitLength ≤ 64

theorem Entry.fadeRuns_of_motion {e e' : Entry} (same : e'.motion = e.motion) (h : e.fadeRuns) : e'.fadeRuns := by
  rw [Entry.fadeRuns, same]
  exact h

theorem Entry.fadeRuns_of_still {e : Entry} (still : e.motion.isFading = false) : e.fadeRuns := by
  intro _ _ _ _ m
  rw [m] at still
  cases still

theorem Entry.freeStep_still (e : Entry) (slip : Nat) : (e.freeStep slip).motion.isFading = false := by
  unfold Entry.freeStep
  dsimp only
  (repeat' split) <;> rfl

theorem Entry.placeTarget_fadeRuns (e : Entry) (t : TargetDelay) (h : e.fadeRuns) : (e.placeTarget t).fadeRuns := by
  cases m : e.motion with
  | fading destination progress unitLength pendingTarget =>
    intro _ _ _ _ m'
    simp only [Entry.placeTarget, m, Motion.withTarget, Motion.fading.injEq] at m'
    obtain ⟨_, rfl, rfl, _⟩ := m'
    exact h _ _ _ _ m
  | steady | slipping | awaitingFade =>
    exact Entry.fadeRuns_of_still (by simp [Entry.placeTarget, m, Motion.withTarget, Motion.isFading])

theorem Entry.motionStep_fadeRuns (e : Entry) (slip : Nat) (h : e.fadeRuns) : (e.motionStep slip).fadeRuns := by
  unfold Entry.motionStep
  split
  · exact Entry.fadeRuns_of_still rfl
  · split
    · rename_i destination progress unitLength pendingTarget m
      split
      · exact Entry.fadeRuns_of_still (Entry.freeStep_still _ _)
      · rename_i runs
        have bounds := h _ _ _ _ m
        have left : progress + 1 < unitLength := by
          simp only [m, Motion.fadeOver, decide_eq_true_eq] at runs
          omega
        intro _ _ _ _ m'
        simp only [Motion.fading.injEq] at m'
        obtain ⟨_, rfl, rfl, _⟩ := m'
        exact ⟨left, bounds.2⟩
    · exact Entry.fadeRuns_of_still (Entry.freeStep_still _ _)

theorem State.newEntry_fadeRuns (s : State) (p : Pair) : (s.newEntry p).fadeRuns := Entry.fadeRuns_of_still rfl

/-- The state's routes are another's, each with its motion kept. -/
theorem State.fadesRun_congr {s t : State} (routes : t.routes = s.routes) (h : s.fadesRun) : t.fadesRun := by
  unfold State.fadesRun
  rw [routes]
  exact h

theorem State.fadesRun_mapRoutes {s : State} (f : Entry → Entry) (runs : ∀ e, e.fadeRuns → (f e).fadeRuns)
    (h : s.fadesRun) : (s.mapRoutes f).fadesRun := State.mapRoutes_forall (P := Entry.fadeRuns) s f h runs

/-- With a legal copy in force, or no route at all, a grant records a legal length (R69). -/
theorem State.grantFades_fadesRun {s : State} (idle : s.idleInNoBank) (legal : s.valuesLegal) (h : s.fadesRun) :
    s.grantFades.fadesRun := by
  cases live : s.adopted with
  | none =>
    have off : s.live = none := by simpa [State.adopted] using live
    have empty : s.grantFades.routes = [] := by
      simp [State.grantFades, (idle.1 off).1, grantUnits]
    intro e he
    rw [empty] at he
    cases he
  | some b =>
    obtain ⟨_, ⟨_, _, length, _⟩, _⟩ := legal.copy b live
    have recorded : s.fadeLength = b.globals.fadeLength := by simp [State.fadeLength, live]
    refine grantUnits_forall (P := Entry.fadeRuns) _ (fun e _ _ => ?_) _ _ h
    intro _ _ _ _ m
    simp only [Entry.grant, Motion.fading.injEq] at m
    obtain ⟨_, rfl, rfl, _⟩ := m
    rw [recorded]
    exact ⟨by omega, length⟩

/-- What O59 states, its parts grouped. -/
abbrev State.settingsLegal (s : State) : Prop := s.idleInNoBank ∧ s.valuesLegal ∧ s.fadesRun

theorem kept_settingsLegal : Kept State.settingsLegal := by
  have i := kept_idleInNoBank
  have v := kept_valuesLegal
  have quiet : ∀ s t : State, s.quietTo t → s.fadesRun → t.fadesRun := by
    rintro s t ⟨_, _, _, _, _, _, _, _, _, rfl⟩ h
    exact h
  exact {
    quiet := fun s t q h => ⟨i.quiet s t q h.1, v.quiet s t q h.2.1, quiet s t q h.2.2⟩
    powerOn := fun s t q h => ⟨i.powerOn s t q h.1, v.powerOn s t q h.2.1, quiet .reset t q nofun⟩
    survey := fun s u idle h => ⟨i.survey s u idle h.1, h.2⟩
    meter := fun s m _ h => h
    input := fun s a b h => ⟨i.input s a b h.1, v.input s a b h.2.1, State.fadesRun_congr (by simp) h.2.2⟩
    output := fun s n _ h => h
    sweep := fun s n _ h => h
    links := fun s h => h
    riseFloor := fun s k h => ⟨i.riseFloor s k h.1, v.riseFloor s k h.2.1, h.2.2⟩
    expire := fun s k due h => ⟨i.expire s k due h.1, v.expire s k due h.2.1, h.2.2⟩
    evaluate := fun s l h => ⟨i.evaluate s l h.1, v.evaluate s l h.2.1, State.fadesRun_congr (by simp) h.2.2⟩
    rearbitrate := fun s h => ⟨i.rearbitrate s h.1, v.rearbitrate s h.2.1, State.fadesRun_congr (by simp) h.2.2⟩
    release := fun s h => ⟨i.release s h.1, v.release s h.2.1, State.fadesRun_congr (by simp) h.2.2⟩
    follow := fun s before same h =>
      ⟨i.follow s before same h.1, v.follow s before same h.2.1, State.fadesRun_congr (by simp) h.2.2⟩
    count := fun s h => ⟨i.count s h.1, h.2⟩
    setSources := fun s body mask live h => ⟨i.setSources s body mask live h.1, v.setSources s body mask live h.2.1,
      State.setSources_forall s body mask h.2.2 (fun _ e he => e.placeTarget_fadeRuns _ he)⟩
    setZones := fun s body low high h => ⟨h.1, v.setZones s body low high h.2.1, h.2.2⟩
    saveScene := fun s live room h => ⟨i.saveScene s live room h.1, v.saveScene s live room h.2.1, h.2.2⟩
    restore := fun s scene rest live top h =>
      ⟨i.restore s scene rest live top h.1, v.restore s scene rest live top h.2.1, h.2.2⟩
    clearScenes := fun s h => ⟨i.clearScenes s h.1, v.clearScenes s h.2.1, h.2.2⟩
    adopt := fun s a idle part empty h => ⟨h.1, v.adopt s a idle part empty h.2.1, h.2.2⟩
    unclaim := fun s h => ⟨h.1, v.unclaim s h.2.1, h.2.2⟩
    validate := fun s h => ⟨h.1, v.validate s h.2.1, h.2.2⟩
    dropAdoption := fun s h => ⟨h.1, v.dropAdoption s h.2.1, h.2.2⟩
    install := fun s a n before part sound h =>
      ⟨i.install s a n before part sound h.1, v.install s a n before part sound h.2.1, h.2.2⟩
    reload := fun s h => ⟨i.reload s h.1, v.reload s h.2.1,
      s.reloadMix_forall h.2.2 (fun _ e he => e.placeTarget_fadeRuns _ he)⟩
    beginSurvey := fun s u live free h => ⟨i.beginSurvey s u live free h.1, h.2⟩
    stopProbe := fun s h => ⟨i.stopProbe s h.1, v.stopProbe s h.2.1, State.fadesRun_congr (by simp) h.2.2⟩
    request := fun s h => h
    serve := fun s h => ⟨i.serve s h.1, v.serve s h.2.1, s.serveRebuild_forall h.2.2
      (fun e a he => Entry.fadeRuns_of_motion (e.rebuilt_motion a).1 he) (fun u p => u.newEntry_fadeRuns p)⟩
    remove := fun s h => ⟨i.remove s h.1, h.2.1, s.removeRetired_forall h.2.2 (fun u p => u.newEntry_fadeRuns p)⟩
    compose := fun s h => ⟨i.compose s h.1, h.2.1, State.fadesRun_mapRoutes _
      (fun e he => Entry.fadeRuns_of_motion (s.composeEntry_motion e).1 he) h.2.2⟩
    glide := fun s h => ⟨i.glide s h.1, h.2.1, State.fadesRun_mapRoutes _ (fun _ he => he) h.2.2⟩
    motion := fun s h => ⟨i.motion s h.1, h.2.1, State.fadesRun_mapRoutes _
      (fun e he => e.motionStep_fadeRuns _ he) h.2.2⟩
    fadeEnd := fun s pair h => ⟨i.fadeEnd s pair h.1, h.2.1, State.fadesRun_mapRoutes _ (fun e he => by
      split
      · exact Entry.fadeRuns_of_still (Entry.freeStep_still _ _)
      · exact he) h.2.2⟩
    grant := fun s h => ⟨i.grant s h.1, h.2.1, State.grantFades_fadesRun h.1 h.2.1 h.2.2⟩
    resetUnits := fun s idle h => ⟨i.resetUnits s idle h.1, v.resetUnits s idle h.2.1, nofun⟩
    endZones := fun s h => ⟨h.1, v.endZones s h.2.1, h.2.2⟩
    discardSums := fun s h => ⟨h.1, v.discardSums s h.2.1, h.2.2⟩ }

/-- Settles O59: the settings' legality and the fades' run operation by operation, beside NO_BANK's idleness, which a
grant's recorded length needs. -/
theorem settingsStayLegal : Obligations.SettingsStayLegal := by
  intro s t h e
  obtain ⟨values, idle, len, fades⟩ := h
  obtain ⟨⟨idle', len'⟩, values', fades'⟩ := kept_settingsLegal.keptByStep s t ⟨⟨idle, len⟩, values, fades⟩ e
  exact ⟨values', idle', len', fades'⟩

end Sys2Proof.Machine
end

section
/-! Power-on reset, a floor's rise, the input links and the taps (O3, O4, O5, O6, O11, O15). -/

namespace Sys2Proof.Machine

/-! ### Power-on reset -/

/-- Settles O4: each invariant at the power-on values. -/
theorem resetMeetsInvariants : Obligations.ResetMeetsInvariants := by
  obtain ⟨shaped, delays⟩ := State.reset_fullyShaped
  have states : ∀ b, State.reset.word (bankBase b) = State.reset.bankStateDue b := by
    intro b
    cases b <;> rfl
  exact ⟨Memory.wf_nil, shaped, delays, nofun, State.reset_countersLegal,
    ⟨List.Pairwise.nil, Nat.zero_le _, List.Pairwise.nil, nofun, fun full => absurd rfl full⟩, Nat.zero_le _, nofun, nofun,
    keptGates_holdCountersRest.reset, keptGates_lastAlone.reset, ⟨rfl, State.reset_countedGates.symm⟩,
    State.reset_idleInNoBank.1, .inr rfl, nofun, ⟨Memory.wf_nil, Nat.zero_le _, nofun, states, nofun⟩,
    State.reset_valuesLegal, nofun, fun _ => ⟨rfl, rfl⟩, nofun⟩

/-- The state after a power-on reset (R160). -/
def State.powered (s : State) (strapHigh : Bool) : State :=
  { State.reset with
    pending := s.pending, fillsTaken := s.fillsTaken, port := { Port.reset with width8 := strapHigh } }

/-- With an empty memory a word above the registers reads 0. -/
theorem State.hostRead_empty (s : State) (a : Addr) (empty : s.mem = []) (high : 6 < a.toNat) : s.hostRead a = 0 := by
  have noRegister : ∀ n, regionOf a.toNat ≠ .register n := by
    intro n
    unfold regionOf
    rw [if_neg (by omega)]
    (repeat' split) <;> nofun
  have unwritten : s.word a.toNat = 0 := by
    rw [State.word, empty]
    rfl
  unfold State.hostRead
  split
  · rename_i n register
    exact absurd register (noRegister n)
  · rfl
  · exact unwritten

/-- The seven lowest words are the registers (R148). -/
theorem State.hostRead_register (s : State) (a : Addr) (low : a.toNat ≤ 6) : s.hostRead a = s.register a.toNat := by
  unfold State.hostRead regionOf
  rw [if_pos low]

/-- What every word reads after a power-on reset (R151, R160). -/
theorem State.powered_hostRead (s : State) (strapHigh : Bool) (a : Addr) :
    (s.powered strapHigh).hostRead a = if a = 6 then 0x1624 else if a = 0 ∧ strapHigh = true then 0x8000 else 0 := by
  by_cases high : 6 < a.toNat
  · have not6 : a ≠ 6 := by rintro rfl; exact absurd high (by decide)
    have not0 : a ≠ 0 := by rintro rfl; exact absurd high (by decide)
    rw [State.hostRead_empty _ a rfl high, if_neg not6, if_neg (fun both => not0 both.1)]
  · have register : a = 0 ∨ a = 1 ∨ a = 2 ∨ a = 3 ∨ a = 4 ∨ a = 5 ∨ a = 6 := by bv_omega
    rw [State.hostRead_register _ a (by omega)]
    rcases register with rfl | rfl | rfl | rfl | rfl | rfl | rfl
    · show Port.controlWord { Port.reset with width8 := strapHigh } = _
      cases strapHigh <;> decide
    all_goals rfl

/-- Settles O3: the power-on values, unit by unit, and every word read through the port. -/
theorem powerOnResetLeaves : Obligations.PowerOnResetLeaves := by
  intro strapHigh s
  have source : ∀ i, (s.powered strapHigh).source i = .reset := fun i =>
    (State.source_congr (s := State.reset) rfl i).trans (State.source_reset i)
  have zone : ∀ z, (s.powered strapHigh).zone z = .reset := fun z =>
    State.zone_has (Q := fun x => x = .reset) _ (fun _ hx => List.eq_of_mem_replicate hx) rfl z
  have levels : ∀ i : Fin 16, (List.replicate 16 (-192 : Int))[i.val]? = some (-192) := fun i =>
    List.getElem?_replicate.trans (if_pos i.isLt)
  have peaks : ∀ z : Fin 24, (List.replicate 24 (-192 : Int))[z.val]? = some (-192) := fun z =>
    List.getElem?_replicate.trans (if_pos z.isLt)
  have quiet : (s.powered strapHigh).attention = false := by simp [State.attention, State.powered, Port.reset]
  refine ⟨s.powered strapHigh, rfl, rfl, rfl, rfl, rfl, rfl, rfl, rfl, rfl, rfl, fun i => ?_, fun z => ?_, rfl, rfl, rfl,
    rfl, rfl, rfl, rfl, rfl, rfl, rfl, rfl, rfl, rfl, rfl, rfl, rfl, rfl, rfl, rfl, rfl, fun i => ⟨levels i, levels i⟩,
    peaks, rfl, rfl, rfl, quiet, s.powered_hostRead strapHigh⟩
  · rw [source]
    exact ⟨rfl, rfl, rfl, rfl, rfl, rfl, rfl⟩
  · rw [zone]
    rfl

/-! ### A floor's rise (R9) -/

/-- Settles O11: the floor that is due rises, and its source alone changes. -/
theorem floorRiseRaisesFloor : Obligations.FloorRiseRaisesFloor := by
  intro i v s len set full
  have due : (s.source i).floor.isSome ∧ 256 ≤ (s.source i).rise + 1 := ⟨by rw [set]; rfl, by omega⟩
  refine ⟨s.setSource i (s.source i).riseFloor, congrArg _ (if_pos due), ?_,
    fun j other => s.source_setSource_ne _ other, rfl⟩
  rw [State.source_setSource_same s len, Source.riseFloor, set]
  rfl

/-! ### The input links (R1 to R3, R8) -/

/-- A link's width is its flag in the adopted copy, 24 bits with no bank LIVE (R1). -/
theorem State.inWidth16_linkOf (s : State) (i : Fin 16) :
    s.inWidth16 (linkOf i) = match s.adopted with
      | none => false
      | some b => if (decide (i.val < 8)) then b.globals.in16A else b.globals.in16B := by
  unfold linkOf
  by_cases inA : i.val < 8 <;> cases live : s.adopted <;> simp [State.inWidth16, live, inA]

theorem State.link_linkOf (s : State) (i : Fin 16) :
    s.link (linkOf i) = if (decide (i.val < 8)) then s.linkA else s.linkB := by
  unfold linkOf
  by_cases inA : i.val < 8 <;> simp [State.link, inA]

theorem frameOf_linkOf (a b : LinkFrame) (i : Fin 16) :
    frameOf a b (linkOf i) = if (decide (i.val < 8)) then a else b := by
  unfold linkOf
  by_cases inA : i.val < 8 <;> simp [frameOf, inA]

/-- The top 16 bits of a slot times 256 stand in 24 bits (R160). -/
theorem sampleOfSlot_narrow (slot : TdmSlot) :
    (sampleOfSlot true slot).toInt = 256 * (slot.extractLsb' 16 16).toInt := by
  have low := BitVec.le_toInt (slot.extractLsb' 16 16)
  have high := BitVec.toInt_lt (x := slot.extractLsb' 16 16)
  show (BitVec.ofInt 24 ((slot.extractLsb' 16 16).toInt * 256)).toInt = _
  rw [toInt_ofInt24 _ (by omega) (by omega)]
  ring

/-- A sample period leaves the links with their counts, LINK raised by a link that is lost, and otherwise the sources'
lines alone (R2, R3). -/
theorem State.inputPeriod_rest (s : State) (a b : LinkFrame) :
    (s.inputPeriod a b).linkA = s.linkA.afterFrame a ∧ (s.inputPeriod a b).linkB = s.linkB.afterFrame b
    ∧ (s.inputPeriod a b).port = { s.port with
        notice := if s.linkA.losesWith a || s.linkB.losesWith b then s.port.notice ||| 0x040 else s.port.notice }
    ∧ { s.inputPeriod a b with sources := s.sources, linkA := s.linkA, linkB := s.linkB, port := s.port } = s := by
  have mask : Notice.link.mask = 0x040 := by decide
  unfold State.inputPeriod State.raiseIf State.raise
  rw [mask]
  dsimp only
  split <;> exact ⟨rfl, rfl, rfl, rfl⟩

/-- What a link delivers: zero from a missing frame or a LOST link, else the word of the channel by its width (R1). -/
theorem InLink.delivers_good (l : InLink) (narrow : Bool) (slots : List TdmSlot) (channel : Nat) :
    if l.lost then l.delivers narrow (.good slots) channel = 0
    else if narrow then
      (l.delivers narrow (.good slots) channel).toInt = 256 * ((slots.getD channel 0).extractLsb' 16 16).toInt
    else l.delivers narrow (.good slots) channel = (slots.getD channel 0).extractLsb' 8 24 := by
  unfold InLink.delivers
  cases lost : l.lost <;> cases narrow <;> simp [sampleOfSlot_narrow]
  rfl

/-- Settles O5: a sample period writes one sample into every line and counts on both links. -/
theorem inputFrameDelivers : Obligations.InputFrameDelivers := by
  intro a b s
  refine ⟨s.inputPeriod a b, rfl, fun i => ?_, s.inputPeriod_rest a b⟩
  refine ⟨by simp [linkOf], _, s.source_inputPeriod a b i, ?_⟩
  rw [s.inWidth16_linkOf, s.link_linkOf, frameOf_linkOf]
  cases (if (decide (i.val < 8)) then a else b : LinkFrame) with
  | missing => rfl
  | good slots => exact InLink.delivers_good _ _ _ _

/-- A good frame of a LOST link, and any missing frame, is delivered as zero (R2, R3). -/
theorem InLink.delivers_zero (l : InLink) (narrow : Bool) (frame : LinkFrame) (channel : Nat)
    (silent : frame = .missing ∨ l.lost = true) : l.delivers narrow frame channel = 0 := by
  unfold InLink.delivers
  rcases silent with rfl | lost
  · rfl
  · cases frame <;> simp [lost]

/-- A missing frame counts, and the second in a row loses the link (R2). -/
theorem InLink.afterFrame_missing_present (l : InLink) (present : l.lost = false) :
    l.afterFrame .missing = if 2 ≤ l.missing + 1 then { lost := true, missing := 2, good := 0, lostInBlock := true }
      else { l with missing := l.missing + 1 } := by
  obtain ⟨lost, missing, good, inBlock⟩ := l
  obtain rfl : lost = false := present
  unfold InLink.afterFrame
  simp

/-- A missing frame starts the count of good frames anew (R3). -/
theorem InLink.afterFrame_missing_lost (l : InLink) (lost : l.lost = true) :
    l.afterFrame .missing = { l with good := 0, lostInBlock := true } := by
  obtain ⟨isLost, missing, good, inBlock⟩ := l
  obtain rfl : isLost = true := lost
  unfold InLink.afterFrame
  simp

/-- A good frame starts the count of missing frames anew (R2). -/
theorem InLink.afterFrame_good_present (l : InLink) (slots : List TdmSlot) (present : l.lost = false) :
    l.afterFrame (.good slots) = { l with missing := 0 } := by
  obtain ⟨lost, missing, good, inBlock⟩ := l
  obtain rfl : lost = false := present
  unfold InLink.afterFrame
  simp

/-- A good frame counts, and the 48th in a row recovers the link (R3). -/
theorem InLink.afterFrame_good_lost (l : InLink) (slots : List TdmSlot) (lost : l.lost = true) :
    l.afterFrame (.good slots) = if 48 ≤ l.good + 1 then { lost := false, missing := 0, good := 48, lostInBlock := true }
      else { l with good := l.good + 1, lostInBlock := true } := by
  obtain ⟨isLost, missing, good, inBlock⟩ := l
  obtain rfl : isLost = true := lost
  unfold InLink.afterFrame
  simp

/-- LOST at any frame of a block marks the block as lost (R8). -/
theorem InLink.afterFrame_lostInBlock (l : InLink) (f : LinkFrame) :
    (l.afterFrame f).lostInBlock = (l.lostInBlock || l.lost || (l.afterFrame f).lost) := by
  cases lost : l.lost <;> cases f
  case false.missing =>
    rw [l.afterFrame_missing_present lost]
    split <;> simp [lost]
  case false.good slots => simp [l.afterFrame_good_present slots lost, lost]
  case true.missing => simp [l.afterFrame_missing_lost lost]
  case true.good slots =>
    rw [l.afterFrame_good_lost slots lost]
    split <;> simp

theorem State.lostBlock_eq (s : State) (i : Fin 16) :
    s.lostBlock i = if i.val < 8 then s.linkA.lostInBlock else s.linkB.lostInBlock := by
  unfold State.lostBlock linkOf
  split <;> rfl

/-- One link's frame and the other's, link by link (R2, R3). -/
theorem State.link_inputPeriodOf (s : State) (l : LinkId) (frame other : LinkFrame) :
    (s.inputPeriodOf l frame other).link l = (s.link l).afterFrame frame
    ∧ ∀ l', l' ≠ l → (s.inputPeriodOf l frame other).link l' = (s.link l').afterFrame other := by
  cases l
  · obtain ⟨linkA, linkB, _⟩ := s.inputPeriod_rest frame other
    refine ⟨linkA, fun l' apart => ?_⟩
    cases l'
    · contradiction
    · exact linkB
  · obtain ⟨linkA, linkB, _⟩ := s.inputPeriod_rest other frame
    refine ⟨linkB, fun l' apart => ?_⟩
    cases l'
    · exact linkA
    · contradiction

/-- A frame that is missing, or of a LOST link, writes a zero into the link's lines (R2 to R4). -/
theorem State.line_inputPeriodOf (s : State) (l : LinkId) (frame other : LinkFrame) (i : Fin 16) (own : linkOf i = l)
    (silent : frame = .missing ∨ (s.link l).lost = true) :
    ((s.inputPeriodOf l frame other).source i).line = (0 :: (s.source i).line).take (16384 + 95) := by
  cases l <;> simp only [State.inputPeriodOf, State.source_inputPeriod, State.sampled, own, frameOf] <;>
    rw [InLink.delivers_zero _ _ _ _ silent] <;> rfl

/-- A link that is lost raises LINK (R2). -/
theorem State.noticed_link_inputPeriodOf (s : State) (l : LinkId) (frame other : LinkFrame)
    (loses : (s.link l).losesWith frame = true) : (s.inputPeriodOf l frame other).noticed .link = true := by
  have raised : ∀ n : BitVec 10, (n ||| 0x040).getLsbD 6 = true := fun n => by simp
  cases l
  · obtain ⟨_, _, port, _⟩ := s.inputPeriod_rest frame other
    have lost : s.linkA.losesWith frame = true := loses
    simp only [State.inputPeriodOf, State.noticed, port, lost, Bool.true_or, if_true]
    exact raised _
  · obtain ⟨_, _, port, _⟩ := s.inputPeriod_rest other frame
    have lost : s.linkB.losesWith frame = true := loses
    simp only [State.inputPeriodOf, State.noticed, port, lost, Bool.or_true, if_true]
    exact raised _

/-- Settles O6: the frame that loses a link, the frame that recovers it, and the counts between. -/
theorem linkEventsLoseAndRecover : Obligations.LinkEventsLoseAndRecover := by
  refine ⟨fun l f s present once => ?_, fun l slots f s lost counted => ?_, InLink.afterFrame_lostInBlock,
    State.lostBlock_eq, fun l => ⟨fun present fresh => ?_, fun lost => ?_, fun slots => ⟨fun present => ?_, fun lost few => ?_⟩⟩⟩
  · have due : (s.link l).atLoss = true := by simp [InLink.atLoss, present, once]
    have after := (s.link l).afterFrame_missing_present present
    rw [once, if_pos (le_refl _)] at after
    obtain ⟨own, other⟩ := s.link_inputPeriodOf l .missing f
    have loses : (s.link l).losesWith .missing = true := by simp [InLink.losesWith, present, after]
    refine ⟨s.inputPeriodOf l .missing f, congrArg _ (if_pos due), ?_, ?_, s.noticed_link_inputPeriodOf l _ f loses,
      fun i on => s.line_inputPeriodOf l _ f i on (.inl rfl), other⟩
    · rw [own, after]
    · rw [own, after]
  · have due : (s.link l).atRecovery = true := by simp [InLink.atRecovery, lost, counted]
    have after := (s.link l).afterFrame_good_lost slots lost
    rw [counted, if_pos (le_refl _)] at after
    obtain ⟨own, other⟩ := s.link_inputPeriodOf l (.good slots) f
    refine ⟨s.inputPeriodOf l (.good slots) f, congrArg _ (if_pos due), ?_, ?_,
      fun i on => s.line_inputPeriodOf l _ f i on (.inr lost), other⟩
    · rw [own, after]
    · rw [own, after]
  · have first : ¬ 2 ≤ l.missing + 1 := by omega
    rw [l.afterFrame_missing_present present, if_neg first, fresh]
    exact ⟨present, rfl⟩
  · rw [l.afterFrame_missing_lost lost]
    exact ⟨lost, rfl⟩
  · rw [l.afterFrame_good_present slots present]
    exact ⟨present, rfl⟩
  · have below : ¬ 48 ≤ l.good + 1 := by omega
    rw [l.afterFrame_good_lost slots lost, if_neg below]
    exact ⟨lost, rfl⟩

/-! ### Taps (R4, R68, R70) -/

/-- Tap i of a block at a delay (R4). -/
theorem tapBlock_getElem? (line : List Sample) (delay i : Nat) (full : line.length = 16384 + 95) (legal : delay ≤ 16383)
    (inside : i < 48) : (tapBlock line delay)[i]? = some (line.getD (48 + delay + (47 - i)) 0) := by
  have long : i < (tapBlock line delay).length := by rw [tapBlock_length line delay full legal]; exact inside
  have back : 48 - 1 - i = 47 - i := by omega
  rw [List.getElem?_eq_getElem long, List.getD_eq_getElem _ _ (by omega)]
  have taken : ((line.drop (48 + delay)).take 48).length = 48 := by
    simp only [List.length_take, List.length_drop]
    omega
  simp only [tapBlock, Config.blockLength, List.getElem_reverse, List.getElem_take, List.getElem_drop, taken, back]

/-- Settles O15: sample i of an entry's block is the tap at its delay, or the crossfade with the tap at the destination. -/
theorem routeSamplesReadTaps : Obligations.RouteSamplesReadTaps := by
  intro e line i full legal inside
  obtain ⟨delay, _, fading⟩ := legal
  have near := tapBlock_getElem? line e.delay i full delay inside
  refine ⟨fun still => ?_, fun destination k unitLength pendingTarget m below => ?_⟩
  · unfold Entry.routeSamples
    split
    · rename_i m
      rw [m] at still
      cases still
    · rw [List.getElem?_map, near]
      rfl
  · have far := tapBlock_getElem? line destination i full (fading _ _ _ _ m).1 inside
    have weight := fadeWeight_le unitLength k i below inside
    obtain ⟨low, high⟩ := crossfade_between (line.getD (48 + e.delay + (47 - i)) 0).toInt
      (line.getD (48 + destination + (47 - i)) 0).toInt (fadeWeight unitLength k i) weight
    have sample : (e.routeSamples line)[i]? = some (crossfade (line.getD (48 + e.delay + (47 - i)) 0).toInt
        (line.getD (48 + destination + (47 - i)) 0).toInt (fadeWeight unitLength k i)) := by
      have both : ((tapBlock line e.delay).zip (tapBlock line destination))[i]?
          = some (line.getD (48 + e.delay + (47 - i)) 0, line.getD (48 + destination + (47 - i)) 0) :=
        List.getElem?_zip_eq_some.2 ⟨near, far⟩
      unfold Entry.routeSamples
      rw [m]
      dsimp only
      rw [List.getElem?_map, List.getElem?_zipIdx, both]
      simp
    refine ⟨sample, low, high, fun ending last => ?_⟩
    have whole : fadeWeight unitLength k i = 32768 := by
      subst last ending
      have length : 48 * k + 47 + 1 = 48 * (k + 1) := by ring
      unfold fadeWeight
      rw [length]
      exact Nat.mul_div_cancel _ (by omega)
    refine ⟨whole, ?_⟩
    show crossfade _ _ (fadeWeight unitLength k i) = _
    rw [whole, crossfade]
    simp

end Sys2Proof.Machine
end

section
/-! Compositions after a change, the expiry of a hold, and levels in decibels (O9, O12). -/

namespace Sys2Proof.Machine

/-! ### Compositions (R82) -/

/-- A composition changes an entry's target gain and its flags of gain alone. -/
theorem State.composeEntry_rest (s : State) (e : Entry) :
    ∃ gain limited ducked, s.composeEntry e
      = { e with targetGain := gain, ceilingLimited := limited, ducked := ducked } := by
  unfold State.composeEntry
  split <;> exact ⟨_, _, _, rfl⟩

theorem State.composeEntry_pair (s : State) (e : Entry) :
    (s.composeEntry e).pair = e.pair ∧ (s.composeEntry e).lifecycle = e.lifecycle := by
  obtain ⟨_, _, _, composed⟩ := s.composeEntry_rest e
  rw [composed]
  exact ⟨rfl, rfl⟩

/-- A pair qualifies by the entries' pairs and lifecycles, which a composition keeps (R90). -/
theorem State.qualifies_compose (s : State) (b : Bank) (z : Fin 24) (i : Fin 16) :
    s.compose.qualifies b z i = s.qualifies b z i := by
  have entries : s.compose.routes.any (fun e => e.pair == { source := i, zone := z } && e.lifecycle == .live)
      = s.routes.any (fun e => e.pair == { source := i, zone := z } && e.lifecycle == .live) := by
    simp only [State.compose, State.mapRoutes, State.withRoutes, List.any_map]
    congr 1
    funext e
    simp only [Function.comp_apply, (s.composeEntry_pair e).1, (s.composeEntry_pair e).2]
  unfold State.qualifies
  rw [entries]
  rfl

theorem State.ducks_compose (s : State) (b : Bank) (p : Pair) : s.compose.ducks b p = s.ducks b p := by
  have same : s.compose.pStar b p.zone = s.pStar b p.zone := by
    unfold State.pStar
    have qualifiers : s.compose.qualifies b p.zone = s.qualifies b p.zone := funext (s.qualifies_compose b p.zone)
    rw [qualifiers]
    rfl
  unfold State.ducks
  rw [same]
  rfl

theorem State.composed_compose (s : State) (b : Bank) (p : Pair) : s.compose.composed b p = s.composed b p := by
  unfold State.composed
  rw [s.ducks_compose]
  rfl

/-- After the compositions every entry's target is the one composed from the state they leave (R40, R82, R93). -/
theorem State.compose_targetsComposed (s : State) : targetsComposed s.compose := by
  intro e' he' b live
  obtain ⟨e, _, rfl⟩ := List.mem_map.1 he'
  have copy : s.adopted = some b := live
  rw [s.composed_compose, s.ducks_compose, (s.composeEntry_pair e).1, (s.composeEntry_pair e).2]
  refine ⟨fun isLive idle => ?_, fun silent => ?_⟩
  · have unsurveyed : s.surveying = false := idle
    unfold State.composeEntry
    rw [copy, isLive, unsurveyed]
    exact ⟨rfl, rfl, rfl⟩
  · unfold State.composeEntry
    rw [copy]
    rcases silent with surveyed | retiring
    · have surveying : s.surveying = true := surveyed
      rw [surveying]
      cases e.lifecycle <;> exact ⟨rfl, rfl, rfl⟩
    · rw [retiring]
      exact ⟨rfl, rfl, rfl⟩

/-! ### The expiry of a hold (R13, R15) -/

/-- A gate that counts is OPEN, HOLD, LAST or FORCED_OPEN (R10). -/
theorem GateState.counted_iff (g : GateState) :
    g.counted = true ↔ g = .opened ∨ g = .hold ∨ g = .last ∨ g = .forcedOpen := by
  cases g <;> simp [GateState.counted]

/-- Where nothing has been arbitrated, no candidate has been opened (R15). -/
theorem anyOpened_same (steps : List GateStep) : anyOpened steps steps = false := by
  unfold anyOpened
  rw [List.any_eq_false]
  intro i _
  cases stepAt steps i <;> simp

/-- R15 for an expiring hold: LAST where last-on enable is on, no other gate is other-open and none expires with it. -/
theorem State.expiredGate_eq (s : State) (b : Bank) (live : s.adopted = some b) (i : Fin 16) :
    s.expiredGate i = (if b.globals.lastOn
        && (allSources.filter (fun j => stepAt (s.stepsWithExpiry i) j == .expiring)).length == 1
        && !anyOtherOpen (s.stepsWithExpiry i) i then .last else .closed, 0) := by
  have own : stepAt (s.stepsWithExpiry i) i = .expiring := by rw [State.stepsWithExpiry, stepAt_map, if_pos rfl]
  have lastOn : (s.evalParams.map (·.lastOn)).getD false = b.globals.lastOn := by
    simp [State.evalParams, live, gateParams]
  unfold State.expiredGate settledGate
  rw [own, lastOn, anyOpened_same]
  simp

/-- Beside gates that do not count, an expiring hold expires alone and no other gate is open (R15). -/
theorem State.stepsWithExpiry_alone (s : State) (i : Fin 16)
    (others : ∀ j, j ≠ i → (s.source j).gate.counted = false) :
    (allSources.filter (fun j => stepAt (s.stepsWithExpiry i) j == .expiring)).length = 1
    ∧ anyOtherOpen (s.stepsWithExpiry i) i = false := by
  have still : ∀ j, j ≠ i → stepAt (s.stepsWithExpiry i) j = .settled (s.source j).gate := by
    intro j apart
    rw [State.stepsWithExpiry, stepAt_map, if_neg apart]
    have uncounted := others j apart
    cases gate : (s.source j).gate <;> rw [gate] at uncounted <;> first | rfl | cases uncounted
  constructor
  · have only : ∀ j, (stepAt (s.stepsWithExpiry i) j == .expiring) = (j == i) := by
      intro j
      by_cases here : j = i
      · rw [here, State.stepsWithExpiry, stepAt_map, if_pos rfl]
        simp
      · rw [still j here]
        simp [here]
    simp only [only, List.filter_beq, List.length_replicate]
    exact List.count_eq_one_of_mem (List.nodup_finRange 16) (List.mem_finRange i)
  · unfold anyOtherOpen
    rw [List.any_eq_false]
    intro j _
    by_cases here : j = i
    · simp [here]
    · rw [still j here]
      have uncounted := others j here
      cases gate : (s.source j).gate <;> rw [gate] at uncounted <;>
        simp_all [GateStep.otherOpen, GateState.otherOpen, GateState.counted]

/-- Beside a gate that is OPEN, HOLD or FORCED_OPEN, an expiring hold is not alone (R15). -/
theorem State.stepsWithExpiry_beside (s : State) {i j : Fin 16} (apart : j ≠ i)
    (beside : (s.source j).gate ∈ [GateState.opened, .hold, .forcedOpen]) :
    anyOtherOpen (s.stepsWithExpiry i) i = true
    ∨ (allSources.filter (fun j => stepAt (s.stepsWithExpiry i) j == .expiring)).length ≠ 1 := by
  have own : stepAt (s.stepsWithExpiry i) i = .expiring := by rw [State.stepsWithExpiry, stepAt_map, if_pos rfl]
  have other : stepAt (s.stepsWithExpiry i) j = (s.source j).gate.standing (s.source j).holdCount := by
    rw [State.stepsWithExpiry, stepAt_map, if_neg apart]
  have standing : (stepAt (s.stepsWithExpiry i) j).otherOpen = true ∨ stepAt (s.stepsWithExpiry i) j = .expiring := by
    rw [other]
    simp only [List.mem_cons, List.not_mem_nil, or_false] at beside
    rcases beside with gate | gate | gate <;> rw [gate]
    · exact .inl rfl
    · simp only [GateState.standing]
      split
      · exact .inr rfl
      · exact .inl rfl
    · exact .inl rfl
  rcases standing with isOpen | expiring
  · refine .inl (List.any_eq_true.2 ⟨j, List.mem_finRange j, ?_⟩)
    simp [apart, isOpen]
  · have two := two_le_filter (p := fun k => stepAt (s.stepsWithExpiry i) k == .expiring) apart (by simp [expiring])
      (by simp [own])
    exact .inr (by omega)

/-- Settles O12: R15 settles the expiring gate, NOM is counted and the targets are composed. -/
theorem holdExpirySettlesGate : Obligations.HoldExpirySettlesGate := by
  refine ⟨GateState.counted_iff, fun i b s len live hold auto count => ?_⟩
  have running : s.running = true := by
    cases off : s.live <;> simp [State.adopted, State.running, off] at live ⊢
  have due : s.atExpiry i = true := by simp [State.atExpiry, running, hold, auto, count]
  have source : ((s.expireHold i).countNom.compose).source i = (s.source i).withGate (s.expiredGate i) := by
    rw [s.expireHold_eq]
    exact s.source_setSource_same len i _
  refine ⟨(s.expireHold i).countNom.compose, congrArg _ (if_pos due), ?_, ?_, fun on others => ?_, fun unlast => ?_,
    fun j apart => s.source_setSource_ne _ apart, rfl, State.compose_targetsComposed _, ?_, rfl⟩
  · rw [source, s.expiredGate_eq b live]
    rfl
  · rw [source, s.expiredGate_eq b live]
    simp only [Source.withGate]
    split
    · exact .inl rfl
    · exact .inr rfl
  · obtain ⟨one, closed⟩ := s.stepsWithExpiry_alone i others
    rw [source, s.expiredGate_eq b live, one, closed, on]
    rfl
  · rw [source, s.expiredGate_eq b live]
    refine if_neg (fun last => ?_)
    simp only [Bool.and_eq_true, Bool.not_eq_true', beq_iff_eq] at last
    obtain ⟨⟨on, one⟩, closed⟩ := last
    rcases unlast with isOff | ⟨j, apart, beside⟩
    · rw [on] at isOff
      cases isOff
    · rcases s.stepsWithExpiry_beside apart beside with isOpen | more
      · rw [isOpen] at closed
        cases closed
      · exact more one
  · refine (List.map_map ..).trans (List.map_congr_left (fun e _ => ?_))
    obtain ⟨_, _, _, composed⟩ := State.composeEntry_rest (s.expireHold i).countNom e
    rw [Function.comp_apply, composed]

/-! ### Levels in decibels (R7) -/

/-- The test of the level's search, taken to the 40th power, is the comparison with the rounded logarithm (R7). -/
theorem level_test_iff (sum n j : Nat) (some : 0 < sum) (samples : 0 < n) (inside : j ≤ 192) :
    (n * 2 ^ 46) ^ 40 ≤ sum ^ 40 * 10 ^ (385 - 2 * j)
      ↔ (j : Int) - 192 ≤ ⌊20 * Real.logb 10 ((sum : ℝ) / n / 2 ^ 46) + 1 / 2⌋ := by
  have hs : (0 : ℝ) < sum := by exact_mod_cast some
  have hn : (0 : ℝ) < n := by exact_mod_cast samples
  have hd : (0 : ℝ) < n * 2 ^ 46 := by positivity
  have ten : 0 < Real.log 10 := Real.log_pos (by norm_num)
  have quotient : Real.logb 10 ((sum : ℝ) / n / 2 ^ 46) * Real.log 10 = Real.log sum - Real.log (n * 2 ^ 46) := by
    rw [div_div, Real.logb, div_mul_cancel₀ _ ten.ne', Real.log_div hs.ne' hd.ne']
  have exponent : ((385 - 2 * j : Nat) : ℝ) = 385 - 2 * j := by
    rw [Nat.cast_sub (by omega)]
    push_cast
    ring
  have logs : (n * 2 ^ 46) ^ 40 ≤ sum ^ 40 * 10 ^ (385 - 2 * j)
      ↔ 40 * Real.log (n * 2 ^ 46) ≤ 40 * Real.log sum + (385 - 2 * j) * Real.log 10 := by
    have cast : (n * 2 ^ 46) ^ 40 ≤ sum ^ 40 * 10 ^ (385 - 2 * j)
        ↔ ((n : ℝ) * 2 ^ 46) ^ 40 ≤ (sum : ℝ) ^ 40 * 10 ^ (385 - 2 * j) := by exact_mod_cast Iff.rfl
    rw [cast, ← Real.log_le_log_iff (by positivity) (by positivity), Real.log_mul (by positivity) (by positivity),
      Real.log_pow, Real.log_pow, Real.log_pow, exponent]
    norm_num
  rw [logs, Int.le_floor]
  generalize Real.logb 10 ((sum : ℝ) / n / 2 ^ 46) = decades at *
  push_cast
  constructor
  · intro h
    by_contra below
    nlinarith
  · intro h
    nlinarith

/-- The level of a sum above zero is the rounded logarithm, clamped (R7). -/
theorem levelOf_eq (sum n : Nat) (some : 0 < sum) (samples : 0 < n) :
    levelOf sum n = max (-192) (min 0 ⌊20 * Real.logb 10 ((sum : ℝ) / n / 2 ^ 46) + 1 / 2⌋) := by
  let p : Nat → Bool := fun j => j ≤ 192 && (n * 2 ^ 46) ^ 40 ≤ sum ^ 40 * 10 ^ (385 - 2 * j)
  have test : ∀ j, p j = true
      ↔ j ≤ 192 ∧ (j : Int) - 192 ≤ ⌊20 * Real.logb 10 ((sum : ℝ) / n / 2 ^ 46) + 1 / 2⌋ := by
    intro j
    simp only [p, Bool.and_eq_true, decide_eq_true_eq]
    exact and_congr_right (level_test_iff sum n j some samples)
  have search : levelOf sum n = (bitSearch p 8 0 : Int) - 192 := if_neg (by omega)
  rw [search]
  generalize ⌊20 * Real.logb 10 ((sum : ℝ) / n / 2 ^ 46) + 1 / 2⌋ = level at test
  have down : ∀ a b, a ≤ b → p b = true → p a = true := by
    intro a b le
    rw [test, test]
    omega
  by_cases bottom : p 0 = true
  · obtain ⟨found, _, _, greatest⟩ := bitSearch_greatest p down 8 0 bottom
    rw [test] at found bottom
    have top := greatest (min 192 (level + 192).toNat) (by omega) ((test _).2 (by omega))
    omega
  · have nowhere : ∀ j, p j = false := fun j => Bool.eq_false_iff.2 (fun h => bottom (down 0 j (Nat.zero_le _) h))
    rw [bitSearch_none p nowhere]
    rw [test] at bottom
    omega

/-- The sum of squares is exact (R7). -/
theorem squareSum_eq (samples : List Sample) : (squareSum samples : Int) = (samples.map (fun x => x.toInt ^ 2)).sum := by
  have all : ∀ (l : List Sample) (acc : Nat),
      ((l.foldl (fun acc x => acc + x.toInt.natAbs * x.toInt.natAbs) acc : Nat) : Int)
        = acc + (l.map (fun x => x.toInt ^ 2)).sum := by
    intro l
    induction l with
    | nil => intro acc; simp
    | cons x l ih =>
      intro acc
      rw [List.foldl_cons, ih, List.map_cons, List.sum_cons]
      push_cast
      rw [abs_mul_abs_self]
      ring
  exact (all samples 0).trans (by simp)

/-- Settles O9: the level's search is the rounded logarithm, and its sum of squares is exact. -/
theorem levelIsRoundedDecibels : Obligations.LevelIsRoundedDecibels :=
  ⟨fun sum n samples => ⟨rfl, fun some => levelOf_eq sum n some samples⟩, squareSum_eq⟩

end Sys2Proof.Machine
end

section
/-! The arbiter's places (O13, R14). -/

namespace Sys2Proof.Machine

/-! ### Places by level (R14) -/

/-- Source `j` goes before source `i`: a higher level, or the lower number on equal level (R14). -/
def louder (level : Fin 16 → Int) (j i : Fin 16) : Prop := level i < level j ∨ (level i = level j ∧ j < i)

theorem louder_trans {level : Fin 16 → Int} {i j k : Fin 16} (h : louder level i j) (g : louder level j k) :
    louder level i k := by
  unfold louder at *
  omega

theorem louder_irrefl (level : Fin 16 → Int) (i : Fin 16) : ¬ louder level i i := by
  unfold louder
  omega

theorem louder_total (level : Fin 16 → Int) {i j : Fin 16} (apart : i ≠ j) : louder level i j ∨ louder level j i := by
  unfold louder
  omega

theorem filter_length_eq_card (p : Fin 16 → Bool) :
    (allSources.filter p).length = (Finset.univ.filter (fun i => p i = true)).card := by
  have once : (allSources.filter p).Nodup := (List.nodup_finRange 16).filter p
  rw [← List.toFinset_card_of_nodup once]
  congr 1
  ext i
  simp [allSources]

theorem filter_or_length_le (p q : Fin 16 → Bool) :
    (allSources.filter (fun i => p i || q i)).length ≤ (allSources.filter p).length + (allSources.filter q).length := by
  rw [filter_length_eq_card, filter_length_eq_card, filter_length_eq_card]
  refine (Finset.card_le_card (fun i hi => ?_)).trans (Finset.card_union_le _ _)
  simpa using hi

/-- The sources that `p` admits and that go before `i`. -/
def before (p : Fin 16 → Bool) (level : Fin 16 → Int) (i : Fin 16) : Finset (Fin 16) :=
  Finset.univ.filter (fun j => p j && (level i < level j || (level j == level i && j < i)))

theorem mem_before (p : Fin 16 → Bool) (level : Fin 16 → Int) (i j : Fin 16) :
    j ∈ before p level i ↔ p j = true ∧ louder level j i := by
  simp only [before, louder, Finset.mem_filter, Finset.mem_univ, true_and, Bool.and_eq_true, Bool.or_eq_true,
    decide_eq_true_eq, beq_iff_eq, eq_comm (a := level j)]

theorem levelRank_eq (p : Fin 16 → Bool) (level : Fin 16 → Int) (i : Fin 16) :
    levelRank p level i = (before p level i).card := filter_length_eq_card _

/-- A louder source that `p` admits has a lower place. -/
theorem levelRank_lt {p : Fin 16 → Bool} {level : Fin 16 → Int} {i j : Fin 16} (hj : p j = true)
    (h : louder level j i) : levelRank p level j < levelRank p level i := by
  rw [levelRank_eq, levelRank_eq]
  refine Finset.card_lt_card (Finset.ssubset_iff_of_subset (fun k hk => ?_) |>.2 ⟨j, ?_, ?_⟩)
  · rw [mem_before] at hk ⊢
    exact ⟨hk.1, louder_trans hk.2 h⟩
  · rw [mem_before]
    exact ⟨hj, h⟩
  · rw [mem_before]
    exact fun own => louder_irrefl level j own.2

/-- The lower place is the louder source's. -/
theorem louder_of_levelRank_lt {p : Fin 16 → Bool} {level : Fin 16 → Int} {i j : Fin 16} (hj : p j = true)
    (h : levelRank p level i < levelRank p level j) : louder level i j := by
  have apart : i ≠ j := by
    rintro rfl
    exact lt_irrefl _ h
  refine (louder_total level apart).resolve_right (fun back => ?_)
  exact absurd (levelRank_lt hj back) (by omega)

/-- A place of an admitted source is below the number admitted. -/
theorem levelRank_lt_count {p : Fin 16 → Bool} (level : Fin 16 → Int) {i : Fin 16} (hi : p i = true) :
    levelRank p level i < (allSources.filter p).length := by
  rw [levelRank_eq, filter_length_eq_card]
  refine Finset.card_lt_card (Finset.ssubset_iff_of_subset (fun k hk => ?_) |>.2 ⟨i, by simp [hi], ?_⟩)
  · rw [mem_before] at hk
    simp [hk.1]
  · rw [mem_before]
    exact fun own => louder_irrefl level i own.2

/-- The places of the admitted sources are 0 up to their number, so the first `n` go to `n` of them, or to all. -/
theorem filter_levelRank_length (p : Fin 16 → Bool) (level : Fin 16 → Int) (n : Nat) :
    (allSources.filter (fun i => p i && decide (levelRank p level i < n))).length
      = min n (allSources.filter p).length := by
  have count := filter_length_eq_card p
  rw [filter_length_eq_card, count]
  let admitted : Finset (Fin 16) := Finset.univ.filter (fun i => p i = true)
  have injective : Set.InjOn (levelRank p level) admitted := by
    intro i hi j hj same
    by_contra apart
    have pi : p i = true := by simpa [admitted] using hi
    have pj : p j = true := by simpa [admitted] using hj
    rcases louder_total level apart with h | h
    · exact absurd (levelRank_lt pi h) (by omega)
    · exact absurd (levelRank_lt pj h) (by omega)
  have places : admitted.image (levelRank p level) = Finset.range admitted.card := by
    refine Finset.eq_of_subset_of_card_le (fun k hk => ?_) ?_
    · obtain ⟨i, hi, rfl⟩ := Finset.mem_image.1 hk
      rw [Finset.mem_range]
      have below := levelRank_lt_count (p := p) level (i := i) (by simpa [admitted] using hi)
      rwa [count] at below
    · rw [Finset.card_image_of_injOn injective, Finset.card_range]
  have first : (Finset.univ.filter (fun i => (p i && decide (levelRank p level i < n)) = true))
      = admitted.filter (fun i => levelRank p level i < n) := by
    ext i
    simp [admitted]
  have image : (admitted.filter (fun i => levelRank p level i < n)).image (levelRank p level)
      = (Finset.range admitted.card).filter (· < n) := by
    rw [← places, Finset.filter_image]
  rw [first, ← Finset.card_image_of_injOn (injective.mono (Finset.coe_subset.2 (Finset.filter_subset _ _))), image]
  have range : (Finset.range admitted.card).filter (· < n) = Finset.range (min n admitted.card) := by
    ext k
    simp
    omega
  rw [range, Finset.card_range]

/-! ### The arbiter (R14) -/

section
variable (maxOpen : Nat) (steps : List GateStep) (level : Fin 16 → Int)

/-- The number of gates held before the arbiter (R14). -/
def heldBefore : Nat := (allSources.filter (fun j => (stepAt steps j).held)).length

theorem GateStep.held_iff (st : GateStep) : st.held = true ↔ st = .opened ∨ ∃ count, st = .hold count := by
  cases st <;> simp [GateStep.held]

theorem GateStep.settled_unheld (g : GateState) : (GateStep.settled g).held = false := rfl

/-- A held gate stays while its place is below max open (R14). -/
theorem arbitrated_held {i : Fin 16} (h : (stepAt steps i).held = true) :
    arbitrated maxOpen steps level i
      = if levelRank (fun j => (stepAt steps j).held) level i < maxOpen then stepAt steps i else .settled .closed := by
  unfold arbitrated
  rcases (GateStep.held_iff _).1 h with e | ⟨count, e⟩ <;> rw [e]

/-- A candidate opens while its place is below the number of free places (R14). -/
theorem arbitrated_candidate {i : Fin 16} (h : stepAt steps i = .candidate) :
    arbitrated maxOpen steps level i
      = if levelRank (fun j => stepAt steps j == .candidate) level i < maxOpen - heldBefore steps then .opened
        else .settled .closed := by
  unfold arbitrated
  rw [h]
  rfl

theorem arbitrated_other {i : Fin 16} (held : (stepAt steps i).held = false) (candidate : stepAt steps i ≠ .candidate) :
    arbitrated maxOpen steps level i = stepAt steps i := by
  unfold arbitrated
  cases e : stepAt steps i with
  | settled g => rfl
  | candidate => exact absurd e candidate
  | opened | hold count =>
    rw [e] at held
    cases held
  | last => rfl
  | expiring => rfl

/-- What the arbiter leaves held: the held gates that stay, and the candidates opened. -/
theorem arbitrated_held_iff (i : Fin 16) :
    (arbitrated maxOpen steps level i).held
      = ((stepAt steps i).held && decide (levelRank (fun j => (stepAt steps j).held) level i < maxOpen)
        || (stepAt steps i == .candidate)
          && decide (levelRank (fun j => stepAt steps j == .candidate) level i < maxOpen - heldBefore steps)) := by
  by_cases held : (stepAt steps i).held = true
  · have apart : stepAt steps i ≠ .candidate := by
      intro e
      rw [e] at held
      cases held
    rw [arbitrated_held maxOpen steps level held, held]
    split <;> rename_i place <;> simp [place, held, apart, GateStep.settled_unheld]
  · by_cases candidate : stepAt steps i = .candidate
    · rw [arbitrated_candidate maxOpen steps level candidate, candidate]
      split <;> rename_i place <;> simp [place, GateStep.held]
    · rw [arbitrated_other maxOpen steps level (by simpa using held) candidate]
      simp [held, candidate]

/-- As many held gates stay as there are places. -/
theorem arbitrated_kept_length :
    (allSources.filter (fun i => (stepAt steps i).held
      && decide (levelRank (fun j => (stepAt steps j).held) level i < maxOpen))).length
      = min maxOpen (heldBefore steps) := filter_levelRank_length _ level maxOpen

/-- As many candidates open as there are free places. -/
theorem arbitrated_opened_length :
    (allSources.filter (fun i => stepAt steps i == .candidate
      && decide (levelRank (fun j => stepAt steps j == .candidate) level i < maxOpen - heldBefore steps))).length
      = min (maxOpen - heldBefore steps) (allSources.filter (fun i => stepAt steps i == .candidate)).length :=
  filter_levelRank_length _ level _

/-- No more gates are held than max open (R14). -/
theorem arbitrated_held_length :
    (allSources.filter (fun i => (arbitrated maxOpen steps level i).held)).length ≤ maxOpen := by
  have either := filter_or_length_le
    (fun i => (stepAt steps i).held && decide (levelRank (fun j => (stepAt steps j).held) level i < maxOpen))
    (fun i => stepAt steps i == .candidate
      && decide (levelRank (fun j => stepAt steps j == .candidate) level i < maxOpen - heldBefore steps))
  rw [arbitrated_kept_length, arbitrated_opened_length] at either
  simp only [arbitrated_held_iff]
  omega

/-- A candidate is opened exactly where its place is free. -/
theorem arbitrated_opened_iff {i : Fin 16} (h : stepAt steps i = .candidate) :
    arbitrated maxOpen steps level i = .opened
      ↔ levelRank (fun j => stepAt steps j == .candidate) level i < maxOpen - heldBefore steps := by
  rw [arbitrated_candidate maxOpen steps level h]
  split <;> rename_i place <;> simp [place]

/-- A held gate stays exactly where its place is below max open. -/
theorem arbitrated_stays_iff {i : Fin 16} (h : (stepAt steps i).held = true) :
    arbitrated maxOpen steps level i = stepAt steps i
      ↔ levelRank (fun j => (stepAt steps j).held) level i < maxOpen := by
  rw [arbitrated_held maxOpen steps level h]
  split <;> rename_i place
  · simp [place]
  · simp only [place, iff_false]
    intro e
    rw [← e] at h
    cases h

/-- Held gates stay while they fit (R14). -/
theorem arbitrated_fits (fits : heldBefore steps ≤ maxOpen) {i : Fin 16} (h : (stepAt steps i).held = true) :
    arbitrated maxOpen steps level i = stepAt steps i := by
  rw [arbitrated_stays_iff maxOpen steps level h]
  exact lt_of_lt_of_le (levelRank_lt_count (p := fun j => (stepAt steps j).held) level h) fits

/-- The louder candidates are opened (R14). -/
theorem louder_of_opened {i j : Fin 16} (hi : stepAt steps i = .candidate) (hj : stepAt steps j = .candidate)
    (opened : arbitrated maxOpen steps level i = .opened) (refused : arbitrated maxOpen steps level j ≠ .opened) :
    louder level i j := by
  rw [arbitrated_opened_iff maxOpen steps level hi] at opened
  rw [Ne, arbitrated_opened_iff maxOpen steps level hj] at refused
  exact louder_of_levelRank_lt (p := fun k => stepAt steps k == .candidate) (by simp [hj]) (by omega)

/-- An over-full evaluation keeps the louder gates (R14). -/
theorem louder_of_kept {i j : Fin 16} (hi : (stepAt steps i).held = true) (hj : (stepAt steps j).held = true)
    (stays : arbitrated maxOpen steps level i = stepAt steps i)
    (closes : arbitrated maxOpen steps level j ≠ stepAt steps j) : louder level i j := by
  rw [arbitrated_stays_iff maxOpen steps level hi] at stays
  rw [Ne, arbitrated_stays_iff maxOpen steps level hj] at closes
  exact louder_of_levelRank_lt (p := fun k => (stepAt steps k).held) hj (by omega)

/-- As many candidates open as there are free places, and as many held gates stay as there are places (R14). -/
theorem arbitrated_counts :
    (allSources.filter (fun i => stepAt steps i = .candidate ∧ arbitrated maxOpen steps level i = .opened)).length
      = min (maxOpen - heldBefore steps) (allSources.filter (fun i => stepAt steps i = .candidate)).length
    ∧ (allSources.filter (fun i => (stepAt steps i).held ∧ arbitrated maxOpen steps level i = stepAt steps i)).length
      = min maxOpen (heldBefore steps) := by
  have opened : (allSources.filter (fun i => stepAt steps i = .candidate ∧ arbitrated maxOpen steps level i = .opened))
      = allSources.filter (fun i => stepAt steps i == .candidate
        && decide (levelRank (fun j => stepAt steps j == .candidate) level i < maxOpen - heldBefore steps)) := by
    refine List.filter_congr (fun i _ => ?_)
    by_cases candidate : stepAt steps i = .candidate
    · simp [candidate, arbitrated_opened_iff maxOpen steps level candidate]
    · simp [candidate]
  have kept : (allSources.filter (fun i => (stepAt steps i).held ∧ arbitrated maxOpen steps level i = stepAt steps i))
      = allSources.filter (fun i => (stepAt steps i).held
        && decide (levelRank (fun j => (stepAt steps j).held) level i < maxOpen)) := by
    refine List.filter_congr (fun i _ => ?_)
    by_cases held : (stepAt steps i).held = true
    · simp [held, arbitrated_stays_iff maxOpen steps level held]
    · simp [held]
  rw [opened, kept]
  exact ⟨arbitrated_opened_length maxOpen steps level, arbitrated_kept_length maxOpen steps level⟩

/-- A candidate that is not opened closes (R14). -/
theorem arbitrated_refused {i : Fin 16} (h : stepAt steps i = .candidate)
    (refused : arbitrated maxOpen steps level i ≠ .opened) : arbitrated maxOpen steps level i = .settled .closed := by
  rw [Ne, arbitrated_opened_iff maxOpen steps level h] at refused
  rw [arbitrated_candidate maxOpen steps level h, if_neg refused]

/-- A held gate that does not stay closes (R14). -/
theorem arbitrated_closes {i : Fin 16} (h : (stepAt steps i).held = true)
    (closes : arbitrated maxOpen steps level i ≠ stepAt steps i) :
    arbitrated maxOpen steps level i = .settled .closed := by
  rw [Ne, arbitrated_stays_iff maxOpen steps level h] at closes
  rw [arbitrated_held maxOpen steps level h, if_neg closes]

end

end Sys2Proof.Machine
end

section
/-! The gates of a block start without an engine reset, from the ended block to its end (R9 to R17). -/

namespace Sys2Proof.Machine

/-! ### The end of the ended block -/

theorem State.ended_members (s : State) :
    s.ended.sources = s.sources ∧ s.ended.linkA = s.linkA ∧ s.ended.linkB = s.linkB ∧ s.ended.live = s.live
    ∧ s.ended.takeList = s.finishSweep.takeList ∧ s.ended.scenes = s.scenes := by
  simp [State.ended, State.endBlock, State.nextBlock, State.finishSweep]

theorem State.ended_live (s : State) : s.ended.live = s.live := by
  obtain ⟨_, _, _, live, _⟩ := s.ended_members
  exact live

theorem State.ended_source (s : State) (i : Fin 16) : s.ended.source i = s.source i :=
  State.source_congr s.ended_members.1 i

theorem State.ended_lostBlock (s : State) (i : Fin 16) : s.ended.lostBlock i = s.lostBlock i :=
  State.lostBlock_congr s.ended_members.2.1 s.ended_members.2.2.1 i

/-- The level handed on is that of the ended block (R7, R8). -/
theorem State.ended_level (s : State) (i : Fin 16) : s.ended.levelOfSource i = (s.source i).level := by
  have handed : s.ended.levelOfSource i = s.finishSweep.endBlock.levelOfSource i := rfl
  rw [handed, State.endBlock_level, State.source_congr (s := s) (by simp [State.finishSweep])]

theorem State.examineNext_resetRequest (s : State) : s.examineNext.port.resetRequest = s.port.resetRequest := by
  unfold State.examineNext State.examineCall State.examineSlot
  (repeat' split) <;> rfl

theorem State.raiseIf_resetRequest (s : State) (c : Bool) (n : Notice) :
    (s.raiseIf c n).port.resetRequest = s.port.resetRequest := by
  unfold State.raiseIf
  split <;> rfl

theorem State.endZones_resetRequest (s : State) : s.endZones.port.resetRequest = s.port.resetRequest := by
  unfold State.endZones
  dsimp only
  rw [State.raiseIf_resetRequest]
  split <;> rfl

/-- Nothing in the ended block's end serves or raises an engine reset request (R154). -/
theorem State.ended_resetRequest (s : State) : s.ended.port.resetRequest = s.port.resetRequest := by
  have swept : s.finishSweep.port.resetRequest = s.port.resetRequest :=
    State.examineMany_keeps (P := fun t => t.port.resetRequest = s.port.resetRequest)
      (fun t h => t.examineNext_resetRequest.trans h) _ s rfl
  have handed : s.ended.port = s.finishSweep.measureLevels.endZones.port := rfl
  rw [handed, State.endZones_resetRequest]
  exact swept

/-- The adoption in progress has the next part examined against the memory as the block ended (R137). -/
theorem State.ended_adoption (s : State) (runs : s.adoptionRuns) :
    s.ended.adoption = s.adoption.map (fun a => { a.examined s.mem with part := a.part + 1 }) := by
  have mem : s.finishSweep.measureLevels.endZones.mem = s.finishSweep.mem := by simp [State.measureLevels]
  have swept : s.ended.adoption = s.adoption.map (fun a => a.validatePart s.finishSweep.mem) := by
    rw [← mem]
    simp [State.ended, State.nextBlock, State.endBlock, State.validate, State.measureLevels]
  rw [swept]
  refine Option.map_congr (fun a ha => ?_)
  obtain ⟨part, sound⟩ := runs a ha
  rw [a.validatePart_eq _ part sound]
  have words : a.examined s.finishSweep.mem = a.examined s.mem := by
    refine a.examined_congr _ _ (fun b inside => s.finishSweep_word b ?_)
    cases bank : a.bank <;> rw [bank] at inside <;> simp only [bankBase] at inside <;> omega
  rw [words]

/-! ### The state the evaluation finds -/

/-- The ended block with the survey's own phase change, unless its completion waits for the cues (R127). -/
def State.advanced (s : State) (r : BlockRaces) : State :=
  if s.completionDue && !r.completionBeforeAbort then s else s.advanceSurvey

/-- The state that the gate evaluation of a block start finds: the bank's outcome taken (R11, R16). -/
def State.evaluating (s : State) (r : BlockRaces) : State :=
  if (s.ended.advanced r).switchDue then (s.ended.advanced r).installDue else (s.ended.advanced r).bankReject

theorem State.plainBoundary_eq (s : State) (r : BlockRaces) :
    s.plainBoundary r = if (s.advanced r).switchDue then (s.advanced r).installDue.evaluateGates.reloadMix
      else (s.advanced r).bankReject.evaluateGates := rfl

theorem State.boundary_plain (s : State) (r : BlockRaces) (plain : s.port.resetRequest = false) :
    s.boundary r = s.ended.plainBoundary r := by
  unfold State.boundary
  rw [s.ended_resetRequest, plain]
  rfl

theorem State.advanced_members (s : State) (r : BlockRaces) :
    (s.advanced r).sources = s.sources ∧ (s.advanced r).linkA = s.linkA ∧ (s.advanced r).linkB = s.linkB
    ∧ (s.advanced r).meter = s.meter ∧ (s.advanced r).live = s.live ∧ (s.advanced r).adoption = s.adoption
    ∧ (s.advanced r).takeList = s.takeList ∧ (s.advanced r).zones = s.zones ∧ (s.advanced r).scenes = s.scenes := by
  unfold State.advanced
  split <;> simp

/-- A source with its hold counter lowered to new hold blocks (R16). -/
def Source.lowerHold (n : Nat) (x : Source) : Source :=
  if x.gate = .hold then { x with holdCount := min x.holdCount n } else x

theorem Source.lowerHold_rest (n : Nat) (x : Source) : ∃ count, x.lowerHold n = { x with holdCount := count } := by
  unfold Source.lowerHold
  split <;> exact ⟨_, rfl⟩

theorem State.installBank_sources (s : State) (a : Adoption) :
    (s.installBank a).sources
      = (s.mapSources (fun _ => Source.lowerHold (bankOf a.staging).globals.holdBlocks)).sources := by
  unfold State.installBank
  simp only [State.raise_sources, State.outcome_frame]
  rfl

/-- A switch-over's first half: the bank LIVE and the hold counters lowered to its hold blocks (R16, R140). -/
theorem State.installDue_of_due {s : State} {a : Adoption} (adopting : s.adoption = some a) (due : s.switchDue = true) :
    s.installDue.adopted = some (bankOf a.staging)
    ∧ ∀ i, s.installDue.source i = (s.source i).lowerHold (bankOf a.staging).globals.holdBlocks := by
  unfold State.installDue
  rw [adopting]
  dsimp only
  rw [if_pos due]
  exact ⟨by simp [State.installBank, State.adopted, State.lowerHolds], fun i =>
    (State.source_congr (s.installBank_sources a) i).trans (s.source_mapSources _ i)⟩

/-- The state the evaluation finds has the ended block's sources, but for hold counters lowered by a switch-over; its
links and levels are the ended block's. -/
theorem State.evaluating_source (s : State) (r : BlockRaces) (i : Fin 16) :
    ∃ count, (s.evaluating r).source i = { s.source i with holdCount := count } := by
  obtain ⟨sources, _⟩ := s.ended.advanced_members r
  have same : (s.ended.advanced r).source i = s.source i :=
    (State.source_congr sources i).trans (s.ended_source i)
  unfold State.evaluating
  split
  · rename_i due
    cases adopting : (s.ended.advanced r).adoption with
    | none => simp [State.switchDue, adopting] at due
    | some a =>
      rw [(State.installDue_of_due adopting due).2 i, same]
      exact Source.lowerHold_rest _ _
  · rw [State.source_congr (s := s.ended.advanced r) (by simp), same]
    exact ⟨_, rfl⟩

theorem State.evaluating_links (s : State) (r : BlockRaces) :
    (s.evaluating r).linkA = s.linkA ∧ (s.evaluating r).linkB = s.linkB
    ∧ (s.evaluating r).meter = s.ended.meter := by
  obtain ⟨_, linkA, linkB, meter, _⟩ := s.ended.advanced_members r
  obtain ⟨_, endedA, endedB, _⟩ := s.ended_members
  unfold State.evaluating
  split <;> simp [linkA, linkB, meter, endedA, endedB]

theorem State.evaluating_lostBlock (s : State) (r : BlockRaces) (i : Fin 16) :
    (s.evaluating r).lostBlock i = s.lostBlock i :=
  State.lostBlock_congr (s.evaluating_links r).1 (s.evaluating_links r).2.1 i

theorem State.evaluating_level (s : State) (r : BlockRaces) (i : Fin 16) :
    (s.evaluating r).levelOfSource i = (s.source i).level :=
  (State.levelOfSource_congr (s.evaluating_links r).2.2 i).trans (s.ended_level i)

/-! ### From the evaluation to the force-mode changes -/

theorem State.sameBeyondMix_reloadMix (s : State) : s.sameBeyondMix s.reloadMix := by
  cases live : s.adopted with
  | none =>
    rw [s.reloadMix_none live]
    exact State.sameBeyondMix_of_sources rfl
  | some b =>
    rw [s.reloadMix_live b live]
    intro i
    refine ⟨(b.sourceRow i).mix, (b.sourceRow i).pos, ?_⟩
    exact (State.source_congr (s := s.mapSources (Source.reloaded b)) (by simp) i).trans (s.source_mapSources _ i)

theorem State.sameBeyondMix_cued (s : State) (r : BlockRaces) : (s.boundary r).sameBeyondMix (s.cued r) := by
  have glided : (s.boundary r).sameBeyondMix (s.boundary r).glide := State.sameBeyondMix_of_sources (by simp)
  have cues := State.sameBeyondMix_trans glided (State.applyTaken_sameBeyondMix _)
  unfold State.cued
  split
  · exact cues
  · exact State.sameBeyondMix_trans cues (State.sameBeyondMix_of_sources (by simp))

/-- The cues of a block start leave what the evaluation has made of gates, hold counters and floors (R166). -/
theorem State.sameBeyondMix_evaluated (s : State) (r : BlockRaces) (plain : s.port.resetRequest = false) :
    (s.evaluating r).evaluateGates.sameBeyondMix (s.cued r) := by
  refine State.sameBeyondMix_trans (t := s.boundary r) ?_ (s.sameBeyondMix_cued r)
  rw [s.boundary_plain r plain, State.plainBoundary_eq]
  unfold State.evaluating
  split
  · exact State.sameBeyondMix_reloadMix _
  · exact State.sameBeyondMix_of_sources rfl

/-- The force modes the gates stand by are those of the ended block (R11, R17). -/
theorem State.evaluatedForces_plain (s : State) (r : BlockRaces) (plain : s.port.resetRequest = false) (i : Fin 16) :
    s.ended.evaluatedForces (s.boundary r) i = (s.source i).mix.force := by
  unfold State.evaluatedForces
  rw [s.ended_resetRequest, plain]
  exact congrArg (fun x : Source => x.mix.force) (s.ended_source i)

/-- A source before LAST is released: its evaluated gate, changed once by a new force mode (R11, R17). -/
theorem State.source_forced (s : State) (r : BlockRaces) (plain : s.port.resetRequest = false) (i : Fin 16) :
    ∃ m p, ((s.cued r).followForces (s.ended.evaluatedForces (s.boundary r))).source i
      = Source.followForce { (s.evaluating r).evaluateGates.source i with mix := m, pos := p } (s.source i).mix.force := by
  obtain ⟨m, p, cued⟩ := s.sameBeyondMix_evaluated r plain i
  refine ⟨m, p, ?_⟩
  rw [State.source_followForces, cued, s.evaluatedForces_plain r plain]

/-- LAST released beside a FORCED_OPEN gate (R17). -/
theorem State.source_releaseLast (s : State) (len : s.sources.length = 16) (i : Fin 16) :
    s.releaseLast.source i = if (s.source i).gate = .last ∧ ∃ j, (s.source j).gate = .forcedOpen
      then { s.source i with gate := .closed } else s.source i := by
  have any : s.sources.any (fun x => x.gate == .forcedOpen) = true ↔ ∃ j, (s.source j).gate = .forcedOpen := by
    rw [s.sources_eq_map len]
    simp [allSources]
  unfold State.releaseLast
  by_cases forced : ∃ j, (s.source j).gate = .forcedOpen
  · rw [if_pos (any.2 forced), State.source_mapSources]
    simp only [forced, and_true]
  · rw [if_neg (fun h => forced (any.1 h)), if_neg (fun h => forced h.2)]

/-- The gate a block start without a reset leaves before LAST is released: the evaluated gate, set once by the force mode
that the block start leaves, where that differs from the one evaluated (R11, R17, R111). -/
def State.forcedAt (s : State) (r : BlockRaces) (i : Fin 16) : GateState :=
  if ((s.blockStart r).source i).mix.force = (s.source i).mix.force then ((s.evaluating r).evaluatedGate i).1
  else forcedGate ((s.blockStart r).source i).mix.force ((s.evaluating r).evaluatedGate i).1

/-- What a force-mode change makes of an evaluated source (R17). -/
theorem Source.followForce_evaluated (x : Source) (m : SourceMix) (p : Position) (g : GateState × Nat)
    (gate : (x.gate, x.holdCount) = g) (rests : g.1 ≠ .hold → g.2 = 0) (mode : ForceMode) :
    (Source.followForce { x with mix := m, pos := p } mode).mix = m
    ∧ (Source.followForce { x with mix := m, pos := p } mode).floor = x.floor
    ∧ (Source.followForce { x with mix := m, pos := p } mode).rise = x.rise
    ∧ (Source.followForce { x with mix := m, pos := p } mode).gate = (if m.force = mode then g.1 else forcedGate m.force g.1)
    ∧ (Source.followForce { x with mix := m, pos := p } mode).holdCount
      = if (if m.force = mode then g.1 else forcedGate m.force g.1) = .hold then g.2 else 0 := by
  subst gate
  obtain ⟨mix, _, _, floor, rise, gate, count⟩ := Source.followForce_spec { x with mix := m, pos := p } mode
  refine ⟨mix, floor, rise, gate, count.trans ?_⟩
  by_cases same : m.force = mode
  · rw [if_pos (.inl same), if_pos same]
    split
    · rfl
    · rename_i left
      exact rests left
  · rw [if_neg same]
    simp only [same, false_or]

theorem State.evaluatedGate_rests (s : State) (i : Fin 16) (h : (s.evaluatedGate i).1 ≠ .hold) :
    (s.evaluatedGate i).2 = 0 := settledGate_counterRests _ _ _ _ h

/-- The source at the end of a block start without a reset, part by part (R9, R11, R15, R17). -/
theorem State.source_blockStart (s : State) (r : BlockRaces) (plain : s.port.resetRequest = false) (i : Fin 16) :
    ((s.blockStart r).source i).floor = ((s.evaluating r).evaluateGates.source i).floor
    ∧ ((s.blockStart r).source i).rise = ((s.evaluating r).evaluateGates.source i).rise
    ∧ ((s.blockStart r).source i).gate = (if s.forcedAt r i = .last ∧ ∃ j, s.forcedAt r j = .forcedOpen then .closed
        else s.forcedAt r i)
    ∧ ((s.blockStart r).source i).holdCount
      = if s.forcedAt r i = .hold then ((s.evaluating r).evaluatedGate i).2 else 0 := by
  let u := (s.cued r).followForces (s.ended.evaluatedForces (s.boundary r))
  have len : u.sources.length = 16 := State.mapSources_length _ _
  have released : ∀ j, (s.blockStart r).source j = u.releaseLast.source j := fun j =>
    State.source_congr (s.blockStart_of_followed r).1 j
  have parts : ∀ j, (u.source j).floor = ((s.evaluating r).evaluateGates.source j).floor
      ∧ (u.source j).rise = ((s.evaluating r).evaluateGates.source j).rise ∧ (u.source j).gate = s.forcedAt r j
      ∧ (u.source j).holdCount = if s.forcedAt r j = .hold then ((s.evaluating r).evaluatedGate j).2 else 0 := by
    intro j
    obtain ⟨m, p, forced⟩ := s.source_forced r plain j
    obtain ⟨mix, floor, rise, gate, count⟩ := Source.followForce_evaluated _ m p _
      ((s.evaluating r).gate_evaluateGates j) ((s.evaluating r).evaluatedGate_rests j) (s.source j).mix.force
    have left : ((s.blockStart r).source j).mix = m := by
      rw [released, u.source_releaseLast len, ← mix, ← forced]
      split <;> rfl
    rw [show u.source j = _ from forced, State.forcedAt, left]
    exact ⟨floor, rise, gate, count⟩
  obtain ⟨floor, rise, gate, count⟩ := parts i
  have releases : ((u.source i).gate = .last ∧ ∃ j, (u.source j).gate = .forcedOpen)
      ↔ (s.forcedAt r i = .last ∧ ∃ j, s.forcedAt r j = .forcedOpen) := by
    simp only [(parts _).2.2.1]
  rw [released, u.source_releaseLast len]
  by_cases here : s.forcedAt r i = .last ∧ ∃ j, s.forcedAt r j = .forcedOpen
  · rw [if_pos (releases.2 here), if_pos here]
    exact ⟨floor, rise, rfl, count⟩
  · rw [if_neg (fun h => here (releases.1 h)), if_neg here]
    exact ⟨floor, rise, gate, count⟩

/-! ### The copy in force (R132, R137, R140, R141) -/

/-- With the ended block's part examined, a switch-over is due exactly where the statement says so (R140). -/
theorem State.switchDue_advanced (s : State) (r : BlockRaces) (plain : s.port.resetRequest = false)
    (runs : s.adoptionRuns) : (s.ended.advanced r).switchDue = s.switchesAt r := by
  obtain ⟨_, _, _, _, _, adoption, _⟩ := s.ended.advanced_members r
  unfold State.switchDue State.switchesAt
  rw [adoption, s.ended_adoption runs, plain]
  cases s.adoption with
  | none => rfl
  | some a => simp

/-- The evaluation goes by the copy in force (R11, R16). -/
theorem State.evaluating_adopted (s : State) (r : BlockRaces) (plain : s.port.resetRequest = false)
    (runs : s.adoptionRuns) : (s.evaluating r).adopted = s.copyInForce r := by
  obtain ⟨_, _, _, _, live, adoption, _⟩ := s.ended.advanced_members r
  have due := s.switchDue_advanced r plain runs
  have before : (s.ended.advanced r).adopted = s.adopted := by
    rw [State.adopted, live, s.ended_live]
    rfl
  unfold State.evaluating State.copyInForce
  cases adopting : s.adoption with
  | none =>
    have undue : (s.ended.advanced r).switchDue = false := by
      rw [due, State.switchesAt, adopting]
    rw [undue]
    simpa [State.adopted] using before
  | some a =>
    rw [due]
    by_cases switches : s.switchesAt r = true
    · have next : (s.ended.advanced r).adoption = some { a.examined s.mem with part := a.part + 1 } := by
        rw [adoption, s.ended_adoption runs, adopting]
        rfl
      rw [if_pos switches]
      simp only [switches, if_true]
      have installed := (State.installDue_of_due next (due.trans switches)).1
      dsimp only at installed
      exact installed
    · rw [if_neg switches]
      simp only [switches]
      simpa [State.adopted] using before

/-- Where a switch-over lowers the hold counters, the evaluation finds them lowered (R16). -/
theorem State.evaluating_holdCount (s : State) (r : BlockRaces) (plain : s.port.resetRequest = false)
    (runs : s.adoptionRuns) (b : Bank) (copy : s.copyInForce r = some b) (i : Fin 16)
    (hold : (s.source i).gate = .hold) :
    ((s.evaluating r).source i).holdCount
      = if s.switchesAt r then min (s.source i).holdCount b.globals.holdBlocks else (s.source i).holdCount := by
  obtain ⟨sources, _, _, _, _, adoption, _⟩ := s.ended.advanced_members r
  have same : (s.ended.advanced r).source i = s.source i := (State.source_congr sources i).trans (s.ended_source i)
  have due := s.switchDue_advanced r plain runs
  by_cases switches : s.switchesAt r = true
  · unfold State.evaluating
    rw [due, if_pos switches, if_pos switches]
    cases adopting : s.adoption with
    | none => simp [State.switchesAt, adopting] at switches
    | some a =>
      have next : (s.ended.advanced r).adoption = some { a.examined s.mem with part := a.part + 1 } := by
        rw [adoption, s.ended_adoption runs, adopting]
        rfl
      have bank : bankOf (a.examined s.mem).staging = b := by
        simpa [State.copyInForce, adopting, switches] using copy
      rw [(State.installDue_of_due next (due.trans switches)).2 i, same, Source.lowerHold, if_pos hold]
      dsimp only
      rw [bank]
  · unfold State.evaluating
    rw [due, if_neg switches, if_neg switches, State.source_congr (s := s.ended.advanced r) (by simp), same]

end Sys2Proof.Machine
end

section
/-! The arbiter at a block start (O13). -/

namespace Sys2Proof.Machine

/-! ### Gates that settle by themselves -/

/-- A gate that a step settles by itself, or that an engine reset sets: neither OPEN nor HOLD nor LAST. -/
abbrev GateState.unplaced (g : GateState) : Prop := g ≠ .opened ∧ g ≠ .hold ∧ g ≠ .last

theorem ForceMode.forced_unplaced {mode : ForceMode} {g : GateState} (h : mode.forced = some g) : g.unplaced := by
  cases mode <;> cases h <;> decide

/-- A gate's own step settles it in no state that the arbiter places (R11 to R13). -/
theorem Source.gateStep_unplaced (x : Source) (params : Option GateParams) (lost : Bool) (level : Int) (g : GateState)
    (h : x.gateStep params lost level = .settled g) : g.unplaced := by
  have closed : GateState.closed.unplaced := by decide
  unfold Source.gateStep at h
  split at h
  · cases h
    decide
  · split at h
    · cases h
      exact closed
    · split at h
      · rename_i forced
        cases h
        exact ForceMode.forced_unplaced forced
      · split at h
        · cases h
          exact closed
        · unfold Source.autoStep at h
          dsimp only at h
          (repeat' split at h) <;> cases h <;> exact closed

theorem State.gateSteps_unplaced (s : State) (i : Fin 16) (g : GateState) (h : stepAt s.gateSteps i = .settled g) :
    g.unplaced := by
  rw [State.gateSteps, stepAt_map] at h
  exact Source.gateStep_unplaced _ _ _ _ g h

/-- The step of a gate after the arbiter, at an evaluation (R14). -/
def State.placedStep (s : State) (i : Fin 16) : GateStep :=
  arbitrated s.paramsInForce.maxOpen s.gateSteps s.levelOfSource i

theorem State.placedStep_unplaced (s : State) (i : Fin 16) (g : GateState) (h : s.placedStep i = .settled g) :
    g.unplaced := by
  unfold State.placedStep at h
  rcases arbitrated_cases s.paramsInForce.maxOpen s.gateSteps s.levelOfSource i with e | e | e <;> rw [e] at h
  · exact s.gateSteps_unplaced i g h
  · cases h
  · cases h
    decide

theorem State.evaluatedGate_eq (s : State) (i : Fin 16) :
    s.evaluatedGate i = settledGate s.paramsInForce.lastOn s.gateSteps (allSources.map s.placedStep) i := rfl

/-- A gate evaluated to OPEN or HOLD is one that the arbiter holds (R14). -/
theorem State.held_of_evaluatedGate (s : State) (i : Fin 16)
    (h : (s.evaluatedGate i).1 = .opened ∨ (s.evaluatedGate i).1 = .hold) : (s.placedStep i).held = true := by
  rw [State.evaluatedGate_eq, settledGate, stepAt_map] at h
  cases placed : s.placedStep i with
  | opened | hold count => rfl
  | settled g =>
    obtain ⟨opened, hold, _⟩ := s.placedStep_unplaced i g placed
    rw [placed] at h
    exact absurd h (not_or.2 ⟨opened, hold⟩)
  | candidate =>
    rw [placed] at h
    rcases h with h | h <;> cases h
  | last | expiring =>
    rw [placed] at h
    dsimp only at h
    split at h <;> rcases h with h | h <;> cases h

/-- A new force mode makes no gate OPEN, HOLD or LAST (R17). -/
theorem forcedGate_unplaced {mode : ForceMode} {g : GateState} :
    (forcedGate mode g = .opened → g = .opened) ∧ (forcedGate mode g = .hold → g = .hold)
    ∧ (forcedGate mode g = .last → g = .last) := by
  cases mode <;> cases g <;> simp [forcedGate]

/-! ### The gates after an engine reset (R21) -/

theorem resetGate_unplaced (running linkLost : Bool) (mode : ForceMode) :
    (resetGate running linkLost mode).unplaced := by
  cases running <;> cases linkLost <;> cases mode <;> decide

theorem State.boundary_reset (s : State) (r : BlockRaces) (asked : s.port.resetRequest = true) :
    s.boundary r = s.ended.resetBoundary r := by
  unfold State.boundary
  rw [s.ended_resetRequest, asked]
  rfl

/-- The state whose units an engine reset sets (R156). -/
def State.resetting (s : State) : State :=
  State.abandonAdoption (State.resetSurvey
    { s.withPort { s.port with resetRequest := false } with marks := { s.marks with resetHere := true } })

theorem State.carryReset_eq (s : State) :
    s.carryReset = ((s.resetting.mapSources s.resetting.resetSource).mapZones
      (s.resetting.mapSources s.resetting.resetSource).resetZone).emptyLists := rfl

theorem State.source_carryReset (s : State) (i : Fin 16) :
    s.carryReset.source i = s.resetting.resetSource i (s.resetting.source i) :=
  (State.source_congr (s := s.resetting.mapSources s.resetting.resetSource) rfl i).trans (State.source_mapSources _ _ i)

theorem Source.followForce_unplaced (x : Source) (mode : ForceMode) (h : x.gate.unplaced) :
    (x.followForce mode).gate.unplaced := by
  obtain ⟨opened, hold, last⟩ := h
  obtain ⟨fromOpened, fromHold, fromLast⟩ := @forcedGate_unplaced x.mix.force x.gate
  rw [x.followForce_gate mode]
  split
  · exact ⟨opened, hold, last⟩
  · exact ⟨fun e => opened (fromOpened e), fun e => hold (fromHold e), fun e => last (fromLast e)⟩

theorem State.followForces_length (s : State) (before : Fin 16 → ForceMode) :
    (s.followForces before).sources.length = 16 := State.mapSources_length _ _

/-- A block start with an engine reset leaves no gate OPEN, HOLD or LAST (R21). -/
theorem State.unplaced_of_reset (s : State) (r : BlockRaces) (asked : s.port.resetRequest = true) (i : Fin 16) :
    ((s.blockStart r).source i).gate.unplaced := by
  obtain ⟨m, p, cued⟩ := s.sameBeyondMix_cued r i
  have reset : ((s.cued r).source i).gate.unplaced := by
    rw [cued, s.boundary_reset r asked]
    exact (congrArg (fun x : Source => x.gate.unplaced) (State.source_carryReset _ i)).mpr (resetGate_unplaced _ _ _)
  rw [State.source_congr (s.blockStart_of_followed r).1, State.followed,
    State.source_releaseLast _ (State.followForces_length _ _)]
  split
  · show GateState.closed.unplaced
    decide
  · rw [State.source_followForces]
    exact Source.followForce_unplaced _ _ reset

/-! ### No more gates placed than max open (R14) -/

theorem filter_le_one {p : Fin 16 → Bool} {i : Fin 16} (only : ∀ j, p j = true → j = i) :
    (allSources.filter p).length ≤ 1 := by
  rw [filter_length_eq_card, Finset.card_le_one]
  intro a ha b hb
  simp only [Finset.mem_filter, Finset.mem_univ, true_and] at ha hb
  rw [only a ha, only b hb]

theorem filter_length_mono {p q : Fin 16 → Bool} (h : ∀ i, p i = true → q i = true) :
    (allSources.filter p).length ≤ (allSources.filter q).length := by
  rw [filter_length_eq_card, filter_length_eq_card]
  refine Finset.card_le_card (fun i hi => ?_)
  simp only [Finset.mem_filter, Finset.mem_univ, true_and] at hi ⊢
  exact h i hi

theorem State.cued_live (s : State) (r : BlockRaces) : (s.cued r).live = (s.boundary r).live := by
  unfold State.cued
  split <;> simp

theorem State.blockStart_live (s : State) (r : BlockRaces) : (s.blockStart r).live = (s.boundary r).live := by
  obtain ⟨_, _, _, _, live, _⟩ := s.blockStart_of_mixed r
  rw [live, ← s.cued_live r]
  simp [State.mixed, State.followed]

/-- The bank in force after a block start without a reset is the one the evaluation goes by. -/
theorem State.blockStart_adopted (s : State) (r : BlockRaces) (plain : s.port.resetRequest = false) :
    (s.blockStart r).adopted = (s.evaluating r).adopted := by
  have live : (s.boundary r).live = (s.evaluating r).live := by
    rw [s.boundary_plain r plain, State.plainBoundary_eq]
    unfold State.evaluating
    split <;> simp
  rw [State.adopted, s.blockStart_live, live]
  rfl

/-- A gate that a block start without a reset leaves OPEN or HOLD is one that the arbiter holds (R14). -/
theorem State.held_of_blockStart (s : State) (r : BlockRaces) (plain : s.port.resetRequest = false) (i : Fin 16)
    (h : ((s.blockStart r).source i).gate = .opened ∨ ((s.blockStart r).source i).gate = .hold) :
    ((s.evaluating r).placedStep i).held = true := by
  refine (s.evaluating r).held_of_evaluatedGate i ?_
  obtain ⟨_, _, gate, _⟩ := s.source_blockStart r plain i
  obtain ⟨opened, hold, _⟩ := @forcedGate_unplaced ((s.blockStart r).source i).mix.force ((s.evaluating r).evaluatedGate i).1
  rw [gate] at h
  have forced : s.forcedAt r i = .opened ∨ s.forcedAt r i = .hold := by
    split at h
    · rcases h with h | h <;> cases h
    · exact h
  unfold State.forcedAt at forced
  split at forced
  · exact forced
  · exact forced.imp opened hold

/-- After a block start the gates in OPEN, HOLD and LAST together do not exceed max open (R14, R15). -/
theorem State.blockStart_places (s : State) (r : BlockRaces) (b : Bank) (alone : s.lastAlone)
    (live : (s.blockStart r).adopted = some b) (some : 1 ≤ b.globals.maxOpen) :
    ((s.blockStart r).sources.filter (fun x => x.gate = .opened ∨ x.gate = .hold ∨ x.gate = .last)).length
      ≤ b.globals.maxOpen := by
  have len := (s.blockStart_nomCounts r).1
  rw [(s.blockStart r).sources_eq_map len, List.filter_map, List.length_map]
  have lastAlone : (s.blockStart r).lastAlone := keptGates_lastAlone.kept.blockStart s r alone
  by_cases last : ∃ i, ((s.blockStart r).source i).gate = .last
  · obtain ⟨i, isLast⟩ := last
    refine (filter_le_one (i := i) (fun j placed => ?_)).trans some
    by_contra apart
    have uncounted := lastAlone i j (Ne.symm apart) isLast
    simp only [Function.comp_apply, decide_eq_true_eq] at placed
    rcases placed with e | e | e <;> rw [e] at uncounted <;> cases uncounted
  · have held : ∀ j, (((s.blockStart r).source j).gate = .opened ∨ ((s.blockStart r).source j).gate = .hold
        ∨ ((s.blockStart r).source j).gate = .last) →
        ((s.blockStart r).source j).gate = .opened ∨ ((s.blockStart r).source j).gate = .hold := by
      intro j placed
      rcases placed with e | e | e
      · exact .inl e
      · exact .inr e
      · exact absurd ⟨j, e⟩ last
    cases asked : s.port.resetRequest with
    | true =>
      have none : (allSources.filter ((fun x : Source => decide (x.gate = .opened ∨ x.gate = .hold ∨ x.gate = .last))
          ∘ (s.blockStart r).source)) = [] := by
        rw [List.filter_eq_nil_iff]
        intro j _
        obtain ⟨opened, hold, unlast⟩ := s.unplaced_of_reset r asked j
        simp [opened, hold, unlast]
      rw [none]
      exact Nat.zero_le _
    | false =>
      have maxOpen : (s.evaluating r).paramsInForce.maxOpen = b.globals.maxOpen := by
        rw [s.blockStart_adopted r asked] at live
        simp [State.paramsInForce, State.evalParams, live, gateParams]
      rw [← maxOpen]
      refine (filter_length_mono (fun j placed => ?_)).trans
        (arbitrated_held_length _ (s.evaluating r).gateSteps (s.evaluating r).levelOfSource)
      simp only [Function.comp_apply, decide_eq_true_eq] at placed
      exact s.held_of_blockStart r asked j (held j placed)

end Sys2Proof.Machine
end

section
/-! The gates of a block start by the statement's own table (O13). -/

namespace Sys2Proof.Machine

/-! ### The own step of a gate that was not lost (R11 to R13) -/

section
variable {x : Source} {p : GateParams} {level : Int}

theorem Source.gateStep_lost (params : Option GateParams) : x.gateStep params true level = .settled .lost := rfl

theorem Source.gateStep_forced {g : GateState} (h : x.mix.force.forced = some g) :
    x.gateStep (some p) false level = .settled g := by
  simp [Source.gateStep, h]

theorem Source.gateStep_auto (force : x.mix.force = .auto) (gate : x.gate ≠ .lost) :
    x.gateStep (some p) false level = x.autoStep p level := by
  simp [Source.gateStep, force, ForceMode.forced, gate]

theorem Source.gateStep_recovered (force : x.mix.force = .auto) (gate : x.gate = .lost) :
    x.gateStep (some p) false level = .settled .closed := by
  simp [Source.gateStep, force, ForceMode.forced, gate]

end

/-! ### The settling of a placed step, by the statement's words (R15) -/

/-- The arbiter has opened a candidate (R15). -/
def State.opensCandidate (s : State) : Bool :=
  allSources.any (fun j => stepAt s.gateSteps j = .candidate ∧ s.placedStep j = .opened)

/-- Another gate is OPEN, HOLD or FORCED_OPEN after the arbiter (R15). -/
def State.otherPlaced (s : State) (i : Fin 16) : Bool :=
  allSources.any (fun j => j ≠ i ∧ ((s.placedStep j).held = true ∨ s.placedStep j = .settled .forcedOpen))

/-- No other gate leaves HOLD (R15). -/
def State.expiresAlone (s : State) (i : Fin 16) : Bool :=
  allSources.all (fun j => j = i ∨ s.placedStep j ≠ .expiring)

theorem State.anyOpened_placed (s : State) :
    anyOpened s.gateSteps (allSources.map s.placedStep) = s.opensCandidate := by
  unfold anyOpened State.opensCandidate
  congr 1
  funext j
  rw [stepAt_map]
  by_cases a : stepAt s.gateSteps j = .candidate <;> by_cases b : s.placedStep j = .opened <;> simp [a, b]

/-- A step that settles no gate which the arbiter places is other-open where it is held or settled in FORCED_OPEN (R15). -/
theorem GateStep.otherOpen_eq (step : GateStep) (unplaced : ∀ g, step = .settled g → g.unplaced) :
    step.otherOpen = decide (step.held = true ∨ step = .settled .forcedOpen) := by
  cases placed : step with
  | settled g =>
    obtain ⟨unopened, unheld, _⟩ := unplaced g placed
    cases g <;> simp_all [GateStep.otherOpen, GateState.otherOpen, GateStep.held]
  | _ => simp [GateStep.otherOpen, GateStep.held]

theorem anyOtherOpen_map (placed : Fin 16 → GateStep) (unplaced : ∀ j g, placed j = .settled g → g.unplaced)
    (i : Fin 16) :
    anyOtherOpen (allSources.map placed) i
      = allSources.any (fun j => j ≠ i ∧ ((placed j).held = true ∨ placed j = .settled .forcedOpen)) := by
  unfold anyOtherOpen
  congr 1
  funext j
  rw [stepAt_map, (placed j).otherOpen_eq (unplaced j)]
  by_cases a : j = i <;> simp [a]

theorem State.anyOtherOpen_placed (s : State) (i : Fin 16) :
    anyOtherOpen (allSources.map s.placedStep) i = s.otherPlaced i :=
  anyOtherOpen_map s.placedStep s.placedStep_unplaced i

/-- One gate alone leaves HOLD exactly where no other does with it (R15). -/
theorem expiring_length (placed : Fin 16 → GateStep) {i : Fin 16} (own : placed i = .expiring) :
    ((allSources.filter (fun j => stepAt (allSources.map placed) j == .expiring)).length == 1)
      = allSources.all (fun j => j = i ∨ placed j ≠ .expiring) := by
  simp only [stepAt_map]
  rw [Bool.eq_iff_iff, beq_iff_eq]
  constructor
  · intro one
    refine List.all_eq_true.2 (fun j _ => ?_)
    by_contra beside
    simp only [ne_eq, decide_eq_true_eq, not_or, not_not] at beside
    obtain ⟨apart, expires⟩ := beside
    have two := two_le_filter (p := fun k => placed k == .expiring) apart (by simp [expires]) (by simp [own])
    omega
  · intro alone
    have most : (allSources.filter (fun j => placed j == .expiring)).length ≤ 1 := by
      refine filter_le_one (i := i) (fun j expires => ?_)
      have rest := List.all_eq_true.1 alone j (List.mem_finRange j)
      simp only [beq_iff_eq] at expires
      simpa [expires] using rest
    have some : 0 < (allSources.filter (fun j => placed j == .expiring)).length :=
      List.length_pos_of_mem (List.mem_filter.2 ⟨List.mem_finRange i, by simp [own]⟩)
    omega

theorem State.expiring_length (s : State) {i : Fin 16} (own : s.placedStep i = .expiring) :
    ((allSources.filter (fun j => stepAt (allSources.map s.placedStep) j == .expiring)).length == 1) = s.expiresAlone i :=
  Machine.expiring_length s.placedStep own

/-- A gate in LAST without speech stays where nothing has opened beside it (R15). -/
theorem State.evaluatedGate_last (s : State) {i : Fin 16} (own : s.placedStep i = .last) :
    s.evaluatedGate i
      = (if s.paramsInForce.lastOn && !s.opensCandidate && !s.otherPlaced i then .last else .closed, 0) := by
  rw [State.evaluatedGate_eq, settledGate, stepAt_map, own, s.anyOpened_placed, s.anyOtherOpen_placed]
  cases s.opensCandidate <;> cases s.otherPlaced i <;> cases s.paramsInForce.lastOn <;> rfl

/-- A gate that leaves HOLD goes to LAST where nothing is open beside it and it leaves alone (R15). -/
theorem State.evaluatedGate_expiring (s : State) {i : Fin 16} (own : s.placedStep i = .expiring) :
    s.evaluatedGate i
      = (if s.paramsInForce.lastOn && !s.opensCandidate && !s.otherPlaced i && s.expiresAlone i then .last
          else .closed, 0) := by
  rw [State.evaluatedGate_eq, settledGate, stepAt_map, own]
  dsimp only
  rw [s.anyOpened_placed, s.anyOtherOpen_placed, s.expiring_length own]
  cases s.opensCandidate <;> cases s.otherPlaced i <;> cases s.expiresAlone i <;> cases s.paramsInForce.lastOn <;> rfl

/-! ### The evaluation of a block start -/

theorem State.paramsInForce_of (s : State) (b : Bank) (live : s.adopted = some b) : s.paramsInForce = gateParams b := by
  simp [State.paramsInForce, State.evalParams, live]

/-- The own steps of a block start's evaluation, source by source. -/
theorem State.gateSteps_evaluating (s : State) (r : BlockRaces) (b : Bank) (live : (s.evaluating r).adopted = some b)
    (i : Fin 16) :
    ∃ x, (s.evaluating r).source i = x ∧ x.mix = (s.source i).mix ∧ x.gate = (s.source i).gate
      ∧ x.floor = (s.source i).floor
      ∧ stepAt (s.evaluating r).gateSteps i
        = x.gateStep (some (gateParams b)) (s.lostBlock i) (s.source i).level := by
  obtain ⟨count, source⟩ := s.evaluating_source r i
  have params : (s.evaluating r).evalParams = some (gateParams b) := by simp [State.evalParams, live]
  refine ⟨_, source, rfl, rfl, rfl, ?_⟩
  rw [State.gateSteps, stepAt_map, source, params, s.evaluating_lostBlock, s.evaluating_level]

/-- The steps of sixteen sources, each by its number. -/
theorem State.gateSteps_eq (s : State) : s.gateSteps = allSources.map (stepAt s.gateSteps) := by
  have own : stepAt s.gateSteps = fun i => (s.source i).gateStep s.evalParams (s.lostBlock i) (s.levelOfSource i) := by
    funext i
    rw [State.gateSteps, stepAt_map]
  rw [own]
  rfl

/-- Settles O13: the arbiter's places counted, LAST alone beside them, and the evaluation of a block start by the tables
of R11 to R15 and R17. -/
theorem arbiterKeepsPlaces : Obligations.ArbiterKeepsPlaces := by
  refine ⟨fun maxOpen steps level => ⟨stepAt_map, GateStep.held_iff, arbitrated_held_length maxOpen steps level,
    fun fits i held => arbitrated_fits maxOpen steps level fits held,
    fun i j hi hj opened refused => louder_of_opened maxOpen steps level hi hj opened refused,
    fun i held candidate => arbitrated_other maxOpen steps level held candidate, arbitrated_counts maxOpen steps level,
    fun i candidate refused => arbitrated_refused maxOpen steps level candidate refused,
    fun i held closes => arbitrated_closes maxOpen steps level held closes,
    fun i j hi hj stays closes => louder_of_kept maxOpen steps level hi hj stays closes⟩, ?_, ?_⟩
  · intro r s t b alone e live some
    obtain rfl := Host.Outcome.next.inj e
    exact s.blockStart_places r b alone live some
  · intro r s b plain runs copy level speech held own placed opened otherOpen alone evaluated
    have live : (s.evaluating r).adopted = some b := (s.evaluating_adopted r plain runs).trans copy
    have steps : ∀ i, stepAt (s.evaluating r).gateSteps i = own i := by
      intro i
      obtain ⟨x, source, mix, gate, floor, step⟩ := s.gateSteps_evaluating r b live i
      have spoken : x.speech b.globals.openMargin (s.source i).level = speech i := by
        unfold Source.speech
        simp only [speech, ← floor]
        cases x.floor <;> rfl
      have counted : x.gate = .hold → x.holdCount = held i := by
        intro hold
        have lowered := s.evaluating_holdCount r plain runs b copy i (gate ▸ hold)
        rwa [source] at lowered
      rw [step]
      simp only [own]
      rw [← mix, ← gate]
      generalize speech i = sp at spoken
      cases s.lostBlock i with
      | true => rfl
      | false =>
        cases force : x.mix.force with
        | opened | closed => exact Source.gateStep_forced (by rw [force]; rfl)
        | auto =>
          cases isIn : x.gate with
          | lost => exact Source.gateStep_recovered force isIn
          | forcedOpen | forcedClosed =>
            rw [Source.gateStep_auto force (by simp [isIn])]
            simp [Source.autoStep, isIn]
          | closed | opened | last =>
            rw [Source.gateStep_auto force (by simp [isIn])]
            simp only [Source.autoStep, isIn, gateParams, spoken]
            cases sp <;> rfl
          | hold =>
            rw [Source.gateStep_auto force (by simp [isIn]), ← counted isIn]
            simp only [Source.autoStep, isIn, gateParams, spoken]
            cases sp <;> rfl
    have params := (s.evaluating r).paramsInForce_of b live
    have levels : (s.evaluating r).levelOfSource = level := funext (s.evaluating_level r)
    have all : (s.evaluating r).gateSteps = allSources.map own := by
      rw [State.gateSteps_eq, funext steps]
    have places : (s.evaluating r).placedStep = placed := by
      funext i
      rw [State.placedStep, params, all, levels]
      rfl
    have opens : (s.evaluating r).opensCandidate = opened := by
      simp only [State.opensCandidate, steps, places, opened]
    have others : (s.evaluating r).otherPlaced = otherOpen := by
      funext i
      simp only [State.otherPlaced, places, otherOpen]
    have alones : (s.evaluating r).expiresAlone = alone := by
      funext i
      simp only [State.expiresAlone, places, alone]
    have gates : ∀ i, (s.evaluating r).evaluatedGate i = evaluated i := by
      intro i
      have here : (s.evaluating r).placedStep i = placed i := congrFun places i
      have settled := (s.evaluating r).evaluatedGate_eq i
      rw [settledGate, stepAt_map, here] at settled
      simp only [evaluated]
      cases step : placed i with
      | settled g | candidate | opened | hold c =>
        rw [step] at settled
        exact settled
      | last =>
        rw [(s.evaluating r).evaluatedGate_last (here.trans step), params, opens, others]
        rfl
      | expiring =>
        rw [(s.evaluating r).evaluatedGate_expiring (here.trans step), params, opens, others, alones]
        rfl
    refine ⟨s.blockStart r, rfl, ?_⟩
    intro forced i
    obtain ⟨_, _, gate, count⟩ := s.source_blockStart r plain i
    have forces : s.forcedAt r = forced := by
      funext j
      simp only [State.forcedAt, forced, gates]
      split
      · rfl
      · cases ((s.blockStart r).source j).mix.force <;> cases (evaluated j).1 <;> rfl
    rw [forces] at gate count
    rw [gates] at count
    exact ⟨gate, count⟩

end Sys2Proof.Machine
end

section
/-! What a change sent alone brings with it (O28, O30, O31, O40, O42): the works of `State.settle`, field by field. -/

namespace Sys2Proof.Machine

/-! ### What the works of a settling leave -/

/-- `t` is `u` but for the gates, NOM, the lists, the request for a rebuild, the hold decision and the notices. -/
def State.settlesTo (u t : State) : Prop :=
  ∃ sources nom routes unserved admitted rebuild hold notice,
    t = { u with sources := sources, nom := nom, routes := routes, unserved := unserved, admitted := admitted,
                 rebuild := rebuild, hold := hold, port := { u.port with notice := notice } }

theorem State.settlesTo_trans {s t u : State} (h : s.settlesTo t) (k : t.settlesTo u) : s.settlesTo u := by
  obtain ⟨_, _, _, _, _, _, _, _, rfl⟩ := h
  obtain ⟨_, _, _, _, _, _, _, _, rfl⟩ := k
  exact ⟨_, _, _, _, _, _, _, _, rfl⟩

theorem State.settlesTo_releaseLast (s : State) : s.settlesTo s.releaseLast := by
  unfold State.releaseLast
  split <;> exact ⟨_, _, _, _, _, _, _, _, rfl⟩

theorem State.settlesTo_rebuildRoutes (s : State) : s.settlesTo s.rebuildRoutes := by
  unfold State.rebuildRoutes State.raiseIf
  dsimp only
  split <;> exact ⟨_, _, _, _, _, _, _, _, rfl⟩

theorem State.settlesTo_serveRebuild (s : State) : s.settlesTo s.serveRebuild := by
  unfold State.serveRebuild
  (repeat' split) <;> first | exact s.settlesTo_rebuildRoutes | exact ⟨_, _, _, _, _, _, _, _, rfl⟩

theorem State.settlesTo_settle (s : State) : s.settlesTo s.settle := by
  have counted : s.releaseLast.settlesTo s.releaseLast.countNom := ⟨_, _, _, _, _, _, _, _, rfl⟩
  have composed : s.releaseLast.countNom.serveRebuild.settlesTo s.settle := ⟨_, _, _, _, _, _, _, _, rfl⟩
  exact State.settlesTo_trans s.settlesTo_releaseLast (State.settlesTo_trans counted
    (State.settlesTo_trans (State.settlesTo_serveRebuild _) composed))

/-! ### Notices -/

theorem State.raiseIf_noticed (s : State) (c : Bool) (n m : Notice) :
    (s.raiseIf c n).noticed m = (c && decide (n = m) || s.noticed m) := by
  unfold State.raiseIf
  cases c
  · simp
  · simpa using s.raise_noticed n m

theorem State.noticed_congr {s t : State} (h : t.port = s.port) (n : Notice) : t.noticed n = s.noticed n := by
  unfold State.noticed
  rw [h]

theorem State.releaseLast_port (s : State) : s.releaseLast.port = s.port := by simp

/-- A rebuild raises ROUTE_FULL where the unserved list fills (R45). -/
theorem State.rebuildRoutes_noticed (s : State) (n : Notice) :
    s.rebuildRoutes.noticed n
      = ((s.unserved.isEmpty && !s.rebuildRoutes.unserved.isEmpty) && decide (Notice.routeFull = n) || s.noticed n) := by
  have unserved : s.rebuildRoutes.unserved = (s.admittedNow.filter (fun p => !s.hasEntry p)).drop
      (Config.routeCapacity - (s.mapRoutes (fun e => e.rebuilt (s.admittedNow.contains e.pair))).routes.length) := by
    unfold State.rebuildRoutes
    simp only [State.raiseIf_frame]
  rw [unserved]
  unfold State.rebuildRoutes
  rw [State.raiseIf_noticed]
  rfl

theorem State.serveRebuild_noticed (s : State) (n : Notice) (apart : n ≠ .routeFull) :
    s.serveRebuild.noticed n = s.noticed n := by
  have rebuilt : s.rebuildRoutes.noticed n = s.noticed n := by
    rw [s.rebuildRoutes_noticed]
    simp [apart.symm]
  unfold State.serveRebuild
  (repeat' split) <;> first | exact rebuilt | rfl

theorem State.settle_noticed (s : State) (n : Notice) (apart : n ≠ .routeFull) : s.settle.noticed n = s.noticed n := by
  have served : s.settle.noticed n = s.releaseLast.countNom.serveRebuild.noticed n := rfl
  rw [served, State.serveRebuild_noticed _ n apart]
  exact State.noticed_congr s.releaseLast_port n

/-! ### Positions, admission and target delays -/

/-- `t` has the live bank and the positions of `s`. -/
def State.samePlan (s t : State) : Prop := t.live = s.live ∧ ∀ i, (t.source i).pos = (s.source i).pos

theorem State.samePlan.symm {s t : State} (h : s.samePlan t) : t.samePlan s := ⟨h.1.symm, fun i => (h.2 i).symm⟩

theorem State.samePlan.trans {s t u : State} (h : s.samePlan t) (k : t.samePlan u) : s.samePlan u :=
  ⟨k.1.trans h.1, fun i => (k.2 i).trans (h.2 i)⟩

theorem State.samePlan_of_sources {s t : State} (live : t.live = s.live) (sources : t.sources = s.sources) :
    s.samePlan t := ⟨live, fun i => by rw [State.source_congr sources]⟩

theorem State.samePlan.targetDelayOf {s t : State} (h : s.samePlan t) (p : Pair) :
    t.targetDelayOf p = s.targetDelayOf p := by
  obtain ⟨live, pos⟩ := h
  unfold State.targetDelayOf State.adopted
  rw [live, pos]

theorem State.samePlan.admittedNow {s t : State} (h : s.samePlan t) : t.admittedNow = s.admittedNow := by
  obtain ⟨live, pos⟩ := h
  unfold State.admittedNow State.adopted
  rw [live]
  simp only [pos]

theorem State.samePlan_releaseLast (s : State) : s.samePlan s.releaseLast := by
  refine ⟨by simp, fun i => ?_⟩
  unfold State.releaseLast
  split
  · rw [State.source_mapSources]
    split <;> rfl
  · rfl

theorem State.settle_sources (s : State) : s.settle.sources = s.releaseLast.sources := by simp [State.settle]

theorem State.settle_live (s : State) : s.settle.live = s.live := by simp [State.settle]

theorem State.samePlan_settle (s : State) : s.samePlan s.settle :=
  s.samePlan_releaseLast.trans (State.samePlan_of_sources (by simp [State.settle]) s.settle_sources)

/-! ### The rebuild (R43 to R46) -/

theorem Entry.rebuilt_rest (e : Entry) (admitted : Bool) : entryStands e (e.rebuilt admitted) := by
  unfold entryStands Entry.rebuilt
  split <;> rfl

theorem Entry.rebuilt_live (e : Entry) (admitted : Bool) :
    (e.rebuilt admitted).lifecycle = .live ↔ admitted = true := by
  unfold Entry.rebuilt
  cases life : e.lifecycle <;> cases admitted <;> simp [life, Entry.retire]

theorem entryStands_trans {e f g : Entry} (h : entryStands e f) (k : entryStands f g) : entryStands e g := by
  unfold entryStands at *
  rw [k, h]

theorem State.composeEntry_stands (s : State) (e : Entry) : entryStands e (s.composeEntry e) := by
  obtain ⟨_, _, _, composed⟩ := s.composeEntry_rest e
  unfold entryStands
  rw [composed]

/-- The pairs that want an entry: admitted now, and without one (R44). -/
def State.wanting (s : State) : List Pair := s.admittedNow.filter (fun p => s.routes.all (fun e => e.pair != p))

theorem State.wanting_eq (s : State) : s.admittedNow.filter (fun p => !s.hasEntry p) = s.wanting := by
  unfold State.wanting State.hasEntry
  congr 1
  funext p
  rw [List.not_any_eq_all_not]
  rfl

/-- A rebuild: the admitted set, the list and the unserved list (R43 to R45). -/
theorem State.rebuildRoutes_lists (s : State) :
    s.rebuildRoutes.admitted = s.admittedNow ∧ s.rebuildRoutes.rebuild = .none
    ∧ s.rebuildRoutes.unserved = s.wanting.drop (160 - s.routes.length)
    ∧ ∀ e, e ∈ s.rebuildRoutes.routes ↔ (∃ f ∈ s.routes, e = f.rebuilt (s.admittedNow.contains f.pair))
        ∨ ∃ p ∈ s.wanting.take (160 - s.routes.length), e = s.newEntry p := by
  have length : (s.mapRoutes (fun e => e.rebuilt (s.admittedNow.contains e.pair))).routes.length = s.routes.length :=
    List.length_map _
  unfold State.rebuildRoutes
  simp only [State.raiseIf_frame, s.wanting_eq, length, Config.routeCapacity]
  refine ⟨trivial, trivial, trivial, fun e => ?_⟩
  have member := State.mem_insertPairs (s.mapRoutes (fun e => e.rebuilt (s.admittedNow.contains e.pair)))
    (s.wanting.take (160 - s.routes.length)) e
  refine member.trans (or_congr ?_ Iff.rfl)
  simp only [State.mapRoutes, State.withRoutes, List.mem_map]
  constructor
  · rintro ⟨f, hf, rfl⟩
    exact ⟨f, hf, rfl⟩
  · rintro ⟨f, hf, rfl⟩
    exact ⟨f, hf, rfl⟩

/-! ### The settling of a change (R42, R50, R54, R164) -/

/-- The state whose rebuild a settling serves. -/
def State.counted (u : State) : State := u.releaseLast.countNom

theorem State.settle_eq (u : State) : u.settle = u.counted.serveRebuild.compose.refreshHold := rfl

theorem State.counted_members (u : State) :
    u.counted.routes = u.routes ∧ u.counted.admitted = u.admitted ∧ u.counted.unserved = u.unserved
    ∧ u.counted.rebuild = u.rebuild ∧ u.counted.port = u.port ∧ u.counted.live = u.live
    ∧ u.counted.survey = u.survey ∧ u.counted.hold = u.hold := by
  simp [State.counted]

theorem State.samePlan_counted (u : State) : u.samePlan u.counted := u.samePlan_releaseLast

/-- No rebuild is carried out where none is due, or where a survey defers it (R42, R50). -/
theorem State.serveRebuild_waits (v : State)
    (waits : v.rebuild = .none ∨ (v.rebuild = .requested ∧ v.surveying = true)) : v.serveRebuild = v := by
  unfold State.serveRebuild
  rcases waits with request | ⟨request, surveying⟩ <;> rw [request]
  exact if_pos surveying

/-- A rebuild is carried out where it is due and no survey defers it (R42, R54). -/
theorem State.serveRebuild_rebuilds (v : State) (running : v.running = true)
    (due : v.rebuild = .forced ∨ (v.rebuild = .requested ∧ v.surveying = false)) :
    v.serveRebuild = v.rebuildRoutes := by
  unfold State.serveRebuild
  rcases due with request | ⟨request, idle⟩ <;> rw [request]
  · exact if_pos running
  · exact (if_neg (by rw [idle]; exact Bool.false_ne_true)).trans (if_pos running)

/-- The pairs and lifecycles of a list. -/
def State.listed (s : State) : List (Pair × Lifecycle) := s.routes.map (fun e => (e.pair, e.lifecycle))

theorem State.compose_listed (s : State) : s.compose.listed = s.listed := by
  refine (List.map_map ..).trans (List.map_congr_left (fun e _ => ?_))
  rw [Function.comp_apply, (s.composeEntry_pair e).1, (s.composeEntry_pair e).2]

/-- A settling without a rebuild keeps the list. -/
theorem listKept_of_waits {s u : State} (admitted : u.admitted = s.admitted) (unserved : u.unserved = s.unserved)
    (listed : u.listed = s.listed) (full : u.noticed .routeFull = s.noticed .routeFull)
    (waits : u.counted.serveRebuild = u.counted) : listKept s u.settle := by
  obtain ⟨routes, sameAdmitted, sameUnserved, _, port, _⟩ := u.counted_members
  have kept : u.settle = u.counted.compose.refreshHold := by rw [u.settle_eq, waits]
  rw [kept]
  refine ⟨sameAdmitted.trans admitted, sameUnserved.trans unserved, ?_, ?_⟩
  · exact (State.noticed_congr (s := u) port .routeFull).trans full
  · have same : u.counted.listed = u.listed := by
      unfold State.listed
      rw [routes]
    exact (u.counted.compose_listed.trans same).trans listed

theorem wanting_congr {s u : State} (listed : u.listed = s.listed) (p : Pair) :
    u.routes.all (fun e => e.pair != p) = s.routes.all (fun e => e.pair != p) := by
  have pairs : ∀ v : State, v.routes.all (fun e => e.pair != p) = v.listed.all (fun x => x.1 != p) := by
    intro v
    simp only [State.listed, List.all_map]
    rfl
  rw [pairs, pairs, listed]

/-- An entry of the one list has its fellow in the other. -/
theorem mem_of_listed {s u : State} (listed : u.listed = s.listed) {e : Entry} (he : e ∈ s.routes) :
    ∃ f ∈ u.routes, f.pair = e.pair ∧ f.lifecycle = e.lifecycle := by
  have member : (e.pair, e.lifecycle) ∈ u.listed := by
    rw [listed]
    exact List.mem_map.2 ⟨e, he, rfl⟩
  obtain ⟨f, hf, same⟩ := List.mem_map.1 member
  simp only [Prod.mk.injEq] at same
  exact ⟨f, hf, same.1, same.2⟩

theorem State.mem_compose (s : State) (e : Entry) : e ∈ s.compose.routes ↔ ∃ f ∈ s.routes, e = s.composeEntry f := by
  simp only [State.compose, State.mapRoutes, State.withRoutes, List.mem_map]
  exact ⟨fun ⟨f, hf, h⟩ => ⟨f, hf, h.symm⟩, fun ⟨f, hf, h⟩ => ⟨f, hf, h.symm⟩⟩

/-- A new entry, composed, enters silent at its target (R44). -/
theorem entersSilent_compose {v w t : State} (plan : v.samePlan t) (p : Pair) :
    (w.composeEntry (v.newEntry p)).pair = p ∧ entersSilent t (w.composeEntry (v.newEntry p)) := by
  obtain ⟨gain, limited, ducked, composed⟩ := w.composeEntry_rest (v.newEntry p)
  rw [composed]
  have target := (plan.targetDelayOf p).symm
  exact ⟨rfl, rfl, rfl, rfl, congrArg TargetDelay.delay target, rfl, congrArg TargetDelay.floorFlag target,
    congrArg TargetDelay.ceilFlag target⟩

theorem entryStands.pair {e e' : Entry} (h : entryStands e e') : e'.pair = e.pair := by
  rw [h]

/-- The list after a rebuild and the compositions, entry by entry (R43, R44). -/
theorem State.mem_rebuilt_compose (v : State) (e' : Entry) :
    e' ∈ v.rebuildRoutes.compose.routes
      ↔ (∃ f ∈ v.routes, e' = v.rebuildRoutes.composeEntry (f.rebuilt (v.admittedNow.contains f.pair)))
        ∨ ∃ p ∈ v.wanting.take (160 - v.routes.length), e' = v.rebuildRoutes.composeEntry (v.newEntry p) := by
  obtain ⟨_, _, _, members⟩ := v.rebuildRoutes_lists
  rw [State.mem_compose]
  constructor
  · rintro ⟨g, hg, rfl⟩
    rcases (members g).1 hg with ⟨f, hf, rfl⟩ | ⟨p, hp, rfl⟩
    · exact .inl ⟨f, hf, rfl⟩
    · exact .inr ⟨p, hp, rfl⟩
  · rintro (⟨f, hf, rfl⟩ | ⟨p, hp, rfl⟩)
    · exact ⟨_, (members _).2 (.inl ⟨f, hf, rfl⟩), rfl⟩
    · exact ⟨_, (members _).2 (.inr ⟨p, hp, rfl⟩), rfl⟩

theorem State.rebuilt_stands (w : State) (f : Entry) (admitted : Bool) :
    entryStands f (w.composeEntry (f.rebuilt admitted)) :=
  entryStands_trans (f.rebuilt_rest admitted) (w.composeEntry_stands _)

theorem State.rebuilt_live (w : State) (f : Entry) (admitted : Bool) :
    (w.composeEntry (f.rebuilt admitted)).lifecycle = .live ↔ admitted = true := by
  rw [(w.composeEntry_pair _).2]
  exact f.rebuilt_live admitted

/-- A settling with a rebuild (R43 to R46). -/
theorem listRebuilt_of_rebuilds {s u : State} (unserved : u.unserved = s.unserved) (listed : u.listed = s.listed)
    (full : u.noticed .routeFull = s.noticed .routeFull)
    (rebuilds : u.counted.serveRebuild = u.counted.rebuildRoutes) : listRebuilt s u.settle := by
  obtain ⟨routes, _, sameUnserved, _, port, _⟩ := u.counted_members
  have settled : u.settle = u.counted.rebuildRoutes.compose.refreshHold := by rw [u.settle_eq, rebuilds]
  have plan : u.counted.samePlan u.settle := u.samePlan_counted.symm.trans u.samePlan_settle
  have sameListed : u.counted.listed = s.listed := by
    rw [← listed]
    unfold State.listed
    rw [routes]
  have length : u.counted.routes.length = s.routes.length := by
    have both := congrArg List.length sameListed
    simpa [State.listed] using both
  obtain ⟨admitted, request, left, _⟩ := u.counted.rebuildRoutes_lists
  have wanting : u.counted.wanting
      = u.counted.admittedNow.filter (fun p => s.routes.all (fun e => e.pair != p)) := by
    unfold State.wanting
    simp only [wanting_congr sameListed]
  have wanted : u.settle.admitted.filter (fun p => s.routes.all (fun e => e.pair != p)) = u.counted.wanting := by
    rw [wanting, ← admitted, settled]
    rfl
  have members : ∀ e', e' ∈ u.settle.routes
      ↔ (∃ f ∈ u.counted.routes, e' = u.counted.rebuildRoutes.composeEntry
          (f.rebuilt (u.counted.admittedNow.contains f.pair)))
        ∨ ∃ p ∈ u.counted.wanting.take (160 - u.counted.routes.length),
            e' = u.counted.rebuildRoutes.composeEntry (u.counted.newEntry p) := by
    intro e'
    rw [settled]
    exact u.counted.mem_rebuilt_compose e'
  have nowAdmitted : u.settle.admitted = u.counted.admittedNow := by
    rw [← admitted, settled]
    rfl
  unfold listRebuilt
  dsimp only
  rw [wanted, ← length]
  refine ⟨nowAdmitted.trans plan.admittedNow.symm, ?_, ?_, fun e he => ?_, fun e' he' => ?_, fun p hp => ?_, ?_⟩
  · rw [settled]
    exact request
  · rw [← left, settled]
    rfl
  · obtain ⟨f, hf, pair, _⟩ := mem_of_listed sameListed he
    refine ⟨_, (members _).2 (.inl ⟨f, hf, rfl⟩), ?_, ?_⟩
    · rw [(State.rebuilt_stands _ f _).pair, pair]
    · rw [State.rebuilt_live, nowAdmitted, ← pair]
      exact List.contains_iff_mem
  · rcases (members e').1 he' with ⟨f, hf, rfl⟩ | ⟨p, hp, rfl⟩
    · obtain ⟨e, he, pair, _⟩ := mem_of_listed sameListed.symm hf
      exact .inl ⟨e, he, by rw [(State.rebuilt_stands _ f _).pair, pair]⟩
    · obtain ⟨pair, enters⟩ := entersSilent_compose (w := u.counted.rebuildRoutes) plan p
      exact .inr ⟨by rw [pair]; exact hp, enters⟩
  · exact ⟨_, (members _).2 (.inr ⟨p, hp, rfl⟩), (entersSilent_compose (w := u.counted.rebuildRoutes) plan p).1⟩
  · have notice : u.settle.noticed .routeFull = u.counted.rebuildRoutes.noticed .routeFull := by
      rw [settled]
      rfl
    have rest : u.settle.unserved = u.counted.rebuildRoutes.unserved := by
      rw [settled]
      rfl
    rw [notice, State.rebuildRoutes_noticed, State.noticed_congr (s := u) port, full, rest, sameUnserved, unserved]
    simp [Bool.or_comm]

/-- The request that a change leaves. -/
def askedRebuild (asks : Bool) (before : RebuildRequest) : RebuildRequest :=
  if asks then (if before = .forced then .forced else .requested) else before

/-- What a change asks of the list: the pairs, lifecycles and lists of the state before it, and the request. -/
structure AsksFrom (s u : State) (asks : Bool) : Prop where
  admitted : u.admitted = s.admitted
  unserved : u.unserved = s.unserved
  listed : u.listed = s.listed
  full : u.noticed .routeFull = s.noticed .routeFull
  request : u.rebuild = askedRebuild asks s.rebuild
  hold : u.hold = s.hold
  running : u.running = true

theorem State.settle_hold (s u : State) (same : u.hold = s.hold) :
    u.settle.hold = if s.hold = .takeNone then .takeNone else if u.settle.survey.phase = .idle then .takeAll
      else .abortOnly := by
  have survey : u.settle.survey = u.counted.serveRebuild.compose.survey := rfl
  have hold : u.counted.serveRebuild.compose.hold = s.hold := by simp [State.counted, same]
  rw [survey, u.settle_eq]
  show holdDecision (u.counted.serveRebuild.compose.hold == .takeNone) _ = _
  rw [hold]
  unfold holdDecision
  simp only [beq_iff_eq]

theorem State.settle_nom (u : State) : u.settle.nom = u.settle.countedGates := by
  rw [State.countedGates_congr u.settle_sources]
  simp [State.settle, State.countNom]

theorem State.settle_targetsComposed (u : State) : targetsComposed u.settle :=
  u.counted.serveRebuild.compose_targetsComposed

theorem State.settle_survey (u : State) : u.settle.survey = u.survey := by simp [State.settle]

theorem asked_deferred {asks : Bool} {before : RebuildRequest} (due : (asks || before != .none) = true)
    (unforced : before ≠ .forced) : askedRebuild asks before = .requested := by
  cases asks <;> cases before <;> simp_all [askedRebuild]

theorem asked_served {asks : Bool} {before : RebuildRequest} {surveying : Bool}
    (due : (asks || before != .none) = true) (served : (surveying && before != .forced) = false) :
    askedRebuild asks before = .forced ∨ (askedRebuild asks before = .requested ∧ surveying = false) := by
  cases asks <;> cases before <;> cases surveying <;> simp_all [askedRebuild]

/-- The rebuild that a change asks for, or that was asked for before it, is served or deferred (R42, R50, R54). -/
theorem settledFrom_settle {s u : State} {asks : Bool} (h : AsksFrom s u asks) : settledFrom s u.settle asks := by
  obtain ⟨_, _, _, request, _, live, survey, _⟩ := u.counted_members
  have running : u.counted.running = true := by
    rw [State.running, live]
    exact h.running
  have surveying : u.settle.surveying = u.counted.surveying := by
    rw [State.surveying, u.settle_survey, State.surveying, survey]
  have kept := listKept_of_waits h.admitted h.unserved h.listed h.full
  have rebuilt := listRebuilt_of_rebuilds h.unserved h.listed h.full
  have left : ∀ waits : u.counted.serveRebuild = u.counted, u.settle.rebuild = u.rebuild := by
    intro waits
    rw [u.settle_eq, waits]
    exact request
  have asked := request.trans h.request
  refine ⟨fun undue => ?_, fun due deferred => ?_, fun due served => ?_, u.settle_nom, u.settle_targetsComposed,
    State.settle_hold s u h.hold⟩
  · simp only [Bool.or_eq_false_iff, bne_eq_false_iff_eq] at undue
    obtain ⟨unasked, none⟩ := undue
    rw [unasked, none] at asked
    have waits := u.counted.serveRebuild_waits (.inl asked)
    exact ⟨kept waits, (left waits).trans (request.symm.trans asked)⟩
  · simp only [Bool.and_eq_true, bne_iff_ne, ne_eq] at deferred
    obtain ⟨runs, unforced⟩ := deferred
    have requested : u.counted.rebuild = .requested := asked.trans (asked_deferred due unforced)
    have waits := u.counted.serveRebuild_waits (.inr ⟨requested, surveying ▸ runs⟩)
    exact ⟨kept waits, (left waits).trans (request.symm.trans requested)⟩
  · refine rebuilt (u.counted.serveRebuild_rebuilds running ?_)
    rw [surveying] at served
    rw [asked]
    exact asked_served due served

/-! ### Entries and sources through a settling -/

theorem entryStands_refl (e : Entry) : entryStands e e := rfl

theorem State.serveRebuild_stands (v : State) (e : Entry) (he : e ∈ v.routes) :
    ∃ e' ∈ v.serveRebuild.routes, entryStands e e' := by
  have rebuilt : ∃ e' ∈ v.rebuildRoutes.routes, entryStands e e' :=
    ⟨_, (v.rebuildRoutes_lists.2.2.2 _).2 (.inl ⟨e, he, rfl⟩), e.rebuilt_rest _⟩
  unfold State.serveRebuild
  (repeat' split) <;> first | exact rebuilt | exact ⟨e, he, entryStands_refl e⟩

/-- A settling leaves every entry its place, its delays and its gain. -/
theorem State.settle_stands (u : State) (e : Entry) (he : e ∈ u.routes) : ∃ e' ∈ u.settle.routes, entryStands e e' := by
  have here : e ∈ u.counted.routes := by rw [u.counted_members.1]; exact he
  obtain ⟨f, hf, stands⟩ := u.counted.serveRebuild_stands e here
  refine ⟨_, (State.mem_compose _ _).2 ⟨f, hf, rfl⟩, entryStands_trans stands (State.composeEntry_stands _ f)⟩

/-- A settling with no rebuild due keeps the list but for the target gains. -/
theorem State.settle_routes_kept (u : State) (none : u.rebuild = .none) :
    u.settle.routes.map (fun e => (e.pair, e.lifecycle, e.motion, e.delay, e.targetDelay, e.gain))
      = u.routes.map (fun e => (e.pair, e.lifecycle, e.motion, e.delay, e.targetDelay, e.gain)) := by
  obtain ⟨routes, _, _, request, _⟩ := u.counted_members
  have kept : u.settle.routes = u.routes.map u.counted.composeEntry := by
    rw [u.settle_eq, u.counted.serveRebuild_waits (.inl (request.trans none)), ← routes]
    rfl
  rw [kept, List.map_map]
  refine List.map_congr_left (fun e _ => ?_)
  obtain ⟨_, _, _, composed⟩ := u.counted.composeEntry_rest e
  rw [Function.comp_apply, composed]

/-- A source after the settling of a change: LAST released beside a FORCED_OPEN gate (R17). -/
theorem State.source_settle (u : State) (len : u.sources.length = 16) (i : Fin 16) :
    u.settle.source i = if (u.source i).gate = .last ∧ ∃ j, (u.source j).gate = .forcedOpen
      then { u.source i with gate := .closed } else u.source i :=
  (State.source_congr u.settle_sources i).trans (u.source_releaseLast len i)

/-- The gate that a new force mode leaves (R17). -/
def Source.forcedBy (x : Source) (mode : ForceMode) : GateState :=
  if mode = x.mix.force then x.gate else forcedGate mode x.gate

/-- The sources after a cue that has set the mix: each new force mode acts once on its gate, and LAST gives way to
FORCED_OPEN (R17, R168). -/
theorem State.source_followSettle (s u : State) (mix : Fin 16 → SourceMix) (pos : Fin 16 → Position)
    (set : ∀ i, u.source i = { s.source i with mix := mix i, pos := pos i }) (i : Fin 16) :
    (u.followForces s.forceMode).settle.source i = { s.source i with
      mix := mix i, pos := pos i
      gate := if (s.source i).forcedBy (mix i).force = .last
          ∧ ∃ j, (s.source j).forcedBy (mix j).force = .forcedOpen then .closed
        else (s.source i).forcedBy (mix i).force
      holdCount := if (mix i).force = (s.source i).mix.force ∨ (s.source i).forcedBy (mix i).force = .hold
        then (s.source i).holdCount else 0 } := by
  have followed : ∀ j, (u.followForces s.forceMode).source j = { s.source j with
      mix := mix j, pos := pos j, gate := (s.source j).forcedBy (mix j).force
      holdCount := if (mix j).force = (s.source j).mix.force ∨ (s.source j).forcedBy (mix j).force = .hold
        then (s.source j).holdCount else 0 } := by
    intro j
    rw [State.source_followForces, set j, State.forceMode]
    unfold Source.followForce Source.forcedBy
    dsimp only
    by_cases same : (mix j).force = (s.source j).mix.force
    · simp [same]
    · simp [same]
  rw [State.source_settle _ (State.followForces_length _ _)]
  simp only [followed]
  split <;> rfl

/-! ### The outcome of a cue (R170, R174) -/

theorem State.outcome_noticed_call (s : State) (claim : Bool) (code : ResultCode) (detail : Nat) (n : Notice) :
    (s.outcome .call claim code detail).noticed n = (claim && decide (Notice.call = n) || s.noticed n) := by
  unfold State.outcome
  cases claim
  · simp
  · exact (State.raise_noticed _ _ n).trans rfl

theorem State.outcome_noticed_slot (s : State) (k : Fin 32) (claim : Bool) (code : ResultCode) (detail : Nat)
    (n : Notice) : (s.outcome (.slot k) claim code detail).noticed n = (decide (Notice.cue = n) || s.noticed n) :=
  (State.raise_noticed _ _ n).trans rfl

/-- An outcome in a slot: its five words, and no other (R170). -/
theorem State.outcome_slot_words (s : State) (k : Fin 32) (claim : Bool) (code : ResultCode) (detail : Nat)
    (canonical : s.mem.wf) :
    let t := s.outcome (.slot k) claim code detail
    t.word (slotBase k) = (if code.done then slotDone else slotFaulted)
    ∧ t.word (slotBase k + 2) = natWord code.number ∧ t.word (slotBase k + 3) = natWord detail
    ∧ t.word (slotBase k + 4) = blockLow s.block ∧ t.word (slotBase k + 5) = blockHigh s.block
    ∧ ∀ a, a ∉ outcomeAddrs k → t.word a = s.word a := by
  have words := s.outcome_slot_word k claim code detail canonical
  refine ⟨?_, ?_, ?_, ?_, ?_, fun a apart => ?_⟩
  case refine_6 =>
    simp only [outcomeAddrs, List.mem_cons, List.not_mem_nil, or_false, not_or] at apart
    obtain ⟨state, code, detail, low, high⟩ := apart
    rw [words, if_neg code, if_neg detail, if_neg low, if_neg high, if_neg state]
  all_goals
    rw [words]
    simp

/-- The origin that an outcome goes to leaves the other's port field: a slot's outcome leaves CALL's result. -/
theorem State.outcome_slot_callResult (s : State) (k : Fin 32) (claim : Bool) (code : ResultCode) (detail : Nat) :
    (s.outcome (.slot k) claim code detail).port.callResult = s.port.callResult := rfl

/-- A cue's outcome stands where the rules put it (R170, R174). -/
theorem State.outcome_shown (s : State) (item : CueItem) (code : ResultCode) (detail : Nat) (canonical : s.mem.wf) :
    outcomeShown s (s.outcome item.origin item.claim code detail) item code detail [] := by
  unfold outcomeShown
  cases item.origin with
  | slot k =>
    obtain ⟨state, number, words, low, high, rest⟩ := s.outcome_slot_words k item.claim code detail canonical
    refine ⟨state, number, words, low, high, rest, ?_, fun n apart => ?_, rfl⟩
    · rw [State.outcome_noticed_slot]
      simp
    · rw [State.outcome_noticed_slot]
      simp only [List.mem_singleton] at apart
      simp [Ne.symm apart]
  | call =>
    refine ⟨s.outcome_call_mem item.claim code detail, ?_⟩
    cases claim : item.claim with
    | true =>
      refine ⟨rfl, ?_, fun n apart => ?_⟩
      · rw [State.outcome_noticed_call]
        simp
      · rw [State.outcome_noticed_call]
        simp only [List.mem_singleton] at apart
        simp [Ne.symm apart]
    | false => exact ⟨rfl, fun n _ => rfl⟩

/-- An outcome as it still stands after works that keep the memory, the block number and CALL's result. -/
theorem outcomeShown_after {s s' t t' : State} {item : CueItem} {code : ResultCode} {detail : Nat} {others : List Notice}
    (mem : s'.mem = s.mem) (port : s'.port = s.port) (mem' : t'.mem = t.mem) (block : t'.block = t.block)
    (call : t'.port.callResult = t.port.callResult) (notices : noticesElse t t' others)
    (apart : Notice.cue ∉ others ∧ Notice.call ∉ others)
    (h : outcomeShown s' t item code detail []) : outcomeShown s t' item code detail others := by
  have word : ∀ a, t'.word a = t.word a := fun a => by rw [State.word, mem', State.word]
  have word0 : ∀ a, s'.word a = s.word a := fun a => by rw [State.word, mem, State.word]
  have noticed0 : ∀ n, s'.noticed n = s.noticed n := State.noticed_congr port
  have kept : ∀ first, noticesElse s' t [first] → noticesElse s t' (first :: others) := by
    intro first same n away
    simp only [List.mem_cons, not_or] at away
    rw [notices n away.2, same n (by simpa using away.1), noticed0]
  unfold outcomeShown at h ⊢
  cases origin : item.origin with
  | slot k =>
    rw [origin] at h
    obtain ⟨state, number, words, low, high, rest, raised, same, result⟩ := h
    simp only [word, block, call, ← word0, ← port]
    exact ⟨state, number, words, low, high, rest, (notices _ apart.1).trans raised, kept _ same, result⟩
  | call =>
    rw [origin] at h
    obtain ⟨memory, rest⟩ := h
    refine ⟨(mem'.trans memory).trans mem, ?_⟩
    rw [call, ← port]
    split at rest
    · rename_i claim
      obtain ⟨result, raised, same⟩ := rest
      rw [if_pos claim]
      exact ⟨result, (notices _ apart.2).trans raised, kept _ same⟩
    · rename_i claim
      obtain ⟨result, same⟩ := rest
      rw [if_neg claim]
      refine ⟨result, fun n away => ?_⟩
      rw [notices n away, same n (by simp), noticed0]

/-- A cue's outcome stands through the settling of its change, which raises ROUTE_FULL alone. -/
theorem outcomeShown_settle {s s' t u : State} {item : CueItem} {code : ResultCode} {detail : Nat}
    (mem : s'.mem = s.mem) (port : s'.port = s.port) (mem' : u.mem = t.mem) (port' : u.port = t.port)
    (block : u.block = t.block) (h : outcomeShown s' t item code detail []) :
    outcomeShown s u.settle item code detail [.routeFull] := by
  obtain ⟨_, _, _, _, _, _, _, _, settled⟩ := u.settlesTo_settle
  refine outcomeShown_after mem port ?_ ?_ ?_ (fun n away => ?_) (by decide) h
  · rw [settled]
    exact mem'
  · rw [settled]
    exact block
  · rw [settled]
    show u.port.callResult = t.port.callResult
    rw [port']
  · rw [u.settle_noticed n (by simpa using away)]
    exact State.noticed_congr port' n

end Sys2Proof.Machine
end

section
/-! SCENE_POP sent alone (O31), and what every cue that sets the mix leaves. -/

namespace Sys2Proof.Machine

/-! ### What a cue that sets the mix can change -/

/-- `t` is `s` but for the mix, the scenes, NOM, the lists, the request for a rebuild, the hold decision, the memory, the
notices and CALL's result. -/
def State.cueSets (s t : State) : Prop :=
  ∃ sources zones scenes nom routes unserved admitted rebuild hold mem notice callResult,
    t = { s with sources := sources, zones := zones, scenes := scenes, nom := nom, routes := routes,
                 unserved := unserved, admitted := admitted, rebuild := rebuild, hold := hold, mem := mem,
                 port := { s.port with notice := notice, callResult := callResult } }

theorem State.cueSets_trans {s t u : State} (h : s.cueSets t) (k : t.cueSets u) : s.cueSets u := by
  obtain ⟨_, _, _, _, _, _, _, _, _, _, _, _, rfl⟩ := h
  obtain ⟨_, _, _, _, _, _, _, _, _, _, _, _, rfl⟩ := k
  exact ⟨_, _, _, _, _, _, _, _, _, _, _, _, rfl⟩

theorem State.cueSets_of_settlesTo {s t : State} (h : s.settlesTo t) : s.cueSets t := by
  obtain ⟨_, _, _, _, _, _, _, _, rfl⟩ := h
  exact ⟨_, _, _, _, _, _, _, _, _, _, _, _, rfl⟩

theorem State.cueSets_outcome (s : State) (o : Origin) (claim : Bool) (code : ResultCode) (detail : Nat) :
    s.cueSets (s.outcome o claim code detail) := by
  unfold State.outcome
  (repeat' split) <;> exact ⟨_, _, _, _, _, _, _, _, _, _, _, _, rfl⟩

theorem State.cueSets_followForces (s : State) (before : Fin 16 → ForceMode) : s.cueSets (s.followForces before) :=
  ⟨_, _, _, _, _, _, _, _, _, _, _, _, rfl⟩

theorem State.cueSets.portElse {s t : State} (h : s.cueSets t) : portElse s t := by
  obtain ⟨_, _, _, _, _, _, _, _, _, _, _, _, rfl⟩ := h
  rfl

/-- The state after a cue that sets the mix to that of `s'`, with its outcome: each new force mode acts on its gate, and
the change is settled. -/
def State.cueSettled (s s' : State) (item : CueItem) (code : ResultCode) (detail : Nat) : State :=
  ((s'.outcome item.origin item.claim code detail).followForces s.forceMode).settle

theorem State.cueSets_cueSettled {s s' : State} (item : CueItem) (code : ResultCode) (detail : Nat)
    (h : s.cueSets s') : s.cueSets (s.cueSettled s' item code detail) :=
  State.cueSets_trans h (State.cueSets_trans (State.cueSets_outcome ..)
    (State.cueSets_trans (State.cueSets_followForces _ _) (State.cueSets_of_settlesTo (State.settlesTo_settle _))))

theorem outcomeShown_cueSettled {s s' : State} (item : CueItem) (code : ResultCode) (detail : Nat)
    (mem : s'.mem = s.mem) (port : s'.port = s.port) (canonical : s.mem.wf) :
    outcomeShown s (s.cueSettled s' item code detail) item code detail [.routeFull] :=
  outcomeShown_settle mem port rfl rfl rfl (s'.outcome_shown item code detail (by rw [mem]; exact canonical))

theorem State.outcome_routeFull (s : State) (item : CueItem) (code : ResultCode) (detail : Nat) :
    (s.outcome item.origin item.claim code detail).noticed .routeFull = s.noticed .routeFull := by
  cases item.origin with
  | slot k => simp [State.outcome_noticed_slot]
  | call => simp [State.outcome_noticed_call]

theorem asksFrom_cue {s s' : State} (before : Fin 16 → ForceMode) (item : CueItem) (code : ResultCode) (detail : Nat)
    {asks : Bool} (admitted : s'.admitted = s.admitted) (unserved : s'.unserved = s.unserved)
    (listed : s'.listed = s.listed) (port : s'.port = s.port) (request : s'.rebuild = askedRebuild asks s.rebuild)
    (hold : s'.hold = s.hold) (live : s'.live = s.live) (running : s.running = true) :
    AsksFrom s ((s'.outcome item.origin item.claim code detail).followForces before) asks where
  admitted := by simpa using admitted
  unserved := by simpa using unserved
  listed := by simpa [State.listed] using listed
  full := by
    refine Eq.trans ?_ (State.noticed_congr port .routeFull)
    exact (State.noticed_congr (by simp) _).trans (s'.outcome_routeFull item code detail)
  request := by simpa using request
  hold := by simpa using hold
  running := by simpa [State.running, live] using running

theorem State.source_cueSettled (s s' : State) (item : CueItem) (code : ResultCode) (detail : Nat)
    (mix : Fin 16 → SourceMix) (pos : Fin 16 → Position)
    (set : ∀ i, s'.source i = { s.source i with mix := mix i, pos := pos i }) (i : Fin 16) :
    (s.cueSettled s' item code detail).source i = { s.source i with
      mix := mix i, pos := pos i
      gate := if (s.source i).forcedBy (mix i).force = .last
          ∧ ∃ j, (s.source j).forcedBy (mix j).force = .forcedOpen then .closed
        else (s.source i).forcedBy (mix i).force
      holdCount := if (mix i).force = (s.source i).mix.force ∨ (s.source i).forcedBy (mix i).force = .hold
        then (s.source i).holdCount else 0 } :=
  s.source_followSettle _ mix pos (fun j => (State.source_congr (by simp) j).trans (set j)) i

theorem State.cueSettled_zones (s s' : State) (item : CueItem) (code : ResultCode) (detail : Nat) :
    (s.cueSettled s' item code detail).zones = s'.zones ∧ (s.cueSettled s' item code detail).scenes = s'.scenes := by
  obtain ⟨_, _, _, _, _, _, _, _, settled⟩ :=
    State.settlesTo_settle ((s'.outcome item.origin item.claim code detail).followForces s.forceMode)
  unfold State.cueSettled
  rw [settled]
  simp

/-! ### SCENE_POP -/

/-- The state whose mix and stack a SCENE_POP leaves. -/
def State.popped (s : State) (scene : Scene) (rest : List Scene) : State :=
  { s.restoreScene scene with scenes := rest }

theorem State.source_popped (s : State) (scene : Scene) (rest : List Scene) (i : Fin 16) :
    (s.popped scene rest).source i
      = { s.source i with mix := scene.sources.getD i.val (s.source i).mix, pos := (s.source i).pos } :=
  s.source_mapSources (fun i x => { x with mix := scene.sources.getD i.val x.mix }) i

theorem State.zone_popped (s : State) (scene : Scene) (rest : List Scene) (z : Fin 24) :
    (s.popped scene rest).zone z = { s.zone z with mix := scene.zones.getD z.val (s.zone z).mix } :=
  State.zone_mapZones _ (fun z x => { x with mix := scene.zones.getD z.val x.mix }) z

theorem execScenePop_of {s : State} {item : CueItem} {body : List Word} {scene : Scene} {rest : List Scene}
    (running : s.running = true) (read : item.body = some body) (stack : s.scenes = scene :: rest) :
    exec (.scenePop item) s = .next (s.cueSettled (s.popped scene rest) item .ok 0) := by
  have passed : s.scenePopFault item = none :=
    (checkedBody_none _ _).2 ⟨body, read, by simp [running, stack]⟩
  have carried : s.carryScenePop item = (s.popped scene rest).outcome item.origin item.claim .ok 0 := by
    unfold State.carryScenePop
    rw [stack]
    rfl
  show execScenePop item s = _
  unfold execScenePop
  rw [passed, carried]
  rfl

/-- Settles O31: the scene restored, the force modes it changes, and the settling of the change. -/
theorem scenePopRestoresMix : Obligations.ScenePopRestoresMix := by
  intro item body scene rest s canonical running read stack _ _
  have sets : s.cueSets (s.popped scene rest) := ⟨_, _, _, _, _, _, _, _, _, _, _, _, rfl⟩
  have change := State.cueSets_cueSettled item .ok 0 sets
  obtain ⟨zones, scenes⟩ := s.cueSettled_zones (s.popped scene rest) item .ok 0
  have asks := asksFrom_cue (s := s) (s' := s.popped scene rest) (asks := false) s.forceMode item .ok 0
    rfl rfl rfl rfl rfl rfl rfl running
  refine ⟨_, execScenePop_of running read stack, scenes, fun i => ?_, fun z m held => ?_,
    State.settle_nom _, outcomeShown_cueSettled item .ok 0 rfl rfl canonical,
    settledFrom_settle asks, fun unasked => ?_, fun e he => ?_, change.portElse, ?_⟩
  · exact s.source_cueSettled _ item .ok 0 _ _ (s.source_popped scene rest) i
  · rw [State.zone_congr zones, s.zone_popped, List.getD_eq_getElem?_getD, held]
    rfl
  · refine (State.settle_routes_kept _ ?_).trans ?_
    · rw [asks.request]
      exact unasked
    · simp [State.popped]
  · refine State.settle_stands _ e ?_
    simpa [State.popped] using he
  · obtain ⟨_, _, _, _, _, _, _, _, _, _, _, _, settled⟩ := change
    rw [settled]

end Sys2Proof.Machine
end

section
/-! The tables of R168 and R169, and SOURCE_SET and SCENE_PUSH sent alone (O28, O30). -/

namespace Sys2Proof.Machine

/-! ### The tables of R168 and R169 -/

/-- A number as written is taken to 7 at most, a clamp above it (R168, R169). -/
theorem min_seven_taken (w : Word) : numberTaken w (min 7 w.toNat) (above w 7).toNat := by
  refine ⟨fun small => ⟨Nat.min_eq_right small, ?_⟩, fun large => ⟨Nat.min_eq_left (by omega), ?_⟩⟩
  · have within : above w 7 = false := decide_eq_false (by omega)
    rw [within]
    rfl
  · have beyond : above w 7 = true := decide_eq_true large
    rw [beyond]
    rfl

theorem wordFlag_iff (w : Word) : wordFlag w = true ↔ w ≠ 0 := by simp [wordFlag]

/-- The source fields of a body, field by field (R168). -/
theorem sourceTakes_applySourceFields (body : List Word) (m : SourceMix) (p : Position) :
    sourceTakes body m (applySourceFields body m) p (applyPosition body p) (sourceClamps body) := by
  unfold sourceTakes sourceClamps applySourceFields applyPosition
  refine ⟨_, _, _, _, rfl, fun h => ?_, fun h => ?_, fun h => ?_, fun h => ?_, fun h => ?_, fun h => ?_, fun h => ?_,
    fun h => ?_, fun h => ?_, fun h => ?_, fun h => ?_, fun h => ?_, fun h => ?_, fun h => ?_⟩
  case refine_2 =>
    change present body 0 = true at h
    rw [h]
    exact gainOfWord_taken _
  case refine_4 | refine_12 =>
    rw [show present body _ = true from h]
    exact wordFlag_iff _
  case refine_6 =>
    rw [show present body 2 = true from h]
    refine ⟨fun code => ?_, fun code => ?_, fun code => ?_⟩ <;> rw [show bodyWord body 11 = _ from code] <;> rfl
  case refine_8 | refine_10 =>
    rw [show present body _ = true from h]
    exact min_seven_taken _
  case refine_14 =>
    change present body 6 = true at h
    rw [h]
    refine ⟨rfl, ?_⟩
    simp only [Bool.true_and, above, ← Bool.decide_or]
    exact Bool.cond_decide ..
  all_goals
    simp [show present body _ = false from h]

/-- The zone fields of a body, field by field (R169). -/
theorem zoneTakes_applyZoneFields (body : List Word) (m : ZoneMix) :
    zoneTakes body m (applyZoneFields body m) (zoneClamps body) := by
  unfold zoneTakes zoneClamps applyZoneFields
  refine ⟨_, _, rfl, fun h => ?_, fun h => ?_, fun h => ?_, fun h => ?_, fun h => ?_, fun h => ?_, fun h => ?_,
    fun h => ?_⟩
  case refine_2 =>
    change present body 7 = true at h
    rw [h]
    exact gainOfWord_taken _
  case refine_4 =>
    rw [show present body 8 = true from h]
    exact wordFlag_iff _
  case refine_6 =>
    rw [show present body 9 = true from h]
    refine ⟨fun code => ?_, fun code => ?_, fun code => ?_, fun code => ?_⟩ <;>
      rw [show bodyWord body 19 = _ from code] <;> rfl
  case refine_8 =>
    rw [show present body 10 = true from h]
    exact min_seven_taken _
  all_goals
    simp [show present body _ = false from h]

theorem sourceFields_byTable : sourceFieldsByTable :=
  ⟨fun _ _ => ⟨rfl, rfl⟩, sourceTakes_applySourceFields, fun _ _ => rfl⟩

theorem zoneFields_byTable : zoneFieldsByTable := ⟨zoneTakes_applyZoneFields, fun _ _ _ => rfl⟩

/-! ### The sources, the entries and the request that a body leaves (R42, R61, R168) -/

/-- The mix of a source that a mask may name, after a body. -/
def State.mixTaken (s : State) (body : List Word) (mask : Word) (i : Fin 16) : SourceMix :=
  if namesSource mask i then applySourceFields body (s.source i).mix else (s.source i).mix

/-- The position of a source that a mask may name, after a body. -/
def State.posTaken (s : State) (body : List Word) (mask : Word) (i : Fin 16) : Position :=
  if namesSource mask i then applyPosition body (s.source i).pos else (s.source i).pos

theorem State.moves_eq (s : State) (body : List Word) (mask : Word) (i : Fin 16) :
    s.moves body mask i = decide (s.posTaken body mask i ≠ (s.source i).pos) := by
  unfold State.moves State.posTaken
  cases namesSource mask i
  · simp
  · simp only [Bool.true_and, if_true, ne_eq, decide_not]
    rfl

/-- An entry whose source has moved has its target computed and placed; any other stays. -/
def State.placed (t : State) (moved : Fin 16 → Bool) (e : Entry) : Entry :=
  if moved e.pair.source then e.placeTarget (t.targetDelayOf e.pair) else e

/-- `t` is `s` after the source part of a body. -/
structure TakesSources (s t : State) (body : List Word) (mask : Word) : Prop where
  sources : ∀ i, t.source i = { s.source i with mix := s.mixTaken body mask i, pos := s.posTaken body mask i }
  routes : t.routes = s.routes.map (t.placed (s.moves body mask))
  request : t.rebuild = askedRebuild (allSources.any (s.moves body mask)) s.rebuild

theorem State.takesSources_setSources (s : State) (body : List Word) (mask : Word) :
    TakesSources s (s.setSources body mask) body mask where
  sources i := by
    rw [State.source_congr (s.setSources_sources body mask), State.source_mapSources]
    unfold State.mixTaken State.posTaken
    split <;> rfl
  routes := by
    have target : (s.setSources body mask).targetDelayOf
        = (s.mapSources (fun i x => if namesSource mask i then x.takeBody body else x)).targetDelayOf :=
      funext (State.samePlan_of_sources (by simp) (s.setSources_sources body mask)).targetDelayOf
    unfold State.placed
    rw [target]
    unfold State.setSources
    dsimp only
    split <;> rfl
  request := by
    unfold State.setSources
    dsimp only
    split
    · rename_i moved
      rw [moved]
      simp [askedRebuild]
    · rename_i still
      rw [Bool.not_eq_true] at still
      rw [still]
      simp [askedRebuild]

theorem State.listed_of_takesSources {s t : State} {body : List Word} {mask : Word} (h : TakesSources s t body mask) :
    t.listed = s.listed := by
  unfold State.listed
  rw [h.routes, List.map_map]
  refine List.map_congr_left (fun e _ => ?_)
  unfold State.placed
  rw [Function.comp_apply]
  split <;> rfl

/-- What a moved source's entries keep and what is placed in them (R61, R62); `same` says that the source has not moved,
and `target` is its target delay. -/
def entryPlaced (same : Prop) (target : TargetDelay) (e e' : Entry) : Prop :=
  e'.pair = e.pair ∧ e'.delay = e.delay ∧ e'.gain = e.gain
  ∧ (same → e'.motion = e.motion ∧ e'.targetDelay = e.targetDelay ∧ e'.floorFlag = e.floorFlag
      ∧ e'.ceilFlag = e.ceilFlag)
  ∧ (¬same →
      e'.floorFlag = target.floorFlag ∧ e'.ceilFlag = target.ceilFlag
      ∧ (e.motion.isFading = false → e'.targetDelay = target.delay ∧ e'.motion = e.motion)
      ∧ ∀ destination k n pendingTarget, e.motion = .fading destination k n pendingTarget →
          e'.targetDelay = e.targetDelay
          ∧ e'.motion = .fading destination k n (if target.delay = destination then none else some target.delay))

theorem entryPlaced_of_stands {same : Prop} {target : TargetDelay} {e f g : Entry} (h : entryPlaced same target e f)
    (stands : entryStands f g) : entryPlaced same target e g := by
  unfold entryStands at stands
  unfold entryPlaced
  rw [stands]
  exact h

theorem Entry.placeTarget_placed {same : Prop} (e : Entry) (target : TargetDelay) (moved : ¬same) :
    entryPlaced same target e (e.placeTarget target) := by
  refine ⟨rfl, rfl, rfl, fun still => absurd still moved, fun _ => ⟨rfl, rfl, fun idle => ?_, fun _ _ _ _ fading => ?_⟩⟩
  · unfold Entry.placeTarget
    cases motion : e.motion with
    | fading => rw [motion] at idle; exact nomatch idle
    | _ => exact ⟨rfl, rfl⟩
  · unfold Entry.placeTarget
    rw [fading]
    exact ⟨rfl, rfl⟩

theorem State.placed_entry (s t : State) (body : List Word) (mask : Word) (e : Entry) :
    entryPlaced (s.posTaken body mask e.pair.source = (s.source e.pair.source).pos) (t.targetDelayOf e.pair) e
      (t.placed (s.moves body mask) e) := by
  unfold State.placed
  rw [s.moves_eq]
  by_cases still : s.posTaken body mask e.pair.source = (s.source e.pair.source).pos
  · rw [if_neg (by simpa using still)]
    exact ⟨rfl, rfl, rfl, fun _ => ⟨rfl, rfl, rfl, rfl⟩, fun moved => absurd still moved⟩
  · rw [if_pos (by simpa using still)]
    exact e.placeTarget_placed _ still

/-! ### The settling of a source part -/

/-- The code of a cue that ends DONE with a count of clamps (R170). -/
def clampCode (clamps : Nat) : ResultCode := if clamps = 0 then .ok else .clamped

theorem State.doneClamped_eq (s : State) (item : CueItem) (clamps : Nat) :
    s.doneClamped item clamps = s.outcome item.origin item.claim (clampCode clamps) clamps := by
  unfold State.doneClamped clampCode
  split
  · rename_i none
    rw [none]
  · rfl

section Settled

variable {s s' : State} {body : List Word} {mask : Word} (item : CueItem) (code : ResultCode) (detail : Nat)

theorem State.followSettle_samePlan (u : State) (before : Fin 16 → ForceMode) :
    u.samePlan (u.followForces before).settle := by
  refine State.samePlan.trans ⟨by simp, fun i => ?_⟩ (State.samePlan_settle _)
  rw [State.source_followForces]
  unfold Source.followForce
  split <;> rfl

theorem State.cueSettled_samePlan (s s' : State) : s'.samePlan (s.cueSettled s' item code detail) :=
  State.samePlan.trans (State.samePlan_of_sources (by simp) (by simp)) (State.followSettle_samePlan _ _)

/-- The entries of a cue with a source part, placed or left (R61, R62). -/
theorem TakesSources.entry (h : TakesSources s s' body mask) (e : Entry) (he : e ∈ s.routes) :
    ∃ e' ∈ (s.cueSettled s' item code detail).routes,
      entryPlaced (s.posTaken body mask e.pair.source = (s.source e.pair.source).pos)
        ((s.cueSettled s' item code detail).targetDelayOf e.pair) e e' := by
  have here : s'.placed (s.moves body mask) e ∈ s'.routes := by
    rw [h.routes]
    exact List.mem_map_of_mem he
  obtain ⟨e', he', stands⟩ := State.settle_stands
    ((s'.outcome item.origin item.claim code detail).followForces s.forceMode) (s'.placed (s.moves body mask) e)
    (by simpa using here)
  rw [(s.cueSettled_samePlan item code detail s').targetDelayOf]
  exact ⟨e', he', entryPlaced_of_stands (s.placed_entry s' body mask e) stands⟩

/-- A cue that moves no source leaves every source's place. -/
theorem State.moves_none (still : ∀ i, s.posTaken body mask i = (s.source i).pos) (i : Fin 16) :
    s.moves body mask i = false := by
  rw [s.moves_eq, still]
  simp

/-- A cue that moves no source leaves the list, where no rebuild was asked for. -/
theorem TakesSources.routes_kept (h : TakesSources s s' body mask)
    (still : ∀ i, s.posTaken body mask i = (s.source i).pos) (unasked : s.rebuild = .none) :
    (s.cueSettled s' item code detail).routes.map
        (fun e => (e.pair, e.lifecycle, e.motion, e.delay, e.targetDelay, e.gain))
      = s.routes.map (fun e => (e.pair, e.lifecycle, e.motion, e.delay, e.targetDelay, e.gain)) := by
  have none := State.moves_none still
  have routes : s'.routes = s.routes := by
    rw [h.routes]
    refine (List.map_congr_left (fun e _ => ?_)).trans (List.map_id _)
    exact if_neg (by simp [none])
  have request : s'.rebuild = .none := by
    rw [h.request, unasked]
    simp [none, askedRebuild]
  refine (State.settle_routes_kept _ (by simpa using request)).trans ?_
  rw [← routes]
  simp

end Settled

theorem askedRebuild_moves (s : State) (body : List Word) (mask : Word) :
    allSources.any (s.moves body mask)
      = allSources.any (fun i => decide (s.posTaken body mask i ≠ (s.source i).pos)) := by
  rw [funext (s.moves_eq body mask)]

/-! ### The checks of R106 and R167 -/

theorem badForce_eq_false {body : List Word} (legal : present body 2 = true → (bodyWord body 11).toNat ≤ 2) :
    badForce body = false := by
  unfold badForce
  cases marked : present body 2 with
  | false => rfl
  | true =>
    have code := legal marked
    generalize (bodyWord body 11).toNat = n at code
    interval_cases n <;> rfl

theorem badDuck_eq_false {body : List Word} (legal : present body 9 = true → (bodyWord body 19).toNat ≤ 3) :
    badDuck body = false := by
  unfold badDuck
  cases marked : present body 9 with
  | false => rfl
  | true =>
    have code := legal marked
    generalize (bodyWord body 19).toNat = n at code
    interval_cases n <;> rfl

/-- A source mask that is not zero names a source. -/
theorem namedSources_nonempty {mask : Word} (named : mask ≠ 0) : (namedSources mask).isEmpty = false := by
  obtain ⟨i, hi, set⟩ : ∃ i, i < 16 ∧ mask.getLsbD i = true := by
    by_contra none
    refine named (BitVec.eq_of_getLsbD_eq (fun i hi => ?_))
    have clear : mask.getLsbD i = false := Bool.eq_false_iff.2 (fun set => none ⟨i, hi, set⟩)
    exact clear.trans BitVec.getLsbD_zero.symm
  rw [List.isEmpty_eq_false_iff_exists_mem]
  exact ⟨⟨i, hi⟩, List.mem_filter.2 ⟨by simp [allSources], set⟩⟩

/-- A zone mask names a zone where its first word or the low byte of its second is not zero (R159). -/
theorem namedZones_nonempty {low high : Word} (named : low ≠ 0 ∨ high.toNat % 256 ≠ 0) :
    (namedZones low high).isEmpty = false := by
  rw [List.isEmpty_eq_false_iff_exists_mem]
  rcases named with first | second
  · obtain ⟨i, member⟩ := List.isEmpty_eq_false_iff_exists_mem.1 (namedSources_nonempty first)
    have set : low.getLsbD i.val = true := (List.mem_filter.1 member).2
    refine ⟨⟨i.val, by omega⟩, List.mem_filter.2 ⟨by simp [allZones], ?_⟩⟩
    unfold namesZone
    rw [if_pos i.isLt]
    exact set
  · obtain ⟨i, hi, set⟩ : ∃ i, i < 8 ∧ high.getLsbD i = true := by
      by_contra none
      refine second (Nat.eq_of_testBit_eq (fun i => ?_))
      rw [show (256 : Nat) = 2 ^ 8 from rfl, Nat.testBit_mod_two_pow, Nat.zero_testBit, Bool.and_eq_false_iff]
      by_cases hi : i < 8
      · exact .inr (Bool.eq_false_iff.2 (fun set => none ⟨i, hi, set⟩))
      · exact .inl (decide_eq_false hi)
    refine ⟨⟨16 + i, by omega⟩, List.mem_filter.2 ⟨by simp [allZones], ?_⟩⟩
    unfold namesZone
    rw [if_neg (by simp), Nat.add_sub_cancel_left]
    exact set

/-! ### SOURCE_SET -/

theorem execSourceSet_of {s : State} {item : CueItem} {body : List Word} (running : s.running = true)
    (read : item.body = some body) (legal : present body 2 = true → (bodyWord body 11).toNat ≤ 2)
    (named : bodyWord body 7 ≠ 0) :
    let clamps := (namedSources (bodyWord body 7)).length * sourceClamps body
    exec (.sourceSet item) s
      = .next (s.cueSettled (s.setSources body (bodyWord body 7)) item (clampCode clamps) clamps) := by
  have passed : s.sourceSetFault item = none :=
    (checkedBody_none _ _).2 ⟨body, read, by simp [running, badForce_eq_false legal, namedSources_nonempty named]⟩
  have whole : cueBody item = body := by
    unfold cueBody
    rw [read]
    rfl
  show execSourceSet item s = _
  unfold execSourceSet State.carrySourceSet
  rw [passed, whole]
  dsimp only
  rw [State.doneClamped_eq]
  rfl

theorem State.cueSets_setSources (s : State) (body : List Word) (mask : Word) : s.cueSets (s.setSources body mask) := by
  unfold State.setSources
  dsimp only
  split <;> exact ⟨_, _, _, _, _, _, _, _, _, _, _, _, rfl⟩

/-- A cue that sets the mix and leaves the zones and the stack. -/
theorem State.cueSets.rest_of_zones {s t : State} (h : s.cueSets t) (zones : t.zones = s.zones)
    (scenes : t.scenes = s.scenes) :
    { t with sources := s.sources, nom := s.nom, routes := s.routes, admitted := s.admitted, unserved := s.unserved,
             rebuild := s.rebuild, hold := s.hold, mem := s.mem, port := s.port } = s := by
  obtain ⟨_, _, _, _, _, _, _, _, _, _, _, _, settled⟩ := h
  rw [settled] at zones scenes ⊢
  dsimp only at zones scenes
  rw [zones, scenes]

/-- Settles O28: the named sources take the body, and the settling of the change. -/
theorem sourceSetAppliesFields : Obligations.SourceSetAppliesFields := by
  refine ⟨sourceFields_byTable, fun mode g => ?_, fun item body s canonical running read legal named => ?_⟩
  · cases mode <;> cases g <;> rfl
  · have takes := s.takesSources_setSources body (bodyWord body 7)
    generalize clamped : (namedSources (bodyWord body 7)).length * sourceClamps body = clamps
    have change := State.cueSets_cueSettled item (clampCode clamps) clamps
      (s.cueSets_setSources body (bodyWord body 7))
    obtain ⟨zones, scenes⟩ := s.cueSettled_zones (s.setSources body (bodyWord body 7)) item (clampCode clamps) clamps
    have asks := asksFrom_cue (s := s) (s' := s.setSources body (bodyWord body 7)) s.forceMode item (clampCode clamps)
      clamps (by simp) (by simp) (State.listed_of_takesSources takes) (by simp) takes.request (by simp) (by simp) running
    rw [askedRebuild_moves] at asks
    have ran := execSourceSet_of running read legal named
    dsimp only at ran
    rw [clamped] at ran
    refine ⟨_, ran, s.source_cueSettled _ item _ clamps _ _ takes.sources, State.settle_nom _, ?_,
      settledFrom_settle asks, takes.routes_kept item _ clamps, takes.entry item _ clamps, change.portElse, ?_⟩
    · have shown := outcomeShown_cueSettled (s := s) (s' := s.setSources body (bodyWord body 7)) item
        (clampCode clamps) clamps (by simp) (by simp) canonical
      rw [← clamped] at shown ⊢
      exact shown
    · exact change.rest_of_zones (zones.trans (by simp)) (scenes.trans (by simp))

/-! ### SCENE_PUSH -/

/-- The state that a SCENE_PUSH sets, its scene saved (R107). -/
def State.saved (s : State) : State := { s with scenes := s.currentScene :: s.scenes }

theorem State.pushScene_eq (s : State) (body : List Word) :
    s.pushScene body = (s.saved.setSources body (bodyWord body 21)).setZones body (bodyWord body 7) (bodyWord body 8) :=
  rfl

theorem State.takesSources_pushScene (s : State) (body : List Word) :
    TakesSources s (s.pushScene body) body (bodyWord body 21) := by
  obtain ⟨sources, routes, request⟩ := s.saved.takesSources_setSources body (bodyWord body 21)
  rw [s.pushScene_eq]
  refine ⟨fun i => (State.source_congr (by simp) i).trans (sources i), ?_, ?_⟩
  · have target := (State.samePlan_of_sources (s := s.saved.setSources body (bodyWord body 21))
      (t := (s.saved.setSources body (bodyWord body 21)).setZones body (bodyWord body 7) (bodyWord body 8))
      (by simp) (by simp)).targetDelayOf
    unfold State.placed at routes ⊢
    rw [funext target]
    refine Eq.trans ?_ routes
    simp
  · refine Eq.trans ?_ request
    simp

theorem State.zone_pushScene (s : State) (body : List Word) (z : Fin 24) :
    (s.pushScene body).zone z = { s.zone z with
      mix := if namesZone (bodyWord body 7) (bodyWord body 8) z then applyZoneFields body (s.zone z).mix
        else (s.zone z).mix } := by
  have before : (s.saved.setSources body (bodyWord body 21)).zone z = s.zone z := State.zone_congr (by simp [State.saved]) z
  rw [s.pushScene_eq]
  unfold State.setZones
  rw [State.zone_mapZones, before]
  split <;> rfl

theorem State.cueSets_pushScene (s : State) (body : List Word) : s.cueSets (s.pushScene body) := by
  have save : s.cueSets s.saved := ⟨_, _, _, _, _, _, _, _, _, _, _, _, rfl⟩
  exact State.cueSets_trans save (State.cueSets_trans (s.saved.cueSets_setSources body _)
    ⟨_, _, _, _, _, _, _, _, _, _, _, _, rfl⟩)

/-- The parts of a body that passes the checks of a SCENE_PUSH name members (R106). -/
theorem pushTargetsFail_eq_false {body : List Word}
    (sources : (∃ b, b < 7 ∧ present body b = true) → bodyWord body 21 ≠ 0)
    (zones : (∃ b, 7 ≤ b ∧ b ≤ 10 ∧ present body b = true) →
      bodyWord body 7 ≠ 0 ∨ (bodyWord body 8).toNat % 256 ≠ 0) : pushTargetsFail body = false := by
  have sourcesNamed : sourcePartPresent body = true → (namedSources (bodyWord body 21)).isEmpty = false := by
    intro part
    obtain ⟨b, small, marked⟩ := List.any_eq_true.1 part
    exact namedSources_nonempty (sources ⟨b, List.mem_range.1 small, marked⟩)
  have zonesNamed : zonePartPresent body = true →
      (namedZones (bodyWord body 7) (bodyWord body 8)).isEmpty = false := by
    intro part
    obtain ⟨b, bit, marked⟩ := List.any_eq_true.1 part
    refine namedZones_nonempty (zones ⟨b, ?_, ?_, marked⟩) <;> simp only [List.mem_cons, List.not_mem_nil, or_false] at bit <;> omega
  unfold pushTargetsFail pushSourceMask
  refine Bool.or_eq_false_iff.2 ⟨?_, ?_⟩
  · cases part : sourcePartPresent body with
    | false => rfl
    | true => exact sourcesNamed part
  · cases part : zonePartPresent body with
    | false => rfl
    | true => exact zonesNamed part

theorem execScenePush_of {s : State} {item : CueItem} {body : List Word} (running : s.running = true)
    (read : item.body = some body) (legal : present body 2 = true → (bodyWord body 11).toNat ≤ 2)
    (legalDuck : present body 9 = true → (bodyWord body 19).toNat ≤ 3) (targets : pushTargetsFail body = false)
    (room : s.scenes.length < 4) :
    exec (.scenePush item) s
      = .next (s.cueSettled (s.pushScene body) item (clampCode (pushClamps body)) (pushClamps body)) := by
  have fields : badFieldOffset body = none := by
    unfold badFieldOffset
    rw [badForce_eq_false legal, badDuck_eq_false legalDuck]
    rfl
  have passed : s.scenePushFault item = none :=
    (checkedBody_none _ _).2 ⟨body, read, by simp [running, fields, targets, room]⟩
  have whole : cueBody item = body := by
    unfold cueBody
    rw [read]
    rfl
  show execScenePush item s = _
  unfold execScenePush State.carryScenePush
  rw [passed, whole]
  dsimp only
  rw [State.doneClamped_eq]
  rfl

/-- What a SCENE_PUSH leaves. -/
theorem State.pushScene_members (s : State) (body : List Word) :
    (s.pushScene body).admitted = s.admitted ∧ (s.pushScene body).unserved = s.unserved
    ∧ (s.pushScene body).port = s.port ∧ (s.pushScene body).mem = s.mem ∧ (s.pushScene body).hold = s.hold
    ∧ (s.pushScene body).live = s.live ∧ (s.pushScene body).scenes = s.currentScene :: s.scenes := by
  rw [s.pushScene_eq]
  simp [State.saved]

/-- A cue that sets the mix and saves a scene. -/
theorem State.cueSets.rest {s t : State} (h : s.cueSets t) :
    { t with scenes := s.scenes, zones := s.zones, sources := s.sources, nom := s.nom, routes := s.routes,
             admitted := s.admitted, unserved := s.unserved, rebuild := s.rebuild, hold := s.hold, mem := s.mem,
             port := s.port } = s := by
  obtain ⟨_, _, _, _, _, _, _, _, _, _, _, _, settled⟩ := h
  rw [settled]

/-- Settles O30: the mix saved, the parts set, and the settling of the change. -/
theorem scenePushSavesThenSets : Obligations.ScenePushSavesThenSets := by
  refine ⟨sourceFields_byTable, zoneFields_byTable,
    fun item body s canonical running read legal legalDuck sources zones room => ?_⟩
  have takes := s.takesSources_pushScene body
  obtain ⟨admitted, unserved, port, mem, hold, live, saved⟩ := s.pushScene_members body
  have clamped : (allSources.filter (fun i => namesSource (bodyWord body 21) i)).length * sourceClamps body
      + (allZones.filter (fun z => namesZone (bodyWord body 7) (bodyWord body 8) z)).length * zoneClamps body
      = pushClamps body := rfl
  have ran := execScenePush_of running read legal legalDuck (pushTargetsFail_eq_false sources zones) room
  dsimp only
  rw [clamped]
  generalize pushClamps body = clamps at ran ⊢
  have change := State.cueSets_cueSettled item (clampCode clamps) clamps (s.cueSets_pushScene body)
  obtain ⟨zonesLeft, scenesLeft⟩ := s.cueSettled_zones (s.pushScene body) item (clampCode clamps) clamps
  have asks := asksFrom_cue s.forceMode item (clampCode clamps) clamps admitted unserved
    (State.listed_of_takesSources takes) port takes.request hold live running
  rw [askedRebuild_moves] at asks
  refine ⟨_, ran, scenesLeft.trans saved, s.source_cueSettled _ item _ clamps _ _ takes.sources,
    settledFrom_settle asks, ⟨takes.routes_kept item _ clamps, takes.entry item _ clamps⟩, fun z => ?_,
    State.settle_nom _, ?_, change.portElse, change.rest⟩
  · rw [State.zone_congr zonesLeft]
    exact s.zone_pushScene body z
  · exact outcomeShown_cueSettled item (clampCode clamps) clamps mem port canonical

end Sys2Proof.Machine
end

section
/-! SWITCH_OVER sent alone (O40). -/

namespace Sys2Proof.Machine

/-! ### What a command of the engine can change -/

/-- `t` is `s` but for the units, the lists, the stack, the survey, the banks, the marks, the memory, the notices,
CALL's result and the reset's request. -/
def State.engineSets (s t : State) : Prop :=
  ∃ sources zones nom routes unserved admitted rebuild scenes survey live adoption hold marks mem notice callResult
      resetRequest,
    t = { s with sources := sources, zones := zones, nom := nom, routes := routes, unserved := unserved,
                 admitted := admitted, rebuild := rebuild, scenes := scenes, survey := survey, live := live,
                 adoption := adoption, hold := hold, marks := marks, mem := mem,
                 port := { s.port with notice := notice, callResult := callResult, resetRequest := resetRequest } }

theorem State.engineSets_trans {s t u : State} (h : s.engineSets t) (k : t.engineSets u) : s.engineSets u := by
  obtain ⟨_, _, _, _, _, _, _, _, _, _, _, _, _, _, _, _, _, rfl⟩ := h
  obtain ⟨_, _, _, _, _, _, _, _, _, _, _, _, _, _, _, _, _, rfl⟩ := k
  exact ⟨_, _, _, _, _, _, _, _, _, _, _, _, _, _, _, _, _, rfl⟩

theorem State.cueSets.engineSets {s t : State} (h : s.cueSets t) : s.engineSets t := by
  obtain ⟨_, _, _, _, _, _, _, _, _, _, _, _, rfl⟩ := h
  exact ⟨_, _, _, _, _, _, _, _, _, _, _, _, _, _, _, _, _, rfl⟩

theorem State.engineSets_raise (s : State) (n : Notice) : s.engineSets (s.raise n) :=
  ⟨_, _, _, _, _, _, _, _, _, _, _, _, _, _, _, _, _, rfl⟩

/-! ### The outcome of an adoption (R170, R174) -/

/-- An outcome leaves every word but those of its own slot. -/
theorem State.outcome_word_away (s : State) (o : Origin) (claim : Bool) (code : ResultCode) (detail : Nat)
    (canonical : s.mem.wf) (w : Nat) (away : ∀ k, o = .slot k → w ∉ outcomeAddrs k) :
    (s.outcome o claim code detail).word w = s.word w := by
  cases o with
  | slot k =>
    obtain ⟨_, _, _, _, _, rest⟩ := s.outcome_slot_words k claim code detail canonical
    exact rest w (away k rfl)
  | call =>
    rw [State.word, State.outcome_call_mem]
    rfl

/-- No outcome is written into a bank. -/
theorem outcomeAddrs_below (k : Fin 32) {w : Nat} (high : 0x440 ≤ w) : w ∉ outcomeAddrs k := by
  have range := slotBase_range k
  simp only [outcomeAddrs, List.mem_cons, List.not_mem_nil, or_false]
  omega

/-! ### The headers of a switch-over (R140) -/

theorem bankBase_ne {b c : BankId} (apart : b ≠ c) : bankBase b ≠ bankBase c := by
  intro same
  cases b <;> cases c <;> simp_all [bankBase]

theorem bankBase_range (b : BankId) : 0x800 ≤ bankBase b ∧ bankBase b + 4 < Config.memoryWords := by
  cases b <;> decide

/-- The last of several writes is read back. -/
theorem Memory.read_writeAll_last (m : Memory) (cells : List (Nat × Word)) (c : Nat × Word) (w : Nat) (canonical : m.wf)
    (inside : c.1 < Config.memoryWords) :
    (m.writeAll (cells ++ [c])).read w = if w = c.1 then c.2 else (m.writeAll cells).read w := by
  rw [Memory.writeAll_append]
  exact Memory.read_write _ _ _ _ (Memory.writeAll_wf _ _ canonical) inside

/-- What every word reads after a bank's header. -/
theorem bankHeader_word (m : Memory) (bank : BankId) (count first : Nat) (reason : RejectReason) (addr w : Nat)
    (canonical : m.wf) :
    (m.writeAll (bankHeader bank count first reason addr)).read w =
      if w = bankBase bank + 1 then natWord count else if w = bankBase bank + 2 then natWord first
      else if w = bankBase bank + 3 then natWord reason.code else if w = bankBase bank + 4 then natWord addr
      else m.read w := by
  obtain ⟨_, inside⟩ := bankBase_range bank
  unfold bankHeader
  rw [Memory.read_writeAll_cons _ _ _ _ canonical, Memory.read_writeAll_cons _ _ _ _ canonical,
    Memory.read_writeAll_cons _ _ _ _ canonical, Memory.read_writeAll_cons _ _ _ _ canonical]
  · rfl
  all_goals first
    | (dsimp only; omega)
    | simp

/-- What every word reads after the headers of a switch-over. -/
theorem State.switchCells_word (s : State) (a : Adoption) (canonical : s.mem.wf) (w : Nat) :
    (s.storeAll (switchCells a s.liveBank)).word w =
      if w = bankBase a.bank then 2 else if s.liveBank.map bankBase = some w then 0
      else if w = bankBase a.bank + 1 then natWord a.clampCount
      else if w = bankBase a.bank + 2 then natWord a.firstClamp else if w = bankBase a.bank + 3 then 0
      else if w = bankBase a.bank + 4 then 0 else s.word w := by
  obtain ⟨_, inside⟩ := bankBase_range a.bank
  show (s.mem.writeAll (switchCells a s.liveBank)).read w = _
  unfold switchCells
  rw [Memory.read_writeAll_last _ _ _ _ canonical (by dsimp only; omega)]
  cases s.liveBank with
  | none =>
    rw [List.append_nil, bankHeader_word _ _ _ _ _ _ _ canonical]
    rfl
  | some old =>
    obtain ⟨_, oldInside⟩ := bankBase_range old
    rw [Memory.read_writeAll_last _ _ _ _ canonical (by dsimp only; omega), bankHeader_word _ _ _ _ _ _ _ canonical]
    simp only [Option.map_some, Option.some.injEq, eq_comm (a := w) (b := bankBase old)]
    rfl

/-- The header that a bank reads after its adoption has ended, and what else the memory holds. -/
theorem State.switchCells_header (s : State) (a : Adoption) (canonical : s.mem.wf) :
    let u := s.storeAll (switchCells a s.liveBank)
    u.word (bankBase a.bank) = 2 ∧ u.word (bankBase a.bank + 1) = natWord a.clampCount
    ∧ u.word (bankBase a.bank + 2) = natWord a.firstClamp ∧ u.word (bankBase a.bank + 3) = 0
    ∧ u.word (bankBase a.bank + 4) = 0
    ∧ (∀ old, s.liveBank = some old → old ≠ a.bank → u.word (bankBase old) = 0)
    ∧ (∀ w, (w < bankBase a.bank ∨ bankBase a.bank + 4 < w) → (∀ old, s.liveBank = some old → w ≠ bankBase old) →
        u.word w = s.word w) := by
  have words := s.switchCells_word a canonical
  have unlike : ∀ k, 1 ≤ k → k ≤ 4 → s.liveBank.map bankBase ≠ some (bankBase a.bank + k) := by
    intro k some small same
    obtain ⟨old, _, base⟩ := Option.map_eq_some_iff.1 same
    cases old <;> cases bank : a.bank <;> rw [bank] at base <;> simp only [bankBase] at base <;> omega
  refine ⟨?_, ?_, ?_, ?_, ?_, fun old live other => ?_, fun w away awayOld => ?_⟩
  case refine_6 =>
    rw [words, if_neg (bankBase_ne other), live]
    exact if_pos rfl
  case refine_7 =>
    have awayLive : s.liveBank.map bankBase ≠ some w := by
      intro same
      obtain ⟨old, live, base⟩ := Option.map_eq_some_iff.1 same
      exact awayOld old live base.symm
    rw [words, if_neg (by omega), if_neg awayLive, if_neg (by omega), if_neg (by omega), if_neg (by omega),
      if_neg (by omega)]
  all_goals
    rw [words]
    simp [unlike]

/-! ### The arbiter over gates that stand (R14 to R16) -/

/-- The steps of the gates as they stand (R16). -/
def State.standingSteps (s : State) : List GateStep :=
  allSources.map (fun i => (s.source i).gate.standing (s.source i).holdCount)

/-- A gate and its hold counter after the arbiter under a bank's parameters (R14 to R16). -/
def State.restoodGate (s : State) (b : Bank) (i : Fin 16) : GateState × Nat :=
  settledGate b.globals.lastOn s.standingSteps
    (allSources.map (arbitrated b.globals.maxOpen s.standingSteps s.levelOfSource)) i

theorem State.source_rearbitrate (s : State) (b : Bank) (live : s.adopted = some b) (i : Fin 16) :
    s.rearbitrate.source i = (s.source i).withGate (s.restoodGate b i) := by
  have params : s.evalParams = some (gateParams b) := by rw [State.evalParams, live]; rfl
  unfold State.rearbitrate
  rw [params]
  refine (s.source_placeGates _ i).trans ?_
  rw [settleGates_getD]
  rfl

theorem GateState.standing_unplaced (g : GateState) (count : Nat) :
    g.standing count ≠ .candidate ∧ ∀ k, g.standing count = .settled k → k.unplaced := by
  cases g with
  | hold =>
    simp only [GateState.standing]
    split <;> exact ⟨nofun, nofun⟩
  | _ => exact ⟨nofun, fun k e => by cases e <;> decide⟩

/-- What the arbiter makes of gates that stand settles none in a state that it places (R14). -/
theorem arbitrated_unplaced {own : Fin 16 → GateStep} (unplaced : ∀ j g, own j = .settled g → g.unplaced)
    (maxOpen : Nat) (level : Fin 16 → Int) (i : Fin 16) (g : GateState)
    (h : arbitrated maxOpen (allSources.map own) level i = .settled g) : g.unplaced := by
  rcases arbitrated_cases maxOpen (allSources.map own) level i with e | e | e <;> rw [e] at h
  · rw [stepAt_map] at h
    exact unplaced i g h
  · cases h
  · cases h
    decide

theorem anyOpened_none {own : Fin 16 → GateStep} (none : ∀ j, own j ≠ .candidate) (after : List GateStep) :
    anyOpened (allSources.map own) after = false := by
  unfold anyOpened
  rw [List.any_eq_false]
  intro j _
  rw [stepAt_map]
  simp [none j]

/-- A gate in LAST, or one that leaves HOLD, where no candidate opens (R15). -/
theorem settledGate_unopened {own placed : Fin 16 → GateStep} (none : ∀ j, own j ≠ .candidate)
    (unplaced : ∀ j g, placed j = .settled g → g.unplaced) (lastOn : Bool) (i : Fin 16) :
    let otherOpen := allSources.any (fun j => j ≠ i ∧ ((placed j).held = true ∨ placed j = .settled .forcedOpen))
    let alone := allSources.all (fun j => j = i ∨ placed j ≠ .expiring)
    let settled := settledGate lastOn (allSources.map own) (allSources.map placed) i
    (placed i = .last → settled = (if lastOn && !otherOpen then .last else .closed, 0))
    ∧ (placed i = .expiring → settled = (if lastOn && !otherOpen && alone then .last else .closed, 0)) := by
  intro otherOpen alone settled
  have others := anyOtherOpen_map placed unplaced i
  have opens := anyOpened_none none (allSources.map placed)
  refine ⟨fun last => ?_, fun expires => ?_⟩
  · simp only [settled, settledGate, stepAt_map, last, others, opens]
    change (if (false || otherOpen || !lastOn) = true then _ else _, 0) = _
    cases otherOpen <;> cases lastOn <;> rfl
  · simp only [settled, settledGate, stepAt_map, expires, others, opens]
    have one := expiring_length placed expires
    simp only [stepAt_map] at one
    rw [one]
    change (if (lastOn && alone && !otherOpen && !false) = true then _ else _, 0) = _
    cases otherOpen <;> cases alone <;> cases lastOn <;> rfl

/-! ### The state that a switch-over leaves (R140 to R142) -/

section Switched

variable {s : State} {a : Adoption}

/-- The bank installed, its BANK_ADOPT without an outcome yet. -/
def State.switched (s : State) (a : Adoption) : State :=
  State.lowerHolds { s.storeAll (switchCells a s.liveBank) with
    live := some { bank := a.bank, copy := bankOf a.staging }, adoption := none,
    marks := { s.marks with adoptionEnded := true } } (bankOf a.staging).globals.holdBlocks

theorem State.installBank_eq (s : State) (a : Adoption) :
    s.installBank a = State.raise ((s.switched a).outcome a.origin a.claim (clampCode a.clampCount) a.clampCount) .bank :=
  rfl

theorem State.switched_members (s : State) (a : Adoption) :
    (s.switched a).mem = (s.storeAll (switchCells a s.liveBank)).mem ∧ (s.switched a).port = s.port
    ∧ (s.switched a).block = s.block := by
  simp [State.switched, State.lowerHolds]

theorem State.installBank_members (s : State) (a : Adoption) :
    (s.installBank a).live = some { bank := a.bank, copy := bankOf a.staging } ∧ (s.installBank a).adoption = none
    ∧ (s.installBank a).marks = { s.marks with adoptionEnded := true } ∧ (s.installBank a).zones = s.zones
    ∧ (s.installBank a).routes = s.routes ∧ (s.installBank a).admitted = s.admitted
    ∧ (s.installBank a).unserved = s.unserved ∧ (s.installBank a).rebuild = s.rebuild
    ∧ (s.installBank a).hold = s.hold ∧ (s.installBank a).meter = s.meter ∧ (s.installBank a).scenes = s.scenes
    ∧ (s.installBank a).survey = s.survey := by
  rw [s.installBank_eq]
  simp [State.switched, State.lowerHolds]

/-- A SWITCH_OVER before its settling: the bank installed, the gates arbitrated, the mix reloaded, and the force modes. -/
def State.switchedOver (s : State) (a : Adoption) : State :=
  (s.installBank a).rearbitrate.reloadMix.followForces s.forceMode

theorem execSwitchOver_of (adopting : s.adoption = some a) (whole : a.part = 8) (sound : a.illegal = none) :
    exec .switchOver s = .next (s.switchedOver a).settle := by
  have due : s.switchDue = true := by
    unfold State.switchDue
    rw [adopting]
    simp [whole, sound]
  have installed : s.installDue = s.installBank a := by
    unfold State.installDue
    rw [adopting]
    exact if_pos due
  show execSwitchOver s = _
  unfold execSwitchOver
  rw [if_pos due, installed]
  rfl

/-- The gates of a switch-over after the arbiter (R14 to R16). -/
def State.switchedGate (s : State) (a : Adoption) (i : Fin 16) : GateState × Nat :=
  (s.installBank a).restoodGate (bankOf a.staging) i

/-- A gate of a switch-over after the force mode that the bank brings (R17). -/
def State.switchedForce (s : State) (a : Adoption) (i : Fin 16) : GateState :=
  if ((bankOf a.staging).sourceRow i).mix.force = (s.source i).mix.force then (s.switchedGate a i).1
  else forcedGate ((bankOf a.staging).sourceRow i).mix.force (s.switchedGate a i).1

theorem Source.lowerHold_withGate (x : Source) (n : Nat) (g : GateState × Nat) :
    (x.lowerHold n).withGate g = { x with gate := g.1, holdCount := g.2 } := by
  unfold Source.lowerHold
  split <;> rfl

theorem State.installBank_source (s : State) (a : Adoption) (i : Fin 16) :
    (s.installBank a).source i = (s.source i).lowerHold (bankOf a.staging).globals.holdBlocks :=
  (State.source_congr (s.installBank_sources a) i).trans (s.source_mapSources _ i)

theorem State.installBank_adopted (s : State) (a : Adoption) :
    (s.installBank a).adopted = some (bankOf a.staging) := by
  rw [State.adopted, (s.installBank_members a).1]
  rfl

theorem State.rearbitrated_adopted (s : State) (a : Adoption) :
    (s.installBank a).rearbitrate.adopted = some (bankOf a.staging) := by
  rw [← s.installBank_adopted a]
  simp [State.adopted]

theorem State.rearbitrated_source (s : State) (a : Adoption) (i : Fin 16) :
    (s.installBank a).rearbitrate.source i
      = { s.source i with gate := (s.switchedGate a i).1, holdCount := (s.switchedGate a i).2 } := by
  rw [State.source_rearbitrate _ _ (s.installBank_adopted a), s.installBank_source]
  exact Source.lowerHold_withGate _ _ _

/-- What a reload of the mix leaves (R42, R61, R141). -/
theorem State.reloadMix_parts (s : State) (b : Bank) (live : s.adopted = some b) :
    (∀ i, s.reloadMix.source i = { s.source i with mix := (b.sourceRow i).mix, pos := (b.sourceRow i).pos })
    ∧ (∀ z, s.reloadMix.zone z = { s.zone z with mix := (b.zoneRow z).mix })
    ∧ s.reloadMix.routes = s.routes.map (s.reloadMix.placed (fun _ => true))
    ∧ s.reloadMix.rebuild = askedRebuild true s.rebuild := by
  let u := (s.mapSources (Source.reloaded b)).mapZones (Zone.reloaded b)
  have reloaded : s.reloadMix = (u.retarget (fun _ => true)).requestRebuild := s.reloadMix_live b live
  have target : s.reloadMix.targetDelayOf = u.targetDelayOf := by
    rw [reloaded]
    rfl
  refine ⟨fun i => ?_, fun z => ?_, ?_, ?_⟩
  · rw [reloaded]
    exact s.source_mapSources (Source.reloaded b) i
  · rw [reloaded]
    exact State.zone_mapZones (s.mapSources (Source.reloaded b)) (Zone.reloaded b) z
  · unfold State.placed
    rw [target, reloaded]
    rfl
  · rw [reloaded]
    rfl

theorem State.source_switchedOver (s : State) (a : Adoption) (i : Fin 16) :
    (s.switchedOver a).settle.source i = { s.source i with
      mix := ((bankOf a.staging).sourceRow i).mix, pos := ((bankOf a.staging).sourceRow i).pos
      gate := if s.switchedForce a i = .last ∧ ∃ j, s.switchedForce a j = .forcedOpen then .closed
        else s.switchedForce a i
      holdCount := if s.switchedForce a i = .hold then (s.switchedGate a i).2 else 0 } := by
  have before : s.forceMode = (s.installBank a).rearbitrate.forceMode := by
    funext j
    rw [State.forceMode, State.forceMode, s.rearbitrated_source]
  have forced : ∀ j, ((s.installBank a).rearbitrate.source j).forcedBy ((bankOf a.staging).sourceRow j).mix.force
      = s.switchedForce a j := by
    intro j
    rw [s.rearbitrated_source]
    rfl
  obtain ⟨sources, _⟩ := State.reloadMix_parts _ _ (s.rearbitrated_adopted a)
  have settled := State.source_followSettle (s.installBank a).rearbitrate (s.installBank a).rearbitrate.reloadMix _ _
    sources i
  rw [← before] at settled
  simp only [forced] at settled
  refine settled.trans ?_
  rw [s.rearbitrated_source]
  dsimp only
  congr 1
  by_cases hold : s.switchedForce a i = .hold
  · rw [if_pos (.inr hold), if_pos hold]
  · rw [if_neg hold]
    by_cases same : ((bankOf a.staging).sourceRow i).mix.force = (s.source i).mix.force
    · rw [if_pos (.inl same)]
      refine settledGate_counterRests _ _ _ _ ?_
      unfold State.switchedForce at hold
      rwa [if_pos same] at hold
    · rw [if_neg (by simp [same, hold])]

theorem State.switchedOver_members (s : State) (a : Adoption) :
    (s.switchedOver a).mem = (s.installBank a).mem ∧ (s.switchedOver a).port = (s.installBank a).port
    ∧ (s.switchedOver a).live = some { bank := a.bank, copy := bankOf a.staging } ∧ (s.switchedOver a).adoption = none
    ∧ (s.switchedOver a).marks = { s.marks with adoptionEnded := true } ∧ (s.switchedOver a).survey = s.survey
    ∧ (s.switchedOver a).scenes = s.scenes ∧ (s.switchedOver a).hold = s.hold
    ∧ (s.switchedOver a).admitted = s.admitted ∧ (s.switchedOver a).unserved = s.unserved := by
  obtain ⟨live, adoption, marks, _⟩ := s.installBank_members a
  unfold State.switchedOver
  simp [live, adoption, marks]

theorem State.switchedOver_plan (s : State) (a : Adoption) :
    (s.installBank a).rearbitrate.reloadMix.samePlan (s.switchedOver a) := by
  refine ⟨by simp [State.switchedOver], fun i => ?_⟩
  unfold State.switchedOver
  rw [State.source_followForces]
  unfold Source.followForce
  split <;> rfl

/-- The zones, the entries and the request that a switch-over leaves before its settling (R42, R61, R141). -/
theorem State.switchedOver_lists (s : State) (a : Adoption) :
    (∀ z, (s.switchedOver a).zone z = { s.zone z with mix := ((bankOf a.staging).zoneRow z).mix })
    ∧ (s.switchedOver a).routes = s.routes.map ((s.switchedOver a).placed (fun _ => true))
    ∧ (s.switchedOver a).rebuild = askedRebuild true s.rebuild := by
  obtain ⟨_, zones, routes, request⟩ := State.reloadMix_parts _ _ (s.rearbitrated_adopted a)
  have target : (s.switchedOver a).targetDelayOf = (s.installBank a).rearbitrate.reloadMix.targetDelayOf :=
    funext (s.switchedOver_plan a).targetDelayOf
  refine ⟨fun z => ?_, ?_, ?_⟩
  · refine ((State.zone_congr (by simp [State.switchedOver]) z).trans (zones z)).trans ?_
    rw [State.zone_congr (s := s) (by simp)]
  · unfold State.placed at routes ⊢
    rw [target]
    refine Eq.trans ?_ (routes.trans ?_)
    · simp [State.switchedOver]
    · simp
  · refine Eq.trans ?_ (request.trans ?_)
    · simp [State.switchedOver]
    · simp

theorem State.installBank_noticed (s : State) (a : Adoption) (n : Notice) :
    (s.installBank a).noticed n = (decide (Notice.bank = n)
      || ((s.switched a).outcome a.origin a.claim (clampCode a.clampCount) a.clampCount).noticed n) := by
  rw [s.installBank_eq]
  exact State.raise_noticed _ _ n

theorem State.outcome_noticed (s : State) (o : Origin) (claim : Bool) (code : ResultCode) (detail : Nat) (n : Notice)
    (cue : n ≠ .cue) (call : n ≠ .call) : (s.outcome o claim code detail).noticed n = s.noticed n := by
  cases o with
  | slot k => simp [State.outcome_noticed_slot, cue.symm]
  | call => simp [State.outcome_noticed_call, call.symm]

theorem State.installBank_noticed_else (s : State) (a : Adoption) (n : Notice) (bank : n ≠ .bank) (cue : n ≠ .cue)
    (call : n ≠ .call) : (s.installBank a).noticed n = s.noticed n := by
  rw [s.installBank_noticed, State.outcome_noticed _ _ _ _ _ n cue call, State.noticed_congr (s.switched_members a).2.1]
  simp [bank.symm]

theorem State.asksFrom_switchedOver (s : State) (a : Adoption) : AsksFrom s (s.switchedOver a) true := by
  obtain ⟨_, port, live, _, _, _, _, hold, admitted, unserved⟩ := s.switchedOver_members a
  obtain ⟨_, routes, request⟩ := s.switchedOver_lists a
  refine ⟨admitted, unserved, ?_, ?_, request, hold, ?_⟩
  · unfold State.listed
    rw [routes, List.map_map]
    rfl
  · rw [State.noticed_congr port, s.installBank_noticed_else a .routeFull (by decide) (by decide) (by decide)]
  · rw [State.running, live]
    rfl

/-- A settling with a rebuild leaves each entry its place, LIVE where its pair is admitted (R43). -/
theorem State.settle_rebuilt_stands (u : State) (rebuilds : u.counted.serveRebuild = u.counted.rebuildRoutes)
    (e : Entry) (he : e ∈ u.routes) :
    ∃ e' ∈ u.settle.routes, entryStands e e' ∧ (e'.lifecycle = .live ↔ e.pair ∈ u.settle.admitted) := by
  have settled : u.settle = u.counted.rebuildRoutes.compose.refreshHold := by rw [u.settle_eq, rebuilds]
  have here : e ∈ u.counted.routes := by
    rw [u.counted_members.1]
    exact he
  have admitted : u.settle.admitted = u.counted.admittedNow := by
    rw [← u.counted.rebuildRoutes_lists.1, settled]
    rfl
  refine ⟨_, ?_, State.rebuilt_stands u.counted.rebuildRoutes e (u.counted.admittedNow.contains e.pair), ?_⟩
  · rw [settled]
    exact (u.counted.mem_rebuilt_compose _).2 (.inl ⟨e, here, rfl⟩)
  · rw [State.rebuilt_live, admitted]
    exact List.contains_iff_mem

theorem State.switchedOver_rebuilds (s : State) (a : Adoption) (idle : s.surveying = false) :
    (s.switchedOver a).counted.serveRebuild = (s.switchedOver a).counted.rebuildRoutes := by
  obtain ⟨_, _, live, _, _, survey, _⟩ := s.switchedOver_members a
  obtain ⟨_, _, request⟩ := s.switchedOver_lists a
  obtain ⟨_, _, _, countedRequest, _, countedLive, countedSurvey, _⟩ := (s.switchedOver a).counted_members
  refine State.serveRebuild_rebuilds _ ?_ ?_
  · rw [State.running, countedLive, live]
    rfl
  · rw [countedRequest, request]
    unfold askedRebuild
    by_cases forced : s.rebuild = .forced
    · simp [forced]
    · refine .inr ⟨by simp [forced], ?_⟩
      rw [State.surveying, countedSurvey, survey]
      exact idle

theorem State.switchedOver_entry (s : State) (a : Adoption) (idle : s.surveying = false) (e : Entry)
    (he : e ∈ s.routes) :
    ∃ e' ∈ (s.switchedOver a).settle.routes,
      entryPlaced False ((s.switchedOver a).settle.targetDelayOf e.pair) e e'
      ∧ (e'.lifecycle = .live ↔ e.pair ∈ (s.switchedOver a).settle.admitted) := by
  obtain ⟨_, routes, _⟩ := s.switchedOver_lists a
  have here : (s.switchedOver a).placed (fun _ => true) e ∈ (s.switchedOver a).routes := by
    rw [routes]
    exact List.mem_map_of_mem he
  obtain ⟨e', he', stands, live⟩ :=
    State.settle_rebuilt_stands _ (s.switchedOver_rebuilds a idle) _ here
  rw [(s.switchedOver a).samePlan_settle.targetDelayOf]
  exact ⟨e', he', entryPlaced_of_stands (e.placeTarget_placed _ not_false) stands, live⟩

/-! ### What a switch-over writes (R140, R170, R174) -/

theorem State.switchedOver_word (s : State) (a : Adoption) (w : Nat) :
    (s.switchedOver a).settle.word w
      = ((s.switched a).outcome a.origin a.claim (clampCode a.clampCount) a.clampCount).word w := by
  unfold State.word
  have mem : (s.switchedOver a).settle.mem = (s.switchedOver a).mem := by simp
  rw [mem, (s.switchedOver_members a).1, s.installBank_eq]
  rfl

theorem State.switchedOver_noticed (s : State) (a : Adoption) (n : Notice) (apart : n ≠ .routeFull) :
    (s.switchedOver a).settle.noticed n = (decide (Notice.bank = n)
      || ((s.switched a).outcome a.origin a.claim (clampCode a.clampCount) a.clampCount).noticed n) := by
  rw [State.settle_noticed _ n apart, State.noticed_congr (s.switchedOver_members a).2.1, s.installBank_noticed]

theorem State.switchedOver_callResult (s : State) (a : Adoption) :
    (s.switchedOver a).settle.port.callResult
      = ((s.switched a).outcome a.origin a.claim (clampCode a.clampCount) a.clampCount).port.callResult := by
  obtain ⟨_, _, _, _, _, _, _, _, settled⟩ := (s.switchedOver a).settlesTo_settle
  rw [settled]
  show (s.switchedOver a).port.callResult = _
  rw [(s.switchedOver_members a).2.1, s.installBank_eq]
  rfl

theorem State.engineSets_switchedOver (s : State) (a : Adoption) : s.engineSets (s.switchedOver a).settle := by
  have switched : s.engineSets (s.switched a) := ⟨_, _, _, _, _, _, _, _, _, _, _, _, _, _, _, _, _, rfl⟩
  have installed : s.engineSets (s.installBank a) := by
    rw [s.installBank_eq]
    exact State.engineSets_trans switched (State.engineSets_trans (State.cueSets_outcome ..).engineSets
      (State.engineSets_raise _ _))
  have arbitrated : (s.installBank a).engineSets (s.installBank a).rearbitrate := by
    unfold State.rearbitrate
    split <;> exact ⟨_, _, _, _, _, _, _, _, _, _, _, _, _, _, _, _, _, rfl⟩
  have reloaded : (s.installBank a).rearbitrate.engineSets (s.installBank a).rearbitrate.reloadMix := by
    unfold State.reloadMix
    split <;> exact ⟨_, _, _, _, _, _, _, _, _, _, _, _, _, _, _, _, _, rfl⟩
  exact State.engineSets_trans installed (State.engineSets_trans arbitrated (State.engineSets_trans reloaded
    (State.engineSets_trans (State.cueSets_followForces _ _).engineSets
      (State.cueSets_of_settlesTo (State.settlesTo_settle _)).engineSets)))

theorem State.switched_wf (s : State) (a : Adoption) (canonical : s.mem.wf) : (s.switched a).mem.wf := by
  rw [(s.switched_members a).1]
  exact Memory.writeAll_wf _ _ canonical

/-- A word of a bank, or one below the banks that the outcome does not take, after a switch-over. -/
theorem State.switchedOver_word_away (s : State) (a : Adoption) (canonical : s.mem.wf) (w : Nat)
    (away : ∀ k, a.origin = .slot k → w ∉ outcomeAddrs k) :
    (s.switchedOver a).settle.word w = (s.storeAll (switchCells a s.liveBank)).word w := by
  rw [s.switchedOver_word, State.outcome_word_away _ _ _ _ _ (s.switched_wf a canonical) w away, State.word,
    (s.switched_members a).1]
  rfl

/-- The outcome that a switch-over writes in a slot (R170). -/
theorem State.switchedOver_slot (s : State) (a : Adoption) (canonical : s.mem.wf) (k : Fin 32)
    (slot : a.origin = .slot k) :
    let t := (s.switchedOver a).settle
    t.word (slotBase k) = 3 ∧ t.word (slotBase k + 2) = (if a.clampCount = 0 then 0 else 1)
    ∧ t.word (slotBase k + 3) = natWord a.clampCount ∧ t.word (slotBase k + 4) = blockLow s.block
    ∧ t.word (slotBase k + 5) = blockHigh s.block ∧ t.noticed .cue = true
    ∧ t.port.callResult = s.port.callResult ∧ t.noticed .call = s.noticed .call := by
  obtain ⟨_, port, block⟩ := s.switched_members a
  obtain ⟨state, number, detail, low, high, _⟩ := State.outcome_slot_words (s.switched a) k a.claim
    (clampCode a.clampCount) a.clampCount (s.switched_wf a canonical)
  have code : (if (clampCode a.clampCount).done then slotDone else slotFaulted) = (3 : Word)
      ∧ natWord (clampCode a.clampCount).number = (if a.clampCount = 0 then 0 else 1) := by
    unfold clampCode
    split <;> exact ⟨rfl, rfl⟩
  refine ⟨?_, ?_, ?_, ?_, ?_, ?_, ?_, ?_⟩
  case refine_6 | refine_8 =>
    rw [s.switchedOver_noticed a _ (by decide), slot, State.outcome_noticed_slot]
    simp [State.noticed_congr port]
  case refine_7 =>
    rw [s.switchedOver_callResult, slot, State.outcome_slot_callResult, port]
  all_goals rw [s.switchedOver_word, slot]
  · exact state.trans code.1
  · exact number.trans code.2
  · exact detail
  · exact low.trans (by rw [block])
  · exact high.trans (by rw [block])

/-- The outcome that a switch-over leaves in CALL (R174). -/
theorem State.switchedOver_call (s : State) (a : Adoption) (call : a.origin = .call) :
    let t := (s.switchedOver a).settle
    t.noticed .cue = s.noticed .cue
    ∧ (a.claim = true → t.port.callResult = (if a.clampCount = 0 then 0 else 1) ∧ t.noticed .call = true)
    ∧ (a.claim = false → t.port.callResult = s.port.callResult ∧ t.noticed .call = s.noticed .call) := by
  obtain ⟨_, port, _⟩ := s.switched_members a
  have noticed : ∀ n, n ≠ .routeFull → n ≠ .bank → (s.switchedOver a).settle.noticed n
      = (a.claim && decide (Notice.call = n) || s.noticed n) := by
    intro n full bank
    rw [s.switchedOver_noticed a n full, call, State.outcome_noticed_call, State.noticed_congr port]
    simp [bank.symm]
  refine ⟨?_, fun claim => ⟨?_, ?_⟩, fun claim => ⟨?_, ?_⟩⟩
  · rw [noticed _ (by decide) (by decide)]
    simp
  · rw [s.switchedOver_callResult, call, claim]
    show BitVec.ofNat 4 (clampCode a.clampCount).number = _
    unfold clampCode
    split <;> rfl
  · rw [noticed _ (by decide) (by decide), claim]
    rfl
  · rw [s.switchedOver_callResult, call, claim]
    exact congrArg Port.callResult port
  · rw [noticed _ (by decide) (by decide), claim]
    rfl

theorem State.switchedOver_noticesElse (s : State) (a : Adoption) :
    noticesElse s (s.switchedOver a).settle [.bank, .cue, .call, .routeFull] := by
  intro n away
  simp only [List.mem_cons, List.not_mem_nil, or_false, not_or] at away
  obtain ⟨bank, cue, call, full⟩ := away
  rw [State.settle_noticed _ n full, State.noticed_congr (s.switchedOver_members a).2.1,
    s.installBank_noticed_else a n bank cue call]

theorem State.switchedOver_portElse (s : State) (a : Adoption) : portElse s (s.switchedOver a).settle := by
  have settled := (State.cueSets_of_settlesTo (s.switchedOver a).settlesTo_settle).portElse
  have outcome := (State.cueSets_outcome (s.switched a) a.origin a.claim (clampCode a.clampCount) a.clampCount).portElse
  have request := congrArg Port.resetRequest outcome
  have kept : (s.switchedOver a).settle.port.resetRequest = s.port.resetRequest := by
    refine (congrArg Port.resetRequest settled).trans ?_
    rw [(s.switchedOver_members a).2.1, ← (s.switched_members a).2.1]
    exact request
  obtain ⟨_, _, _, _, _, _, _, _, _, _, _, _, _, _, _, _, _, sets⟩ := s.engineSets_switchedOver a
  rw [sets] at kept
  unfold portElse
  rw [sets]
  dsimp only at kept
  rw [kept]

theorem State.switchedOver_rest (s : State) (a : Adoption) :
    { (s.switchedOver a).settle with
      mem := s.mem, port := s.port, sources := s.sources, zones := s.zones, nom := s.nom, routes := s.routes,
      admitted := s.admitted, unserved := s.unserved, rebuild := s.rebuild, hold := s.hold, live := s.live,
      adoption := s.adoption, marks := s.marks } = s := by
  obtain ⟨_, _, _, _, _, survey, scenes, _⟩ := s.switchedOver_members a
  have sameScenes : (s.switchedOver a).settle.scenes = s.scenes := by simpa using scenes
  have sameSurvey : (s.switchedOver a).settle.survey = s.survey := by simpa using survey
  obtain ⟨_, _, _, _, _, _, _, _, _, _, _, _, _, _, _, _, _, sets⟩ := s.engineSets_switchedOver a
  rw [sets] at sameScenes sameSurvey
  rw [sets]
  dsimp only at sameScenes sameSurvey
  rw [sameScenes, sameSurvey]

end Switched

/-! ### The gates of a switch-over by the statement's own table -/

/-- The hold counter decides a gate's step in HOLD alone (R16). -/
theorem GateState.standing_counts (g : GateState) (m n : Nat) (left : g ≠ .hold) : g.standing m = g.standing n := by
  cases g with
  | hold => exact absurd rfl left
  | _ => rfl

theorem State.standingSteps_installed (s : State) (a : Adoption) (own : Fin 16 → GateStep)
    (stands : ∀ i, own i = (s.source i).gate.standing
      (min (s.source i).holdCount (bankOf a.staging).globals.holdBlocks)) :
    (s.installBank a).standingSteps = allSources.map own := by
  unfold State.standingSteps
  congr 1
  funext i
  rw [s.installBank_source, stands]
  unfold Source.lowerHold
  split
  · rfl
  · rename_i left
    exact GateState.standing_counts _ _ _ left

/-- Settles O40: the bank installed, the gates arbitrated and forced anew, the entries placed anew, and the outcome. -/
theorem switchOverInstallsBank : Obligations.SwitchOverInstallsBank := by
  intro a s canonical adopting whole sound apart idle b level lowered own placed otherOpen alone evaluated forced
  have stands : ∀ i, own i = (s.source i).gate.standing (min (s.source i).holdCount b.globals.holdBlocks) := by
    intro i
    simp only [own, lowered]
    cases (s.source i).gate <;> rfl
  have steps := s.standingSteps_installed a own stands
  have levels : (s.installBank a).levelOfSource = level :=
    funext (State.levelOfSource_congr (by
      obtain ⟨_, _, _, _, _, _, _, _, _, meter, _⟩ := s.installBank_members a
      rw [meter]))
  have uncandidate : ∀ j, own j ≠ .candidate := fun j => by
    rw [stands]
    exact (GateState.standing_unplaced _ _).1
  have unplaced : ∀ j g, placed j = .settled g → g.unplaced := fun j g =>
    arbitrated_unplaced (fun k g h => (GateState.standing_unplaced _ _).2 g ((stands k).symm.trans h)) _ _ j g
  have gates : ∀ i, s.switchedGate a i = evaluated i := by
    intro i
    have settled : s.switchedGate a i = settledGate b.globals.lastOn (allSources.map own) (allSources.map placed) i := by
      unfold State.switchedGate State.restoodGate
      rw [steps, levels]
    obtain ⟨last, expiring⟩ := settledGate_unopened uncandidate unplaced b.globals.lastOn i
    rw [settled]
    simp only [evaluated]
    cases step : placed i with
    | last => exact last step
    | expiring => exact expiring step
    | _ =>
      unfold settledGate
      rw [stepAt_map, step]
  have forces : s.switchedForce a = forced := by
    funext i
    simp only [State.switchedForce, gates, forced]
    split
    · rfl
    · cases ((bankOf a.staging).sourceRow i).mix.force <;> cases (evaluated i).1 <;> rfl
  obtain ⟨_, _, live, ended, marks, _⟩ := s.switchedOver_members a
  obtain ⟨zones, _⟩ := s.switchedOver_lists a
  obtain ⟨adopted, count, first, reason, address, old, rest⟩ := s.switchCells_header a canonical
  have asks := s.asksFrom_switchedOver a
  have rebuilt := listRebuilt_of_rebuilds asks.unserved asks.listed asks.full (s.switchedOver_rebuilds a idle)
  have bankWord : ∀ w, 0x440 ≤ w → (s.switchedOver a).settle.word w
      = (s.storeAll (switchCells a s.liveBank)).word w := fun w high =>
    s.switchedOver_word_away a canonical w (fun k _ => outcomeAddrs_below k high)
  have low : 0x800 ≤ bankBase a.bank := (bankBase_range a.bank).1
  have source := s.source_switchedOver a
  rw [forces] at source
  simp only [gates] at source
  refine ⟨_, execSwitchOver_of adopting whole sound, ?_, ?_, ?_, bankOf_copied a.staging,
    (bankWord _ (by omega)).trans adopted, (bankWord _ (by omega)).trans count, (bankWord _ (by omega)).trans first,
    (bankWord _ (by omega)).trans reason, (bankWord _ (by omega)).trans address, fun b' was => ?_,
    fun w away awayOld awaySlot => ?_, source, fun z => ?_, settledFrom_settle asks, fun e he => ?_, fun e' he' => ?_, ?_,
    fun k slot => s.switchedOver_slot a canonical k slot, fun call => (s.switchedOver_call a call).1,
    fun call => (s.switchedOver_call a call).2.1, fun call => (s.switchedOver_call a call).2.2,
    s.switchedOver_noticesElse a, s.switchedOver_portElse a, ?_, s.switchedOver_rest a⟩
  · simpa using ended
  · rw [State.running, State.settle_live, live]
    rfl
  · rw [State.settle_live, live]
  · have other : b' ≠ a.bank := fun same => apart (by rw [was, same])
    exact (bankWord _ (by have := (bankBase_range b').1; omega)).trans (old b' was other)
  · exact (s.switchedOver_word_away a canonical w awaySlot).trans (rest w away awayOld)
  · exact (State.zone_congr (by simp) z).trans (zones z)
  · obtain ⟨e', he', ⟨pair, delay, gain, _, moved⟩, lifecycle⟩ := s.switchedOver_entry a idle e he
    exact ⟨e', he', pair, delay, gain, lifecycle, moved not_false⟩
  · obtain ⟨_, _, _, _, entries, _⟩ := rebuilt
    refine (entries e' he').imp_right (fun new => ?_)
    obtain ⟨_, life, gain, motion, delay, target, _⟩ := new
    exact ⟨life, gain, motion, delay, target⟩
  · rw [s.switchedOver_noticed a _ (by decide)]
    simp
  · simpa using marks

end Sys2Proof.Machine
end

section
/-! What ends a survey or an adoption early, and the state that an engine reset sets (O42). -/

namespace Sys2Proof.Machine

/-! ### Outcomes that stand (R170, R174) -/

/-- The notice that an outcome raises. -/
def outcomeRaises (o : Origin) (claim : Bool) (n : Notice) : Bool :=
  match o with
  | .slot _ => decide (Notice.cue = n)
  | .call => claim && decide (Notice.call = n)

theorem State.outcome_noticed_eq (s : State) (o : Origin) (claim : Bool) (code : ResultCode) (detail : Nat)
    (n : Notice) : (s.outcome o claim code detail).noticed n = (outcomeRaises o claim n || s.noticed n) := by
  cases o with
  | slot k => exact s.outcome_noticed_slot k claim code detail n
  | call => exact s.outcome_noticed_call claim code detail n

/-- The result that an outcome leaves in CALL. -/
theorem State.outcome_callResult (s : State) (o : Origin) (claim : Bool) (code : ResultCode) (detail : Nat) :
    (s.outcome o claim code detail).port.callResult
      = if o = .call ∧ claim = true then BitVec.ofNat 4 code.number else s.port.callResult := by
  cases o with
  | slot k => rfl
  | call => cases claim <;> rfl

theorem State.outcome_resetRequest (s : State) (o : Origin) (claim : Bool) (code : ResultCode) (detail : Nat) :
    (s.outcome o claim code detail).port.resetRequest = s.port.resetRequest := by
  have request := congrArg Port.resetRequest (s.cueSets_outcome o claim code detail).portElse
  exact request

section Stands

variable {s t : State} {o : Origin} {claim : Bool} {code : ResultCode} {detail : Nat} {block : BlockNo}

/-- An outcome stands in a state that keeps the slots, CALL's result and the notices raised. -/
theorem outcomeStands_congr (words : ∀ w, w < 0x440 → t.word w = s.word w)
    (cue : s.noticed .cue = true → t.noticed .cue = true) (call : s.noticed .call = true → t.noticed .call = true)
    (result : t.port.callResult = s.port.callResult) (h : outcomeStands s o claim code detail block) :
    outcomeStands t o claim code detail block := by
  unfold outcomeStands at *
  cases o with
  | slot k =>
    have range := slotBase_range k
    obtain ⟨state, number, rest, low, high, raised⟩ := h
    simp only [words (slotBase k) (by omega), words (slotBase k + 2) (by omega), words (slotBase k + 3) (by omega),
      words (slotBase k + 4) (by omega), words (slotBase k + 5) (by omega)]
    exact ⟨state, number, rest, low, high, cue raised⟩
  | call =>
    intro claimed
    obtain ⟨number, raised⟩ := h claimed
    exact ⟨result.trans number, call raised⟩

theorem State.outcomeStands_outcome (s : State) (o : Origin) (claim : Bool) (code : ResultCode) (detail : Nat)
    (canonical : s.mem.wf) : outcomeStands (s.outcome o claim code detail) o claim code detail s.block := by
  unfold outcomeStands
  cases o with
  | slot k =>
    obtain ⟨state, number, rest, low, high, _⟩ := s.outcome_slot_words k claim code detail canonical
    exact ⟨state, number, rest, low, high, by rw [State.outcome_noticed_slot]; rfl⟩
  | call =>
    rintro rfl
    exact ⟨rfl, by rw [State.outcome_noticed_call]; rfl⟩

/-- An outcome stands through a second one of the same block and code, in the same slot or another. -/
theorem State.outcomeStands_again (canonical : s.mem.wf) (o' : Origin) (claim' : Bool)
    (h : outcomeStands s o claim code detail s.block) :
    outcomeStands (s.outcome o' claim' code detail) o claim code detail s.block := by
  have raises : ∀ n, s.noticed n = true → (s.outcome o' claim' code detail).noticed n = true := by
    intro n raised
    rw [State.outcome_noticed_eq, raised, Bool.or_true]
  cases o with
  | slot k =>
    by_cases same : o' = .slot k
    · subst same
      exact s.outcomeStands_outcome (.slot k) claim' code detail canonical
    · obtain ⟨state, number, rest, low, high, raised⟩ := h
      have kept : ∀ d, d < 32 → (s.outcome o' claim' code detail).word (slotBase k + d) = s.word (slotBase k + d) := by
        intro d small
        refine s.outcome_word_away o' claim' code detail canonical _ (fun j slot => ?_)
        have apart : k ≠ j := fun e => same (by rw [slot, e])
        simp only [outcomeAddrs, List.mem_cons, List.not_mem_nil, or_false, not_or]
        exact ⟨slotBase_apart k j apart d 0 small (by omega), slotBase_apart k j apart d 2 small (by omega),
          slotBase_apart k j apart d 3 small (by omega), slotBase_apart k j apart d 4 small (by omega),
          slotBase_apart k j apart d 5 small (by omega)⟩
      exact ⟨(kept 0 (by omega)).trans state, (kept 2 (by omega)).trans number, (kept 3 (by omega)).trans rest,
        (kept 4 (by omega)).trans low, (kept 5 (by omega)).trans high, raises _ raised⟩
  | call =>
    intro claimed
    obtain ⟨number, raised⟩ := h claimed
    refine ⟨?_, raises _ raised⟩
    rw [State.outcome_callResult]
    split
    · rfl
    · exact number

end Stands

/-! ### The end of a survey or an adoption (R127, R128, R144) -/

/-- A state keeps the slots' outcomes under a write at or above the words that follow them. -/
theorem State.storeAll_word_low (s : State) (cells : List (Nat × Word)) (canonical : s.mem.wf)
    (high : ∀ c ∈ cells, 0x440 ≤ c.1) (w : Nat) (low : w < 0x440) : (s.storeAll cells).word w = s.word w :=
  Memory.read_writeAll_other _ _ _ canonical (fun c hc same => by have := high c hc; omega)

/-- The words of an ended survey's header, and no other (R125, R127). -/
theorem State.surveyEndHeader_word (s : State) (state : Word) (canonical : s.mem.wf) (w : Nat) :
    (s.storeAll (surveyEndHeader s.block state)).word w =
      if w = 0x2809 then blockLow s.block else if w = 0x280A then blockHigh s.block
      else if w = 0x2800 then state else s.word w := by
  show (s.mem.writeAll (surveyEndHeader s.block state)).read w = _
  unfold surveyEndHeader surveyBase
  rw [Memory.read_writeAll_cons _ _ _ _ canonical, Memory.read_writeAll_cons _ _ _ _ canonical,
    Memory.read_writeAll_cons _ _ _ _ canonical]
  · rfl
  all_goals simp [Config.memoryWords]

/-- What the early end of a survey leaves (R127, R128). -/
theorem State.abandonSurvey_ends (s : State) (code : ResultCode) (canonical : s.mem.wf) :
    let t := s.abandonSurvey code
    t.mem.wf ∧ t.survey = s.survey.discarded ∧ t.word 0x2800 = 3 ∧ t.word 0x2809 = blockLow s.block
    ∧ t.word 0x280A = blockHigh s.block ∧ outcomeStands t s.survey.origin s.survey.claim code 0 s.block
    ∧ (∀ w, w ∉ [0x2800, 0x2809, 0x280A] → (∀ k, s.survey.origin = .slot k → w ∉ outcomeAddrs k) →
        t.word w = s.word w)
    ∧ (∀ n, t.noticed n = (decide (Notice.survey = n) || (outcomeRaises s.survey.origin s.survey.claim n || s.noticed n)))
    ∧ t.port.callResult = (if s.survey.origin = .call ∧ s.survey.claim = true then BitVec.ofNat 4 code.number
        else s.port.callResult) := by
  intro t
  let u := (s.storeAll (surveyEndHeader s.block 3)).withSurvey s.survey.discarded
  have ended : t = (u.outcome s.survey.origin s.survey.claim code 0).raise .survey := rfl
  have wf : u.mem.wf := Memory.writeAll_wf _ _ canonical
  have header : ∀ w, u.word w = _ := s.surveyEndHeader_word 3 canonical
  have word : ∀ w, t.word w = (u.outcome s.survey.origin s.survey.claim code 0).word w := fun _ => rfl
  have high : ∀ w, 0x440 ≤ w → t.word w = u.word w := fun w high =>
    (word w).trans (u.outcome_word_away _ _ _ _ wf w (fun k _ => outcomeAddrs_below k high))
  have noticed : ∀ n, t.noticed n
      = (decide (Notice.survey = n) || (outcomeRaises s.survey.origin s.survey.claim n || s.noticed n)) := by
    intro n
    rw [ended, State.raise_noticed, State.outcome_noticed_eq]
    rfl
  refine ⟨u.outcome_mem_wf _ _ _ _ wf, ?_, ?_, ?_, ?_, ?_, fun w away awaySlot => ?_, noticed, ?_⟩
  · simp [ended, u]
  · rw [high _ (by decide), header]
    rfl
  · rw [high _ (by decide), header]
    rfl
  · rw [high _ (by decide), header]
    rfl
  · refine outcomeStands_congr (fun w _ => word w) ?_ ?_ rfl
      (u.outcomeStands_outcome s.survey.origin s.survey.claim code 0 wf)
    all_goals
      rw [noticed, State.outcome_noticed_eq]
      intro raised
      simp only [Bool.or_eq_true] at raised ⊢
      exact .inr raised
  · simp only [List.mem_cons, List.not_mem_nil, or_false, not_or] at away
    obtain ⟨state, low, high⟩ := away
    rw [word, u.outcome_word_away _ _ _ _ wf w awaySlot, header, if_neg low, if_neg high, if_neg state]
  · exact u.outcome_callResult _ _ _ _

/-- What an adoption abandoned by an engine reset leaves (R144). -/
theorem State.abandonAdoption_ends (s : State) (a : Adoption) (adopting : s.adoption = some a) (canonical : s.mem.wf) :
    let t := s.abandonAdoption
    t.adoption = none ∧ t.word (bankBase a.bank) = 0 ∧ outcomeStands t a.origin a.claim .reset 0 s.block
    ∧ (∀ o claim, outcomeStands s o claim .reset 0 s.block → outcomeStands t o claim .reset 0 s.block)
    ∧ (∀ w, w ≠ bankBase a.bank → (∀ k, a.origin = .slot k → w ∉ outcomeAddrs k) → t.word w = s.word w)
    ∧ (∀ n, t.noticed n = (decide (Notice.bank = n) || (outcomeRaises a.origin a.claim n || s.noticed n)))
    ∧ t.port.callResult = (if a.origin = .call ∧ a.claim = true then 11 else s.port.callResult) := by
  intro t
  let u : State := { s.store (bankBase a.bank) bankEdit with adoption := none }
  obtain ⟨low, inside⟩ := bankBase_range a.bank
  have ended : t = (u.outcome a.origin a.claim .reset 0).raise .bank := by
    simp only [t, State.abandonAdoption, adopting]
    rfl
  have wf : u.mem.wf := Memory.write_wf _ _ _ canonical
  have stored : ∀ w, u.word w = if w = bankBase a.bank then 0 else s.word w := fun w =>
    Memory.read_write _ _ _ _ canonical (by omega)
  have word : ∀ w, t.word w = (u.outcome a.origin a.claim .reset 0).word w := fun w => by
    rw [ended]
    rfl
  have noticed : ∀ n, t.noticed n = (decide (Notice.bank = n) || (outcomeRaises a.origin a.claim n || s.noticed n)) := by
    intro n
    rw [ended, State.raise_noticed, State.outcome_noticed_eq]
    rfl
  have raised : ∀ o claim, outcomeStands (u.outcome a.origin a.claim .reset 0) o claim .reset 0 s.block →
      outcomeStands t o claim .reset 0 s.block := by
    intro o claim stands
    refine outcomeStands_congr (fun w _ => word w) ?_ ?_ (by rw [ended]; rfl) stands
    all_goals
      rw [ended, State.raise_noticed]
      intro raised
      rw [raised, Bool.or_true]
  refine ⟨?_, ?_, raised _ _ (u.outcomeStands_outcome a.origin a.claim .reset 0 wf), fun o claim stands => ?_,
    fun w away awaySlot => ?_, noticed, ?_⟩
  · simp [ended, u]
  · rw [word, u.outcome_word_away _ _ _ _ wf _ (fun k _ => outcomeAddrs_below k (by omega)), stored, if_pos rfl]
  · refine raised o claim (State.outcomeStands_again wf _ _ ?_)
    exact outcomeStands_congr (fun w small => (stored w).trans (if_neg (by omega))) id id rfl stands
  · rw [word, u.outcome_word_away _ _ _ _ wf w awaySlot, stored, if_neg away]
  · rw [ended]
    exact u.outcome_callResult _ _ _ _

/-! ### What an engine reset ends (R128, R144, R156) -/

/-- A survey or an adoption ended by an engine reset was begun by a cue of this origin. -/
def State.resetEnds (s : State) (o : Origin) : Prop :=
  (s.surveying = true ∧ s.survey.origin = o) ∨ ∃ a, s.adoption = some a ∧ a.origin = o

/-- A claim on CALL stood for a survey or an adoption that an engine reset ends. -/
def State.resetClaimed (s : State) : Prop :=
  (s.surveying = true ∧ s.survey.origin = .call ∧ s.survey.claim = true)
    ∨ ∃ a, s.adoption = some a ∧ a.origin = .call ∧ a.claim = true

/-- The reset's request cleared and its mark set. -/
def State.served (s : State) : State :=
  { s.withPort { s.port with resetRequest := false } with marks := { s.marks with resetHere := true } }

theorem State.resetting_eq (s : State) : s.resetting = s.served.resetSurvey.abandonAdoption := rfl

/-- The reset's request is cleared, whatever the reset ends (R154). -/
theorem State.resetting_resetRequest (s : State) : s.resetting.port.resetRequest = false := by
  have survey : s.served.resetSurvey.port.resetRequest = false := by
    unfold State.resetSurvey State.abandonSurvey
    split
    · exact State.outcome_resetRequest ..
    · rfl
  rw [s.resetting_eq]
  unfold State.abandonAdoption
  split
  · exact survey
  · exact (State.outcome_resetRequest ..).trans survey

theorem State.resetSurvey_adoption (s : State) : s.resetSurvey.adoption = s.adoption := by simp

/-- What an engine reset makes of a survey (R128). -/
theorem State.resetSurvey_ends (s : State) (canonical : s.mem.wf) :
    let t := s.resetSurvey
    t.mem.wf ∧ t.survey = (if s.surveying then s.survey.discarded else s.survey)
    ∧ (s.surveying = true → t.word 0x2800 = 3 ∧ t.word 0x2809 = blockLow s.block ∧ t.word 0x280A = blockHigh s.block
        ∧ outcomeStands t s.survey.origin s.survey.claim .reset 0 s.block)
    ∧ (∀ w, (s.surveying = true → w ∉ [0x2800, 0x2809, 0x280A]) →
        (∀ k, s.surveying = true → s.survey.origin = .slot k → w ∉ outcomeAddrs k) → t.word w = s.word w)
    ∧ (∀ n, t.noticed n = (s.surveying && (decide (Notice.survey = n) || outcomeRaises s.survey.origin s.survey.claim n)
        || s.noticed n))
    ∧ t.port.callResult = (if s.surveying = true ∧ s.survey.origin = .call ∧ s.survey.claim = true then 11
        else s.port.callResult) := by
  intro t
  cases runs : s.surveying with
  | false =>
    have same : t = s := if_neg (by simp [runs])
    rw [same]
    exact ⟨canonical, rfl, nofun, fun _ _ _ => rfl, fun _ => rfl, by simp⟩
  | true =>
    have same : t = s.abandonSurvey .reset := if_pos runs
    obtain ⟨wf, survey, state, low, high, stands, rest, noticed, call⟩ := s.abandonSurvey_ends .reset canonical
    rw [same]
    refine ⟨wf, survey, fun _ => ⟨state, low, high, stands⟩, fun w away awaySlot => rest w (away rfl) (fun k => awaySlot k rfl),
      fun n => ?_, ?_⟩
    · rw [noticed, Bool.true_and, Bool.or_assoc]
    · exact call.trans (if_congr (by simp) rfl rfl)

/-- What an engine reset leaves of a survey and an adoption, and of everything else that can be read (R128, R144). -/
theorem State.resetting_ends (s : State) (canonical : s.mem.wf) :
    let t := s.resetting
    t.survey = (if s.surveying then s.survey.discarded else s.survey) ∧ t.adoption = none
    ∧ (s.surveying = true → t.word 0x2800 = 3 ∧ t.word 0x2809 = blockLow s.block ∧ t.word 0x280A = blockHigh s.block
        ∧ outcomeStands t s.survey.origin s.survey.claim .reset 0 s.block)
    ∧ (∀ a, s.adoption = some a → t.word (bankBase a.bank) = 0 ∧ outcomeStands t a.origin a.claim .reset 0 s.block)
    ∧ (∀ w, (s.surveying = true → w ∉ [0x2800, 0x2809, 0x280A]) →
        (∀ a, s.adoption = some a → w ≠ bankBase a.bank) → (∀ k, s.resetEnds (.slot k) → w ∉ outcomeAddrs k) →
        t.word w = s.word w)
    ∧ (∀ n, t.noticed n = (s.surveying && (decide (Notice.survey = n) || outcomeRaises s.survey.origin s.survey.claim n)
        || (s.adoption.any (fun a => decide (Notice.bank = n) || outcomeRaises a.origin a.claim n) || s.noticed n)))
    ∧ (s.resetClaimed → t.port.callResult = 11) ∧ (¬s.resetClaimed → t.port.callResult = s.port.callResult)
    ∧ t.port.resetRequest = false := by
  intro t
  obtain ⟨wf, survey, words, rest, noticed, call⟩ := s.served.resetSurvey_ends canonical
  have served : ∀ n, s.served.noticed n = s.noticed n := fun _ => rfl
  cases adopting : s.adoption with
  | none =>
    have same : t = s.served.resetSurvey := by
      have before : s.served.resetSurvey.adoption = none := s.served.resetSurvey_adoption.trans adopting
      simp only [t, s.resetting_eq, State.abandonAdoption, before]
    have claims : s.resetClaimed ↔ s.surveying = true ∧ s.survey.origin = .call ∧ s.survey.claim = true := by
      unfold State.resetClaimed
      simp [adopting]
    rw [same]
    refine ⟨survey, s.served.resetSurvey_adoption.trans adopting, words, nofun, fun w away _ awaySlot => ?_, fun n => ?_,
      fun claimed => ?_, fun unclaimed => ?_, same ▸ s.resetting_resetRequest⟩
    · exact rest w away (fun k runs slot => awaySlot k (.inl ⟨runs, slot⟩))
    · exact (noticed n).trans (by rw [served]; rfl)
    · exact call.trans (if_pos (claims.1 claimed))
    · exact call.trans (if_neg (fun claimed => unclaimed (claims.2 claimed)))
  | some a =>
    have before : s.served.resetSurvey.adoption = some a := s.served.resetSurvey_adoption.trans adopting
    have block : s.served.resetSurvey.block = s.block := by simp [State.served]
    obtain ⟨ended, edit, stands, again, restBank, noticedBank, callBank⟩ :=
      s.served.resetSurvey.abandonAdoption_ends a before wf
    rw [block] at stands again
    have sameSurvey : t.survey = s.served.resetSurvey.survey := by simp [t, s.resetting_eq]
    have low := (bankBase_range a.bank).1
    refine ⟨sameSurvey.trans survey, ended, fun runs => ?_, ?_, fun w away awayBank awaySlot => ?_, fun n => ?_,
      fun claimed => ?_, fun unclaimed => ?_, s.resetting_resetRequest⟩
    · obtain ⟨state, lowEnd, highEnd, standsSurvey⟩ := words runs
      have high : ∀ w, 0x2800 ≤ w → t.word w = s.served.resetSurvey.word w := by
        intro w high
        refine restBank w ?_ (fun k _ => outcomeAddrs_below k (by omega))
        cases bank : a.bank <;> simp only [bankBase] <;> omega
      exact ⟨(high _ (by omega)).trans state, (high _ (by omega)).trans lowEnd, (high _ (by omega)).trans highEnd,
        again _ _ standsSurvey⟩
    · rintro b ⟨⟩
      exact ⟨edit, stands⟩
    · refine (restBank w (awayBank a rfl) (fun k slot => awaySlot k (.inr ⟨a, adopting, slot⟩))).trans ?_
      exact rest w away (fun k runs slot => awaySlot k (.inl ⟨runs, slot⟩))
    · refine (noticedBank n).trans ?_
      rw [noticed, served, Option.any_some]
      have shuffle : ∀ x y z w : Bool, (x || (y || (z || w))) = (z || ((x || y) || w)) := by decide
      exact shuffle _ _ _ _
    · refine callBank.trans ?_
      split
      · rfl
      · rename_i other
        refine call.trans (if_pos ?_)
        rcases claimed with survey | ⟨b, same, origin, claim⟩
        · exact survey
        · rw [adopting] at same
          cases same
          exact absurd ⟨origin, claim⟩ other
    · have unclaimedBank : ¬(a.origin = .call ∧ a.claim = true) := fun h =>
        unclaimed (.inr ⟨a, adopting, h.1, h.2⟩)
      exact callBank.trans ((if_neg unclaimedBank).trans (call.trans (if_neg (fun h => unclaimed (.inl h)))))

end Sys2Proof.Machine
end

section
/-! ENGINE_RESET sent alone (O42, first part). -/

namespace Sys2Proof.Machine

/-! ### A list built from nothing (R44, R54) -/

/-- An entry above every other goes to the end. -/
theorem insertEntry_last (e : Entry) (l : List Entry) (above : ∀ x ∈ l, pairRank x.pair < pairRank e.pair) :
    insertEntry e l = l ++ [e] := by
  induction l with
  | nil => rfl
  | cons x rest ih =>
    have here := above x (List.mem_cons_self ..)
    rw [insertEntry, if_neg (by omega), ih (fun y hy => above y (List.mem_cons_of_mem _ hy))]
    rfl

/-- Pairs in ascending order, each above the entries that stand, enter at the end in their order. -/
theorem foldl_insertEntry (s : State) (ps : List Pair) (ascend : ps.Pairwise (fun p q => pairRank p < pairRank q)) :
    ∀ l : List Entry, (∀ e ∈ l, ∀ p ∈ ps, pairRank e.pair < pairRank p) →
      ps.foldl (fun routes p => insertEntry (s.newEntry p) routes) l = l ++ ps.map s.newEntry := by
  induction ps with
  | nil => intro l _; simp
  | cons p ps ih =>
    intro l above
    obtain ⟨first, rest⟩ := List.pairwise_cons.1 ascend
    rw [List.foldl_cons, insertEntry_last _ _ (fun e he => above e he p (List.mem_cons_self ..)), ih rest]
    · simp
    · intro e he q hq
      rcases List.mem_append.1 he with old | new
      · exact above e old q (List.mem_cons_of_mem _ hq)
      · rw [List.mem_singleton.1 new]
        exact first q hq

/-- A rebuild of an empty list: the admitted pairs in their order while there is room (R44 to R46). -/
theorem State.rebuildRoutes_empty (v : State) (empty : v.routes = []) :
    v.rebuildRoutes.routes = (v.admittedNow.take 160).map v.newEntry
    ∧ v.rebuildRoutes.admitted = v.admittedNow ∧ v.rebuildRoutes.unserved = v.admittedNow.drop 160
    ∧ v.rebuildRoutes.rebuild = .none := by
  obtain ⟨admitted, request, unserved, _⟩ := v.rebuildRoutes_lists
  have wanting : v.wanting = v.admittedNow := by
    unfold State.wanting
    rw [empty]
    exact List.filter_eq_self.2 (fun _ _ => rfl)
  rw [wanting, empty] at unserved
  refine ⟨?_, admitted, unserved, request⟩
  let u := v.mapRoutes (fun e => e.rebuilt (v.admittedNow.contains e.pair))
  have none : u.routes = [] := by
    show v.routes.map _ = []
    rw [empty]
    rfl
  have routes : v.rebuildRoutes.routes
      = (u.insertPairs ((v.admittedNow.filter (fun p => !v.hasEntry p)).take (160 - u.routes.length))).routes := by
    unfold State.rebuildRoutes
    simp only [State.raiseIf_frame]
    rfl
  rw [routes, v.wanting_eq, wanting, none]
  have ascend := (v.admittedNow_ordered.sublist (List.take_sublist 160 _))
  refine (foldl_insertEntry u _ ascend u.routes (by rw [none]; nofun)).trans ?_
  rw [none, List.nil_append]
  rfl

/-! ### The units that an engine reset sets (R21, R36, R102, R156) -/

theorem State.resetting_members (s : State) :
    s.resetting.live = s.live ∧ s.resetting.linkA = s.linkA ∧ s.resetting.linkB = s.linkB
    ∧ s.resetting.block = s.block ∧ s.resetting.marks = { s.marks with resetHere := true } ∧ s.resetting.hold = s.hold
    ∧ s.resetting.takeList = s.takeList := by
  rw [s.resetting_eq]
  simp [State.served]

theorem State.resetting_link (s : State) (l : LinkId) : s.resetting.link l = s.link l := by
  obtain ⟨_, linkA, linkB, _⟩ := s.resetting_members
  unfold State.link
  rw [linkA, linkB]

theorem State.carryReset_members (s : State) :
    s.carryReset.live = s.live ∧ s.carryReset.routes = [] ∧ s.carryReset.unserved = [] ∧ s.carryReset.admitted = []
    ∧ s.carryReset.scenes = [] ∧ s.carryReset.rebuild = (if s.running then .forced else .none)
    ∧ s.carryReset.survey = s.resetting.survey ∧ s.carryReset.adoption = s.resetting.adoption
    ∧ s.carryReset.marks = { s.marks with resetHere := true } ∧ s.carryReset.port = s.resetting.port
    ∧ s.carryReset.mem = s.resetting.mem ∧ s.carryReset.sources.length = 16 := by
  obtain ⟨live, _, _, _, marks, _⟩ := s.resetting_members
  have running : s.resetting.running = s.running := by rw [State.running, live, State.running]
  rw [s.carryReset_eq]
  refine ⟨?_, rfl, rfl, rfl, rfl, ?_, ?_, ?_, ?_, ?_, ?_, State.mapSources_length _ _⟩
  · exact live
  · exact congrArg (fun c : Bool => if c then RebuildRequest.forced else RebuildRequest.none) running
  · rfl
  · rfl
  · exact marks
  · rfl
  · rfl

/-- The mix and the position that a reset reloads from a copy in force, or sets to rest. -/
def resetRow (copy : Option Bank) (i : Fin 16) : SourceRow :=
  match copy with
  | none => { mix := .rest, pos := { x := 0, y := 0 } }
  | some b => b.sourceRow i

/-- The mix of a zone that a reset reloads from a copy in force, or sets to rest. -/
def resetZoneMix (copy : Option Bank) (z : Fin 24) : ZoneMix :=
  match copy with
  | none => .rest
  | some b => (b.zoneRow z).mix

theorem State.resetting_adopted (s : State) : s.resetting.adopted = s.adopted := by
  rw [State.adopted, s.resetting_members.1]
  rfl

/-- A source as an engine reset sets it (R4, R21). -/
theorem State.carryReset_source (s : State) (i : Fin 16) :
    s.carryReset.source i = { Source.reset with
      mix := (resetRow s.adopted i).mix, pos := (resetRow s.adopted i).pos
      gate := resetGate s.running (s.link (linkOf i)).lost (resetRow s.adopted i).mix.force } := by
  have running : s.resetting.running = s.running := by rw [State.running, s.resetting_members.1, State.running]
  rw [s.source_carryReset]
  unfold State.resetSource
  rw [running, s.resetting_link, s.resetting_adopted]
  cases s.adopted <;> rfl

/-- A zone as an engine reset sets it (R36, R102). -/
theorem State.carryReset_zone (s : State) (z : Fin 24) :
    s.carryReset.zone z = { Zone.reset with mix := resetZoneMix s.adopted z } := by
  let u := s.resetting.mapSources s.resetting.resetSource
  have adopted : u.adopted = s.adopted := s.resetting_adopted
  have zone : s.carryReset.zone z = u.resetZone z (u.zone z) := State.zone_mapZones u u.resetZone z
  rw [zone]
  unfold State.resetZone
  rw [adopted]
  cases s.adopted <;> rfl

/-! ### The settling of an engine reset (R54, R156) -/

/-- No gate that a reset sets is in LAST, so the settling leaves the sources. -/
theorem State.carryReset_settle_source (s : State) (i : Fin 16) : s.carryReset.settle.source i = s.carryReset.source i := by
  obtain ⟨_, _, _, _, _, _, _, _, _, _, _, len⟩ := s.carryReset_members
  rw [State.source_settle _ len, if_neg]
  rintro ⟨last, _⟩
  rw [s.carryReset_source] at last
  exact (resetGate_unplaced _ _ _).2.2 last

/-- A new entry, composed, is silent and at rest at its target (R44). -/
theorem newEntry_composed {v w t : State} (plan : v.samePlan t) (p : Pair) :
    (w.composeEntry (v.newEntry p)).pair = p ∧ (w.composeEntry (v.newEntry p)).lifecycle = .live
    ∧ (w.composeEntry (v.newEntry p)).gain = .off ∧ (w.composeEntry (v.newEntry p)).motion = .steady
    ∧ (w.composeEntry (v.newEntry p)).delay = (t.targetDelayOf p).delay
    ∧ (w.composeEntry (v.newEntry p)).targetDelay = (w.composeEntry (v.newEntry p)).delay := by
  obtain ⟨pair, life, gain, motion, delay, target, _⟩ := entersSilent_compose (w := w) plan p
  rw [pair] at delay
  exact ⟨pair, life, gain, motion, delay, target⟩

/-- The list after an engine reset while a bank is LIVE (R44 to R46, R54). -/
theorem State.carryReset_settle_running (s : State) (running : s.running = true) :
    let t := s.carryReset.settle
    t.admitted = t.admittedNow ∧ t.rebuild = .none ∧ t.routes.map (·.pair) = t.admitted.take 160
    ∧ t.unserved = t.admitted.drop 160
    ∧ ∀ e ∈ t.routes, e.lifecycle = .live ∧ e.gain = .off ∧ e.motion = .steady
        ∧ e.delay = (t.targetDelayOf e.pair).delay ∧ e.targetDelay = e.delay := by
  intro t
  let v := s.carryReset.counted
  obtain ⟨live, routes, _, _, _, rebuild, _⟩ := s.carryReset_members
  obtain ⟨countedRoutes, _, _, countedRebuild, _, countedLive, _⟩ := s.carryReset.counted_members
  have rebuilds : v.serveRebuild = v.rebuildRoutes := by
    refine v.serveRebuild_rebuilds ?_ (.inl ?_)
    · rw [State.running, countedLive, live]
      exact running
    · rw [countedRebuild, rebuild, running]
      rfl
  have settled : t = v.rebuildRoutes.compose.refreshHold := by
    simp only [t]
    rw [s.carryReset.settle_eq, rebuilds]
  have plan : v.samePlan t := s.carryReset.samePlan_counted.symm.trans s.carryReset.samePlan_settle
  obtain ⟨list, admitted, unserved, request⟩ := v.rebuildRoutes_empty (countedRoutes.trans routes)
  have admittedNow : t.admitted = t.admittedNow := by
    rw [plan.admittedNow, ← admitted, settled]
    rfl
  have routesLeft : t.routes = (v.admittedNow.take 160).map (fun p => v.rebuildRoutes.composeEntry (v.newEntry p)) := by
    rw [settled]
    show v.rebuildRoutes.routes.map v.rebuildRoutes.composeEntry = _
    rw [list, List.map_map]
    rfl
  refine ⟨admittedNow, ?_, ?_, ?_, fun e he => ?_⟩
  · rw [settled]
    exact request
  · rw [admittedNow, plan.admittedNow, routesLeft, List.map_map]
    refine (List.map_congr_left (fun p _ => ?_)).trans (List.map_id _)
    exact (newEntry_composed (w := v.rebuildRoutes) plan p).1
  · rw [admittedNow, plan.admittedNow, settled]
    exact unserved
  · rw [routesLeft] at he
    obtain ⟨p, _, rfl⟩ := List.mem_map.1 he
    obtain ⟨pair, life, gain, motion, delay, target⟩ := newEntry_composed (w := v.rebuildRoutes) plan p
    rw [pair]
    exact ⟨life, gain, motion, delay, target⟩

/-- With no bank LIVE an engine reset leaves the lists empty (R54). -/
theorem State.carryReset_settle_noBank (s : State) (running : s.running = false) :
    let t := s.carryReset.settle
    t.routes = [] ∧ t.unserved = [] ∧ t.admitted = [] ∧ t.rebuild = .none := by
  intro t
  obtain ⟨_, routes, unserved, admitted, _, rebuild, _⟩ := s.carryReset_members
  obtain ⟨countedRoutes, countedAdmitted, countedUnserved, countedRebuild, _⟩ := s.carryReset.counted_members
  have waits : s.carryReset.counted.rebuild = .none := by
    rw [countedRebuild, rebuild, running]
    rfl
  have settled : t = s.carryReset.counted.compose.refreshHold := by
    simp only [t]
    rw [s.carryReset.settle_eq, s.carryReset.counted.serveRebuild_waits (.inl waits)]
  rw [settled]
  refine ⟨?_, countedUnserved.trans unserved, countedAdmitted.trans admitted, waits⟩
  show s.carryReset.counted.routes.map _ = []
  rw [countedRoutes, routes]
  rfl

/-! ### What else an engine reset leaves -/

theorem State.engineSets_abandonSurvey (s : State) (code : ResultCode) : s.engineSets (s.abandonSurvey code) :=
  State.engineSets_trans (t := (s.storeAll (surveyEndHeader s.block 3)).withSurvey s.survey.discarded)
    ⟨_, _, _, _, _, _, _, _, _, _, _, _, _, _, _, _, _, rfl⟩
    (State.engineSets_trans (State.cueSets_outcome ..).engineSets (State.engineSets_raise _ _))

theorem State.engineSets_resetting (s : State) : s.engineSets s.resetting := by
  have served : s.engineSets s.served := ⟨_, _, _, _, _, _, _, _, _, _, _, _, _, _, _, _, _, rfl⟩
  have survey : s.served.engineSets s.served.resetSurvey := by
    unfold State.resetSurvey
    split
    · exact s.served.engineSets_abandonSurvey .reset
    · exact ⟨_, _, _, _, _, _, _, _, _, _, _, _, _, _, _, _, _, rfl⟩
  have adoption : s.served.resetSurvey.engineSets s.resetting := by
    rw [s.resetting_eq]
    unfold State.abandonAdoption
    split
    · exact ⟨_, _, _, _, _, _, _, _, _, _, _, _, _, _, _, _, _, rfl⟩
    · rename_i a _
      exact State.engineSets_trans
        (t := { s.served.resetSurvey.store (bankBase a.bank) bankEdit with adoption := none })
        ⟨_, _, _, _, _, _, _, _, _, _, _, _, _, _, _, _, _, rfl⟩
        (State.engineSets_trans (State.cueSets_outcome ..).engineSets (State.engineSets_raise _ _))
  exact State.engineSets_trans served (State.engineSets_trans survey adoption)

theorem State.engineSets_carryReset_settle (s : State) : s.engineSets s.carryReset.settle := by
  have units : s.resetting.engineSets s.carryReset := ⟨_, _, _, _, _, _, _, _, _, _, _, _, _, _, _, _, _, rfl⟩
  exact State.engineSets_trans s.engineSets_resetting (State.engineSets_trans units
    (State.cueSets_of_settlesTo (State.settlesTo_settle _)).engineSets)

/-- What can be read after an engine reset is what it ends, but for ROUTE_FULL (R128, R144). -/
theorem State.carryReset_settle_read (s : State) :
    (∀ w, s.carryReset.settle.word w = s.resetting.word w)
    ∧ (∀ n, n ≠ .routeFull → s.carryReset.settle.noticed n = s.resetting.noticed n)
    ∧ s.carryReset.settle.port.callResult = s.resetting.port.callResult
    ∧ s.carryReset.settle.port.resetRequest = s.resetting.port.resetRequest
    ∧ s.carryReset.settle.survey = s.resetting.survey ∧ s.carryReset.settle.adoption = s.resetting.adoption
    ∧ s.carryReset.settle.scenes = [] ∧ s.carryReset.settle.marks = { s.marks with resetHere := true }
    ∧ s.carryReset.settle.live = s.live ∧ s.carryReset.settle.zones = s.carryReset.zones := by
  obtain ⟨_, _, _, _, scenes, _, survey, adoption, marks, port, mem, _⟩ := s.carryReset_members
  obtain ⟨_, _, _, _, _, _, _, _, settled⟩ := s.carryReset.settlesTo_settle
  refine ⟨fun w => ?_, fun n full => ?_, ?_, ?_, by simpa using survey, by simpa using adoption, by simpa using scenes,
    by simpa using marks, by simp, by simp⟩
  · have same : s.carryReset.settle.mem = s.resetting.mem := by simpa using mem
    rw [State.word, same]
    rfl
  · rw [State.settle_noticed _ n full]
    exact State.noticed_congr port n
  · rw [settled, ← port]
  · rw [settled, ← port]

end Sys2Proof.Machine
end

section
/-! What a block start leaves to be read: the words below the meter buffers, the port, and the notices (O8, O42). -/

namespace Sys2Proof.Machine

/-! ### Reading what the later works leave -/

/-- What can be read of `t` is what can be read of `s`, but for the meter buffers and the notices `ns`. -/
structure ReadsAs (s t : State) (ns : List Notice) : Prop where
  word : ∀ w, w < 0x2C00 → t.word w = s.word w
  notices : noticesElse s t ns
  port : t.port = { s.port with notice := t.port.notice }

theorem ReadsAs.of_members {s t : State} (mem : t.mem = s.mem) (port : t.port = s.port) (ns : List Notice) :
    ReadsAs s t ns where
  word w _ := by
    rw [State.word, mem]
    rfl
  notices n _ := State.noticed_congr port n
  port := by rw [port]

theorem ReadsAs.trans {s t u : State} {ns : List Notice} (h : ReadsAs s t ns) (k : ReadsAs t u ns) : ReadsAs s u ns where
  word w low := (k.word w low).trans (h.word w low)
  notices n away := (k.notices n away).trans (h.notices n away)
  port := by
    rw [k.port, h.port]

theorem Memory.read_writeAll_away (cells : List (Nat × Word)) (b : Nat) (away : ∀ c ∈ cells, b ≠ c.1) :
    ∀ m : Memory, (m.writeAll cells).read b = m.read b := by
  induction cells with
  | nil => exact fun _ => rfl
  | cons c rest ih =>
    intro m
    refine (ih (fun d hd => away d (List.mem_cons_of_mem _ hd)) (m.write c.1 c.2)).trans ?_
    unfold Memory.write
    split
    · exact Memory.read_place_other m c.1 b c.2 (away c (List.mem_cons_self ..))
    · rfl

theorem bufferBase_high (b : MeterBuffer) : 0x2C00 ≤ bufferBase b := by cases b <;> decide

/-- The write of a captured snapshot goes to a meter buffer and raises METER (R182). -/
theorem State.snapshotWrite_reads (s : State) : ReadsAs s s.snapshotWrite [.meter] := by
  unfold State.snapshotWrite
  split
  · exact ReadsAs.of_members rfl rfl _
  · rename_i c _
    have high := bufferBase_high c.buffer
    refine ⟨fun w low => ?_, fun n away => ?_, rfl⟩
    · refine Memory.read_writeAll_away _ w (fun d hd => ?_) s.mem
      rcases List.mem_append.1 hd with body | last
      · obtain ⟨x, _, rfl⟩ := List.mem_map.1 body
        dsimp only
        omega
      · rw [List.mem_singleton.1 last]
        dsimp only
        omega
    · refine (State.raise_noticed _ _ n).trans ?_
      simp only [List.mem_singleton] at away
      rw [decide_eq_false (Ne.symm away)]
      rfl

/-- A snapshot time writes a buffer's state word alone (R181). -/
theorem State.snapshotTime_reads (s : State) : ReadsAs s s.snapshotTime [.meter] := by
  unfold State.snapshotTime
  split
  · unfold State.takeSnapshot
    dsimp only
    split
    · rename_i b _
      have high := bufferBase_high b
      exact ⟨fun w low => State.store_word_other _ _ w _ (by omega), fun n _ => rfl, rfl⟩
    · refine ReadsAs.of_members ?_ ?_ _ <;> rfl
  · exact ReadsAs.of_members rfl rfl _

theorem State.meterStep_reads (s : State) : ReadsAs s s.meterStep [.meter] := by
  have gathered : ReadsAs s s.gatherLoad [.meter] := ReadsAs.of_members (s := s) (t := s.gatherLoad) rfl rfl _
  let u := s.gatherLoad.snapshotWrite
  let v := u.withMeter { u.meter with periodCount := u.meter.periodCount + 1 }
  have counted : ReadsAs u v [.meter] := ReadsAs.of_members (s := u) (t := v) rfl rfl _
  exact gathered.trans ((s.gatherLoad.snapshotWrite_reads).trans (counted.trans (State.snapshotTime_reads _)))

theorem ReadsAs.weaken {s t : State} {ns ms : List Notice} (h : ReadsAs s t ns) (sub : ∀ n, n ∈ ns → n ∈ ms) :
    ReadsAs s t ms where
  word := h.word
  notices n away := h.notices n (fun here => away (sub n here))
  port := h.port

theorem State.serveRebuild_reads (s : State) : ReadsAs s s.serveRebuild [.routeFull] := by
  obtain ⟨_, _, _, _, _, _, _, _, served⟩ := s.settlesTo_serveRebuild
  refine ⟨fun w _ => ?_, fun n away => s.serveRebuild_noticed n (by simpa using away), ?_⟩
  · rw [served]
    rfl
  · rw [served]

/-- After the cues a block start writes the meter buffers alone, and raises ROUTE_FULL and METER alone. -/
theorem State.blockStart_reads (s : State) (r : BlockRaces) :
    ReadsAs (s.cued r) (s.blockStart r) [.routeFull, .meter] := by
  have followed : ReadsAs (s.cued r) (s.followed r).countNom [.routeFull, .meter] :=
    ReadsAs.of_members (by simp [State.followed]) (by simp [State.followed]) _
  have served := (State.serveRebuild_reads (s.followed r).countNom).weaken (ms := [.routeFull, .meter]) (by simp)
  have mixed : ReadsAs (s.followed r).countNom.serveRebuild (s.mixed r) [.routeFull, .meter] :=
    ReadsAs.of_members (by simp [State.mixed]) (by simp [State.mixed]) _
  have moved : ReadsAs (s.mixed r) (s.mixed r).motionSteps.grantFades.mutingEnd [.routeFull, .meter] :=
    ReadsAs.of_members (by simp) (by simp) _
  have metered := (State.meterStep_reads (s.mixed r).motionSteps.grantFades.mutingEnd).weaken
    (ms := [.routeFull, .meter]) (by simp)
  have opened : ReadsAs (s.mixed r).motionSteps.grantFades.mutingEnd.meterStep (s.blockStart r) [.routeFull, .meter] :=
    ReadsAs.of_members (by simp [State.blockStart_eq]) (by simp [State.blockStart_eq]) _
  exact followed.trans (served.trans (mixed.trans (moved.trans (metered.trans opened))))

/-! ### The notice of the gates and the request for a reset (R12, R154) -/

/-- `t` has the GATE notice and the request for a reset that `s` has. -/
def State.sameGateNotice (s t : State) : Prop :=
  t.noticed .gate = s.noticed .gate ∧ t.port.resetRequest = s.port.resetRequest

theorem State.sameGateNotice_trans {s t u : State} (h : s.sameGateNotice t) (k : t.sameGateNotice u) :
    s.sameGateNotice u := ⟨k.1.trans h.1, k.2.trans h.2⟩

theorem State.sameGateNotice_of_port {s t : State} (h : t.port = s.port) : s.sameGateNotice t :=
  ⟨State.noticed_congr h _, congrArg Port.resetRequest h⟩

theorem State.sameGateNotice_outcome (s : State) (o : Origin) (claim : Bool) (code : ResultCode) (detail : Nat) :
    s.sameGateNotice (s.outcome o claim code detail) :=
  ⟨s.outcome_noticed o claim code detail .gate (by decide) (by decide), s.outcome_resetRequest o claim code detail⟩

theorem State.sameGateNotice_raise (s : State) (n : Notice) (apart : n ≠ .gate) : s.sameGateNotice (s.raise n) := by
  refine ⟨?_, rfl⟩
  rw [State.raise_noticed, decide_eq_false apart]
  rfl

theorem State.sameGateNotice_doneClamped (s : State) (item : CueItem) (clamps : Nat) :
    s.sameGateNotice (s.doneClamped item clamps) := by
  rw [State.doneClamped_eq]
  exact s.sameGateNotice_outcome ..

theorem State.sameGateNotice_abandonSurvey (s : State) (code : ResultCode) : s.sameGateNotice (s.abandonSurvey code) :=
  State.sameGateNotice_trans (t := (s.storeAll (surveyEndHeader s.block 3)).withSurvey s.survey.discarded)
    (State.sameGateNotice_of_port rfl)
    (State.sameGateNotice_trans (State.sameGateNotice_outcome ..) (State.sameGateNotice_raise _ _ (by decide)))

theorem State.sameGateNotice_completeSurvey (s : State) : s.sameGateNotice s.completeSurvey := by
  unfold State.completeSurvey
  exact State.sameGateNotice_trans (State.sameGateNotice_of_port (by simp))
    (State.sameGateNotice_trans (State.sameGateNotice_outcome ..) (State.sameGateNotice_raise _ _ (by decide)))

/-- No cue raises or clears GATE, and none asks for a reset. -/
theorem State.sameGateNotice_applyItem (s : State) (item : CueItem) : s.sameGateNotice (s.applyItem item) := by
  have faulted : ∀ f, s.sameGateNotice (s.faulted item f) := fun _ => s.sameGateNotice_outcome ..
  have set : ∀ (u : State) (clamps : Nat), u.port = s.port → s.sameGateNotice (u.doneClamped item clamps) := fun u clamps port =>
    State.sameGateNotice_trans (State.sameGateNotice_of_port port) (State.sameGateNotice_doneClamped u item clamps)
  unfold State.applyItem
  split
  · unfold State.applySourceSet
    split
    · exact faulted _
    · exact set _ _ (by simp)
  · unfold State.applyZoneSet
    split
    · exact faulted _
    · exact set _ _ (by simp)
  · unfold State.applyScenePush
    split
    · exact faulted _
    · exact set _ _ (by simp)
  · unfold State.applyScenePop
    split
    · exact faulted _
    · unfold State.carryScenePop
      split
      · exact State.sameGateNotice_of_port rfl
      · exact State.sameGateNotice_trans (State.sameGateNotice_of_port (by simp)) (State.sameGateNotice_outcome ..)
  · unfold State.applySceneClear
    split
    · exact faulted _
    · exact State.sameGateNotice_trans (t := { s with scenes := [] }) (State.sameGateNotice_of_port rfl)
        (State.sameGateNotice_outcome ..)
  · unfold State.applyBankAdopt
    split
    · exact faulted _
    · unfold State.carryBankAdopt
      split <;> exact State.sameGateNotice_of_port rfl
  · unfold State.applySurveyStart
    split
    · exact faulted _
    · unfold State.carrySurveyStart
      split
      · exact State.sameGateNotice_of_port (by simp [State.beginSurvey])
      · exact State.sameGateNotice_of_port rfl
  · unfold State.applySurveyAbort
    split
    · exact faulted _
    · refine State.sameGateNotice_trans (t := s.stopProbe) (State.sameGateNotice_of_port (by simp))
        (State.sameGateNotice_trans (s.stopProbe.sameGateNotice_abandonSurvey .aborted) ?_)
      exact State.sameGateNotice_trans (t := (s.stopProbe.abandonSurvey .aborted).requestRebuild)
        (State.sameGateNotice_of_port rfl) (State.sameGateNotice_outcome ..)
  · exact faulted _

theorem State.sameGateNotice_applyTaken (s : State) : s.sameGateNotice s.applyTaken :=
  s.applyTaken_keeps (P := s.sameGateNotice) (State.sameGateNotice_of_port rfl)
    (fun t item h => State.sameGateNotice_trans h (t.sameGateNotice_applyItem item))

theorem State.sameGateNotice_advanceSurvey (s : State) : s.sameGateNotice s.advanceSurvey := by
  have rest : s.sameGateNotice s := State.sameGateNotice_of_port rfl
  unfold State.advanceSurvey
  split
  · unfold State.quietEnd
    split <;> exact State.sameGateNotice_of_port rfl
  · unfold State.settleEnd
    split <;> exact State.sameGateNotice_of_port rfl
  · unfold State.measureEnd
    (repeat' split) <;> first | exact s.sameGateNotice_completeSurvey | exact State.sameGateNotice_of_port rfl
  · unfold State.tailEnd
    split
    · exact s.sameGateNotice_completeSurvey
    · exact rest
  · exact rest
  · exact rest

theorem State.sameGateNotice_installBank (s : State) (a : Adoption) : s.sameGateNotice (s.installBank a) := by
  rw [s.installBank_eq]
  exact State.sameGateNotice_trans (t := s.switched a) (State.sameGateNotice_of_port (s.switched_members a).2.1)
    (State.sameGateNotice_trans (State.sameGateNotice_outcome ..) (State.sameGateNotice_raise _ _ (by decide)))

theorem State.sameGateNotice_installDue (s : State) : s.sameGateNotice s.installDue := by
  have rest : s.sameGateNotice s := State.sameGateNotice_of_port rfl
  unfold State.installDue
  split
  · exact rest
  · split
    · exact s.sameGateNotice_installBank _
    · exact rest

theorem State.sameGateNotice_bankReject (s : State) : s.sameGateNotice s.bankReject := by
  unfold State.bankReject
  split
  · exact State.sameGateNotice_of_port rfl
  · split
    · exact State.sameGateNotice_of_port rfl
    · unfold State.rejectBank
      exact State.sameGateNotice_trans (State.sameGateNotice_of_port (by simp))
        (State.sameGateNotice_trans (State.sameGateNotice_outcome ..) (State.sameGateNotice_raise _ _ (by decide)))

theorem State.sameGateNotice_bankOutcome (s : State) : s.sameGateNotice s.bankOutcome := by
  unfold State.bankOutcome
  split
  · exact State.sameGateNotice_trans s.sameGateNotice_installDue (State.sameGateNotice_of_port (by simp))
  · exact s.sameGateNotice_bankReject

/-- The evaluation of a block start finds GATE and the request as the ended block left them. -/
theorem State.sameGateNotice_evaluating (s : State) (r : BlockRaces) : s.ended.sameGateNotice (s.evaluating r) := by
  have advanced : s.ended.sameGateNotice (s.ended.advanced r) := by
    unfold State.advanced
    split
    · exact State.sameGateNotice_of_port rfl
    · exact s.ended.sameGateNotice_advanceSurvey
  unfold State.evaluating
  split
  · exact State.sameGateNotice_trans advanced (State.sameGateNotice_installDue _)
  · exact State.sameGateNotice_trans advanced (State.sameGateNotice_bankReject _)

/-- The cues of a block start leave GATE and the request as the boundary left them. -/
theorem State.sameGateNotice_cued (s : State) (r : BlockRaces) : (s.boundary r).sameGateNotice (s.cued r) := by
  have applied : (s.boundary r).sameGateNotice (s.boundary r).glide.applyTaken :=
    State.sameGateNotice_trans (State.sameGateNotice_of_port (by simp)) (State.sameGateNotice_applyTaken _)
  have advanced := State.sameGateNotice_trans applied (State.sameGateNotice_advanceSurvey _)
  unfold State.cued State.lateCompletion
  (repeat' split) <;> first | exact applied | exact advanced

theorem State.sameGateNotice_blockStart (s : State) (r : BlockRaces) :
    (s.boundary r).sameGateNotice (s.blockStart r) := by
  have reads := s.blockStart_reads r
  refine State.sameGateNotice_trans (s.sameGateNotice_cued r) ⟨reads.notices .gate (by decide), ?_⟩
  rw [reads.port]

end Sys2Proof.Machine
end

section
/-! The boundary of a block start and what its cues find (O8, O42). -/

namespace Sys2Proof.Machine

/-! ### The boundary, with and without an engine reset -/

/-- The state that the engine reset of a block start finds: the works that are taken ahead of it (R128, R144). -/
def State.resetFrom (s : State) (r : BlockRaces) : State :=
  if r.completionBeforeReset then (if r.bankBeforeReset then s.ended.bankOutcome else s.ended).advanceSurvey
  else if r.bankBeforeReset then s.ended.bankOutcome else s.ended

theorem State.boundary_of_reset (s : State) (r : BlockRaces) (asked : s.port.resetRequest = true) :
    s.boundary r = (s.resetFrom r).carryReset := by
  rw [s.boundary_reset r asked]
  rfl

/-- What the works of a boundary leave of a block's start. -/
def State.sameBlock (s t : State) : Prop :=
  t.block = s.block ∧ t.outIndex = s.outIndex ∧ t.takeList = s.takeList ∧ t.linkA = s.linkA ∧ t.linkB = s.linkB
  ∧ t.outSlots = s.outSlots ∧ t.meter = s.meter

theorem State.sameBlock_trans {s t u : State} (h : s.sameBlock t) (k : t.sameBlock u) : s.sameBlock u := by
  unfold State.sameBlock at *
  simp_all

theorem State.sameBlock_bankOutcome (s : State) : s.sameBlock s.bankOutcome := by
  unfold State.sameBlock State.bankOutcome
  split <;> simp

theorem State.sameBlock_resetFrom (s : State) (r : BlockRaces) : s.ended.sameBlock (s.resetFrom r) := by
  have rest : s.ended.sameBlock s.ended := ⟨rfl, rfl, rfl, rfl, rfl, rfl, rfl⟩
  have surveyed : ∀ u : State, u.sameBlock u.advanceSurvey := fun u => by simp [State.sameBlock]
  have outcome := s.ended.sameBlock_bankOutcome
  unfold State.resetFrom
  (repeat' split) <;> first
    | exact State.sameBlock_trans outcome (surveyed _)
    | exact State.sameBlock_trans rest (surveyed _)
    | exact outcome
    | exact rest

theorem State.sameBlock_boundary (s : State) (r : BlockRaces) : s.ended.sameBlock (s.boundary r) := by
  cases asked : s.port.resetRequest with
  | true =>
    rw [s.boundary_of_reset r asked]
    exact State.sameBlock_trans (s.sameBlock_resetFrom r) (by simp [State.sameBlock])
  | false =>
    rw [s.boundary_plain r asked, State.plainBoundary_eq]
    refine State.sameBlock_trans (t := s.ended.advanced r) ?_ ?_
    · unfold State.advanced
      split <;> simp [State.sameBlock]
    · split <;> simp [State.sameBlock]

theorem State.cued_members (s : State) (r : BlockRaces) :
    (s.cued r).block = (s.boundary r).block ∧ (s.cued r).outIndex = (s.boundary r).outIndex
    ∧ (s.cued r).linkA = (s.boundary r).linkA ∧ (s.cued r).linkB = (s.boundary r).linkB
    ∧ (s.cued r).outSlots = (s.boundary r).outSlots ∧ (s.cued r).meter = (s.boundary r).meter := by
  unfold State.cued State.lateCompletion
  (repeat' split) <;> simp

theorem State.applyTaken_takeList (s : State) : s.applyTaken.takeList = [] :=
  s.applyTaken_keeps (P := fun t => t.takeList = []) rfl (fun t item h => by simpa using h)

theorem State.cued_takeList (s : State) (r : BlockRaces) : (s.cued r).takeList = [] := by
  unfold State.cued State.lateCompletion
  (repeat' split) <;> simp [State.applyTaken_takeList]

/-! ### The block that begins (R7, R8, R31, R163, R164) -/

theorem State.ended_block (s : State) :
    s.ended.block = s.block + 1 ∧ s.ended.outIndex = 0 ∧ s.ended.outSlots = s.outSlots := by
  simp [State.ended, State.nextBlock, State.finishSweep]

/-- A boundary without a reset: the evaluation, and the reload of a switch-over. -/
theorem State.boundary_evaluated (s : State) (r : BlockRaces) (plain : s.port.resetRequest = false) :
    s.boundary r = if (s.ended.advanced r).switchDue then (s.evaluating r).evaluateGates.reloadMix
      else (s.evaluating r).evaluateGates := by
  rw [s.boundary_plain r plain, State.plainBoundary_eq]
  unfold State.evaluating
  split <;> rfl

/-- The evaluation raises GATE alone, where a gate enters or leaves LOST (R12). -/
theorem State.evaluateGates_port (s : State) : s.evaluateGates.port = (s.raiseIf s.gateChangesLost .gate).port := by
  simp [State.evaluateGates]

theorem State.boundary_port (s : State) (r : BlockRaces) (plain : s.port.resetRequest = false) :
    (s.boundary r).port = ((s.evaluating r).raiseIf (s.evaluating r).gateChangesLost .gate).port := by
  rw [s.boundary_evaluated r plain, ← State.evaluateGates_port]
  split <;> simp

/-- The boundary serves any request for a reset (R154, R156). -/
theorem State.boundary_resetRequest (s : State) (r : BlockRaces) : (s.boundary r).port.resetRequest = false := by
  cases asked : s.port.resetRequest with
  | true =>
    obtain ⟨_, _, _, _, _, _, _, _, _, port, _⟩ := (s.resetFrom r).carryReset_members
    rw [s.boundary_of_reset r asked, port]
    exact State.resetting_resetRequest _
  | false =>
    rw [s.boundary_port r asked, State.raiseIf_resetRequest, (s.sameGateNotice_evaluating r).2, s.ended_resetRequest]
    exact asked

/-- A gate that enters or leaves LOST raises GATE, and the notice stands (R12). -/
theorem State.blockStart_raises_gate (s : State) (r : BlockRaces) (plain : s.port.resetRequest = false) (i : Fin 16)
    (changes : ((s.source i).gate == .lost) ≠ s.lostBlock i) : (s.blockStart r).noticed .gate = true := by
  have changed : (s.evaluating r).gateChangesLost = true := by
    obtain ⟨count, source⟩ := s.evaluating_source r i
    refine List.any_eq_true.2 ⟨i, List.mem_finRange i, ?_⟩
    rw [source, s.evaluating_lostBlock]
    simpa using changes
  rw [(s.sameGateNotice_blockStart r).1, State.noticed_congr (s.boundary_port r plain), State.raiseIf_noticed, changed]
  rfl

theorem State.blockStart_begins (s : State) (r : BlockRaces) :
    (s.blockStart r).block = s.block + 1 ∧ (s.blockStart r).outIndex = 0 ∧ (s.blockStart r).takeList = []
    ∧ (s.blockStart r).sweepPos = 0 ∧ (s.blockStart r).outSlots = s.outSlots
    ∧ (s.blockStart r).linkA = { s.linkA with lostInBlock := s.linkA.lost }
    ∧ (s.blockStart r).linkB = { s.linkB with lostInBlock := s.linkB.lost }
    ∧ (s.blockStart r).hold
      = (if (s.blockStart r).port.holdIntake then .takeNone
          else if (s.blockStart r).survey.phase = .idle then .takeAll else .abortOnly) := by
  obtain ⟨_, _, _, _, _, _, _, _, _, block, outIndex, takeList, outSlots⟩ := s.blockStart_of_mixed r
  obtain ⟨cuedBlock, cuedIndex, cuedA, cuedB, cuedSlots, _⟩ := s.cued_members r
  obtain ⟨sameBlock, sameIndex, _, sameA, sameB, sameSlots, _⟩ := s.sameBlock_boundary r
  obtain ⟨endedBlock, endedIndex, endedSlots⟩ := s.ended_block
  obtain ⟨_, endedA, endedB, _⟩ := s.ended_members
  refine ⟨?_, ?_, ?_, rfl, ?_, ?_, ?_, rfl⟩
  · rw [block, ← endedBlock, ← sameBlock, ← cuedBlock]
    simp [State.mixed, State.followed]
  · rw [outIndex, ← endedIndex, ← sameIndex, ← cuedIndex]
    simp [State.mixed, State.followed]
  · rw [takeList, ← s.cued_takeList r]
    simp [State.mixed, State.followed]
  · rw [outSlots, ← endedSlots, ← sameSlots, ← cuedSlots]
    simp [State.mixed, State.followed]
  · have link : (s.blockStart r).linkA = (s.cued r).linkA.beginBlock := by
      rw [s.blockStart_eq]
      simp [State.openBlock, State.decideHold, State.mixed, State.followed]
    rw [link, cuedA, sameA, endedA]
    rfl
  · have link : (s.blockStart r).linkB = (s.cued r).linkB.beginBlock := by
      rw [s.blockStart_eq]
      simp [State.openBlock, State.decideHold, State.mixed, State.followed]
    rw [link, cuedB, sameB, endedB]
    rfl

theorem State.snapshotTime_lastLevels (s : State) : s.snapshotTime.meter.lastLevels = s.meter.lastLevels := by
  unfold State.snapshotTime State.takeSnapshot
  dsimp only
  (repeat' split) <;> rfl

theorem State.meterStep_lastLevels (s : State) : s.meterStep.meter.lastLevels = s.meter.lastLevels := by
  refine (State.snapshotTime_lastLevels _).trans ?_
  unfold State.snapshotWrite
  split <;> rfl

/-- The levels handed on after a block start are those of the ended block (R7). -/
theorem State.blockStart_lastLevels (s : State) (r : BlockRaces) (i : Fin 16) :
    (s.blockStart r).meter.lastLevels[i.val]? = some (s.source i).level := by
  obtain ⟨_, _, _, _, _, meter⟩ := s.cued_members r
  obtain ⟨_, _, _, _, _, _, sameMeter⟩ := s.sameBlock_boundary r
  have levels : (s.blockStart r).meter.lastLevels = s.ended.meter.lastLevels := by
    have opened : (s.blockStart r).meter = (s.mixed r).motionSteps.grantFades.mutingEnd.meterStep.meter := by
      rw [s.blockStart_eq]
      simp
    rw [← sameMeter, ← meter, opened, State.meterStep_lastLevels]
    simp [State.mixed, State.followed]
  have handed : s.ended.meter.lastLevels = allSources.map (fun i => (s.finishSweep.source i).level) :=
    s.finishSweep.endBlock_lastLevels
  rw [levels, handed]
  have same : s.finishSweep.source i = s.source i := State.source_congr (by simp [State.finishSweep]) i
  simp [allSources, same]

/-! ### A gate lost and a gate that is not (R12, R18) -/

/-- A step that has settled passes the arbiter (R14). -/
theorem State.evaluatedGate_settled (s : State) {i : Fin 16} {g : GateState} (step : stepAt s.gateSteps i = .settled g) :
    s.evaluatedGate i = (g, 0) := by
  have placed : s.placedStep i = .settled g := by
    unfold State.placedStep arbitrated
    rw [step]
  rw [State.evaluatedGate_eq, settledGate, stepAt_map, placed]

/-- No gate whose block was not lost is evaluated to LOST (R12). -/
theorem State.evaluatedGate_unlost (s : State) {i : Fin 16} (heard : s.lostBlock i = false) :
    (s.evaluatedGate i).1 ≠ .lost := by
  have own : stepAt s.gateSteps i ≠ .settled .lost := by
    rw [State.gateSteps, stepAt_map, heard]
    unfold Source.gateStep
    split
    · rename_i lost
      cases lost
    · split
      · nofun
      · split
        · rename_i forced
          intro settled
          cases settled
          cases mode : (s.source i).mix.force <;> rw [mode] at forced <;> cases forced
        · split
          · nofun
          · unfold Source.autoStep
            dsimp only
            (repeat' split) <;> nofun
  have placed : s.placedStep i ≠ .settled .lost := by
    rcases arbitrated_cases s.paramsInForce.maxOpen s.gateSteps s.levelOfSource i with e | e | e
    · exact fun h => own (e.symm.trans h)
    · exact fun h => by cases e.symm.trans h
    · exact fun h => by cases e.symm.trans h
  rw [State.evaluatedGate_eq, settledGate, stepAt_map]
  split
  · rename_i g step
    exact fun lost => placed (step.trans (congrArg GateStep.settled lost))
  all_goals (try split) <;> nofun

theorem forcedGate_lost_iff (mode : ForceMode) (g : GateState) : forcedGate mode g = .lost ↔ g = .lost := by
  cases mode <;> cases g <;> simp [forcedGate]

theorem State.forcedAt_lost_iff (s : State) (r : BlockRaces) (i : Fin 16) :
    s.forcedAt r i = .lost ↔ ((s.evaluating r).evaluatedGate i).1 = .lost := by
  unfold State.forcedAt
  split
  · exact Iff.rfl
  · exact forcedGate_lost_iff _ _

/-- The gate of a source whose block was lost, after a block start without a reset (R12). -/
theorem State.blockStart_lost (s : State) (r : BlockRaces) (plain : s.port.resetRequest = false) (i : Fin 16)
    (lost : s.lostBlock i = true) :
    ((s.blockStart r).source i).gate = .lost ∧ ((s.blockStart r).source i).holdCount = 0
    ∧ ((s.blockStart r).source i).floor = none ∧ ((s.blockStart r).source i).rise = 0 := by
  have here : (s.evaluating r).lostBlock i = true := (s.evaluating_lostBlock r i).trans lost
  have step : stepAt (s.evaluating r).gateSteps i = .settled .lost := by
    rw [State.gateSteps, stepAt_map, here]
    rfl
  have evaluated := State.evaluatedGate_settled _ step
  have forced : s.forcedAt r i = .lost := (s.forcedAt_lost_iff r i).2 (by rw [evaluated])
  obtain ⟨floor, rise, gate, count⟩ := s.source_blockStart r plain i
  have source := (s.evaluating r).source_evaluateGates i
  rw [if_pos here] at source
  rw [source] at floor rise
  rw [forced] at gate count
  exact ⟨gate.trans (if_neg (by simp)), count.trans (if_neg (by simp)), floor, rise⟩

/-- Where a block start leaves the part in NO_BANK, its force modes are those of the ended block (R17, R18). -/
theorem State.blockStart_force_noBank (s : State) (r : BlockRaces) (plain : s.port.resetRequest = false)
    (stopped : (s.blockStart r).live = none) (i : Fin 16) :
    ((s.blockStart r).source i).mix.force = (s.source i).mix.force := by
  have live : (s.boundary r).live = none := (s.blockStart_live r).symm.trans stopped
  have cued : (s.cued r).sources = (s.boundary r).sources := by
    have applied := State.applyTaken_noBank (s.boundary r).glide (by simpa using live)
    unfold State.cued
    split <;> simpa using applied
  have boundary : (s.boundary r).forceMode i = (s.source i).mix.force :=
    (Kept.forces_of_noBank s.ended r live i).trans (s.evaluatedForces_plain r plain i)
  rw [State.source_congr (s.blockStart_of_followed r).1, State.followed,
    State.source_releaseLast _ (State.followForces_length _ _)]
  have followed : (((s.cued r).followForces (s.ended.evaluatedForces (s.boundary r))).source i).mix.force
      = (s.boundary r).forceMode i := by
    rw [State.source_followForces, (Source.followForce_spec _ _).1, State.source_congr cued]
    rfl
  rw [← boundary, ← followed]
  split <;> rfl

/-- The gate and the floor of a source whose block was not lost, after a block start without a reset (R9, R12, R18). -/
theorem State.blockStart_heard (s : State) (r : BlockRaces) (plain : s.port.resetRequest = false) (i : Fin 16)
    (heard : s.lostBlock i = false) :
    ((s.blockStart r).source i).gate ≠ .lost
    ∧ ((s.blockStart r).running = false → ((s.blockStart r).source i).gate = .closed)
    ∧ ((s.blockStart r).source i).floor = ((s.source i).updateFloor (s.source i).level).floor
    ∧ ((s.blockStart r).source i).rise = ((s.source i).updateFloor (s.source i).level).rise := by
  have here : (s.evaluating r).lostBlock i = false := (s.evaluating_lostBlock r i).trans heard
  obtain ⟨floor, rise, gate, _⟩ := s.source_blockStart r plain i
  refine ⟨?_, fun stopped => ?_, ?_⟩
  · rw [gate]
    split
    · nofun
    · exact fun lost => State.evaluatedGate_unlost _ here ((s.forcedAt_lost_iff r i).1 lost)
  · have live : (s.blockStart r).live = none := by simpa [State.running] using stopped
    have copy : (s.evaluating r).adopted = none := by
      rw [← s.blockStart_adopted r plain, State.adopted, live]
      rfl
    have step : stepAt (s.evaluating r).gateSteps i = .settled .closed := by
      rw [State.gateSteps, stepAt_map, here, State.evalParams, copy]
      rfl
    have forced : s.forcedAt r i = .closed := by
      unfold State.forcedAt
      rw [if_pos (s.blockStart_force_noBank r plain live i), State.evaluatedGate_settled _ step]
    rw [gate, forced]
    exact if_neg (by simp)
  · obtain ⟨count, source⟩ := s.evaluating_source r i
    have evaluated := (s.evaluating r).source_evaluateGates i
    rw [here, if_neg (by simp), s.evaluating_level, source] at evaluated
    rw [floor, rise, evaluated]
    unfold Source.updateFloor Source.withGate Source.riseFloor
    dsimp only
    (repeat' split) <;> exact ⟨rfl, rfl⟩

end Sys2Proof.Machine
end

section
/-! BLOCK_START: the copy in force, the mix that its cues find and what they make of it (O8). -/

namespace Sys2Proof.Machine

/-! ### The copy in force at the boundary (R140, R141, R144) -/

theorem State.bankOutcome_adopted_due {s : State} {a : Adoption} (adopting : s.adoption = some a)
    (due : s.switchDue = true) : s.bankOutcome.adopted = some (bankOf a.staging) := by
  rw [← (State.installDue_of_due adopting due).1]
  unfold State.bankOutcome
  rw [if_pos due]
  simp [State.adopted]

theorem State.bankOutcome_adopted_undue {s : State} (undue : s.switchDue = false) :
    s.bankOutcome.adopted = s.adopted := by
  unfold State.bankOutcome
  rw [undue]
  simp [State.adopted]

/-- A switch-over is due at the end of the block that has validated the last part (R140). -/
theorem State.ended_switchDue (s : State) (runs : s.adoptionRuns) :
    s.ended.switchDue = s.adoption.any (fun a => a.part == 7 && (a.examined s.mem).illegal.isNone) := by
  unfold State.switchDue
  rw [s.ended_adoption runs]
  cases s.adoption with
  | none => rfl
  | some a => simp

/-- The reset of a block start reloads from the copy in force (R144). -/
theorem State.resetFrom_adopted (s : State) (r : BlockRaces) (asked : s.port.resetRequest = true)
    (runs : s.adoptionRuns) : (s.resetFrom r).adopted = s.copyInForce r := by
  have before : s.ended.adopted = s.adopted := by
    rw [State.adopted, s.ended_live]
    rfl
  have banked : (if r.bankBeforeReset then s.ended.bankOutcome else s.ended).adopted = s.copyInForce r := by
    have due := s.ended_switchDue runs
    unfold State.copyInForce State.switchesAt
    cases adopting : s.adoption with
    | none =>
      rw [adopting] at due
      split
      · exact (State.bankOutcome_adopted_undue due).trans before
      · exact before
    | some a =>
      have next : s.ended.adoption = some { a.examined s.mem with part := a.part + 1 } := by
        rw [s.ended_adoption runs, adopting]
        rfl
      rw [adopting, Option.any_some] at due
      rw [asked]
      dsimp only
      cases first : r.bankBeforeReset with
      | false => simpa using before
      | true =>
        by_cases complete : (a.part == 7 && (a.examined s.mem).illegal.isNone) = true
        · rw [complete] at due
          simpa [complete] using State.bankOutcome_adopted_due next due
        · rw [Bool.not_eq_true] at complete
          rw [complete] at due
          simpa [complete] using (State.bankOutcome_adopted_undue due).trans before
  rw [← banked]
  unfold State.resetFrom
  split
  · simp [State.adopted]
  · rfl

/-- The copy in force while the cues of a block start are applied (R141). -/
theorem State.boundary_adopted (s : State) (r : BlockRaces) (runs : s.adoptionRuns) :
    (s.boundary r).adopted = s.copyInForce r := by
  cases asked : s.port.resetRequest with
  | true =>
    rw [← s.resetFrom_adopted r asked runs, s.boundary_of_reset r asked, State.adopted,
      (State.carryReset_members _).1]
    rfl
  | false =>
    rw [← s.evaluating_adopted r asked runs, s.boundary_evaluated r asked]
    split <;> simp [State.adopted]

/-! ### The mix that the cues find (R112, R141, R156) -/

theorem State.ended_zone_mix (s : State) (z : Fin 24) : (s.ended.zone z).mix = (s.zone z).mix := by
  have before : (s.finishSweep.zone z) = s.zone z := State.zone_congr (by simp [State.finishSweep]) z
  have zones : s.ended.zones = (if s.finishSweep.measureLevels.port.resetRequest
      then s.finishSweep.measureLevels.mapZones (fun _ x => x.discardSum)
      else s.finishSweep.measureLevels.mapZones s.finishSweep.measureLevels.zoneEnd).zones := by
    simp [State.ended, State.nextBlock, State.endBlock, State.validate, State.endZones]
  rw [State.zone_congr zones, ← before]
  split <;> rw [State.zone_mapZones] <;> rfl

theorem State.evaluating_zones (s : State) (r : BlockRaces) : (s.evaluating r).zones = s.ended.zones := by
  obtain ⟨_, _, _, _, _, _, _, zones, _⟩ := s.ended.advanced_members r
  unfold State.evaluating
  split <;> simp [zones]

/-- The mix and the position of a source as the cues of a block start find them. -/
theorem State.boundary_mix (s : State) (r : BlockRaces) (b : Bank) (runs : s.adoptionRuns)
    (copy : s.copyInForce r = some b) (i : Fin 16) :
    let reloaded := s.port.resetRequest || s.switchesAt r
    ((s.boundary r).source i).mix = (if reloaded then (b.sourceRow i).mix else (s.source i).mix)
    ∧ ((s.boundary r).source i).pos = (if reloaded then (b.sourceRow i).pos else (s.source i).pos) := by
  dsimp only
  cases asked : s.port.resetRequest with
  | true =>
    rw [s.boundary_of_reset r asked, State.carryReset_source, s.resetFrom_adopted r asked runs, copy]
    exact ⟨rfl, rfl⟩
  | false =>
    obtain ⟨count, found⟩ := s.evaluating_source r i
    obtain ⟨floor, rise, evaluated⟩ := (s.evaluating r).evaluateGates_rest i
    rw [s.boundary_evaluated r asked, s.switchDue_advanced r asked runs, Bool.false_or]
    by_cases switches : s.switchesAt r = true
    · have live : (s.evaluating r).evaluateGates.adopted = some b := by
        rw [← copy, ← s.evaluating_adopted r asked runs]
        simp [State.adopted]
      rw [if_pos switches, (State.reloadMix_parts _ b live).1 i]
      exact ⟨(if_pos switches).symm, (if_pos switches).symm⟩
    · rw [if_neg switches, evaluated, found]
      exact ⟨(if_neg switches).symm, (if_neg switches).symm⟩

theorem State.boundary_zoneMix (s : State) (r : BlockRaces) (b : Bank) (runs : s.adoptionRuns)
    (copy : s.copyInForce r = some b) (z : Fin 24) :
    ((s.boundary r).zone z).mix
      = if (s.port.resetRequest || s.switchesAt r) then (b.zoneRow z).mix else (s.zone z).mix := by
  cases asked : s.port.resetRequest with
  | true =>
    rw [s.boundary_of_reset r asked, State.carryReset_zone, s.resetFrom_adopted r asked runs, copy]
    rfl
  | false =>
    have found : ((s.evaluating r).evaluateGates.zone z).mix = (s.zone z).mix := by
      rw [← s.ended_zone_mix z, State.zone_congr (s := s.ended) (by simp [s.evaluating_zones])]
    rw [s.boundary_evaluated r asked, s.switchDue_advanced r asked runs, Bool.false_or]
    by_cases switches : s.switchesAt r = true
    · have live : (s.evaluating r).evaluateGates.adopted = some b := by
        rw [← copy, ← s.evaluating_adopted r asked runs]
        simp [State.adopted]
      rw [if_pos switches, if_pos switches, (State.reloadMix_parts _ b live).2.1 z]
    · rw [if_neg switches, if_neg switches]
      exact found

/-! ### What the cues make of the mix (R166, R168, R169) -/

/-- A body of a SOURCE_SET or ZONE_SET that passes the checks of R167. -/
def mixBody (body : List Word) : Prop :=
  bodyWord body 1 = 1 ∧ (present body 2 = true → (bodyWord body 11).toNat ≤ 2) ∧ bodyWord body 7 ≠ 0
  ∨ bodyWord body 1 = 2 ∧ (present body 9 = true → (bodyWord body 19).toNat ≤ 3)
    ∧ (bodyWord body 7 ≠ 0 ∨ (bodyWord body 8).toNat % 256 ≠ 0)

/-- A source that a body sets. -/
abbrev setsSource (body : List Word) (i : Fin 16) : Prop := bodyWord body 1 = 1 ∧ namesSource (bodyWord body 7) i = true

/-- A zone that a body sets. -/
abbrev setsZone (body : List Word) (z : Fin 24) : Prop :=
  bodyWord body 1 = 2 ∧ namesZone (bodyWord body 7) (bodyWord body 8) z = true

/-- `t` is `u` with the mix that a body sets. -/
def mixTakes (u t : State) (body : List Word) : Prop :=
  (∀ i, (t.source i).mix = (if setsSource body i then applySourceFields body (u.source i).mix else (u.source i).mix)
    ∧ (t.source i).pos = (if setsSource body i then applyPosition body (u.source i).pos else (u.source i).pos))
  ∧ ∀ z, (t.zone z).mix = (if setsZone body z then applyZoneFields body (u.zone z).mix else (u.zone z).mix)

theorem State.mixTakes_source {u : State} {item : CueItem} {body : List Word} (running : u.running = true)
    (read : item.body = some body) (kind : bodyWord body 1 = 1)
    (legal : present body 2 = true → (bodyWord body 11).toNat ≤ 2) (named : bodyWord body 7 ≠ 0) :
    mixTakes u (u.applyItem item) body := by
  have whole : cueBody item = body := by
    unfold cueBody
    rw [read]
    rfl
  have passed : u.sourceSetFault item = none :=
    (checkedBody_none _ _).2 ⟨body, read, by simp [running, badForce_eq_false legal, namedSources_nonempty named]⟩
  have applied : u.applyItem item = u.carrySourceSet item := by
    unfold State.applyItem kindOf
    rw [whole, kind]
    show u.applySourceSet item = _
    unfold State.applySourceSet
    rw [passed]
  have takes := u.takesSources_setSources body (bodyWord body 7)
  rw [applied]
  unfold State.carrySourceSet
  rw [whole]
  refine ⟨fun i => ?_, fun z => ?_⟩
  · rw [State.source_congr (s := u.setSources body (bodyWord body 7)) (by simp), takes.sources]
    simp only [setsSource, kind, true_and]
    exact ⟨rfl, rfl⟩
  · rw [State.zone_congr (s := u) (by simp), if_neg (by simp [setsZone, kind])]

theorem State.mixTakes_zone {u : State} {item : CueItem} {body : List Word} (running : u.running = true)
    (read : item.body = some body) (kind : bodyWord body 1 = 2)
    (legal : present body 9 = true → (bodyWord body 19).toNat ≤ 3)
    (named : bodyWord body 7 ≠ 0 ∨ (bodyWord body 8).toNat % 256 ≠ 0) : mixTakes u (u.applyItem item) body := by
  have whole : cueBody item = body := by
    unfold cueBody
    rw [read]
    rfl
  have passed : u.zoneSetFault item = none :=
    (checkedBody_none _ _).2 ⟨body, read, by simp [running, badDuck_eq_false legal, namedZones_nonempty named]⟩
  have applied : u.applyItem item = u.carryZoneSet item := by
    unfold State.applyItem kindOf
    rw [whole, kind]
    show u.applyZoneSet item = _
    unfold State.applyZoneSet
    rw [passed]
  rw [applied]
  unfold State.carryZoneSet
  rw [whole]
  refine ⟨fun i => ?_, fun z => ?_⟩
  · rw [State.source_congr (s := u) (by simp), if_neg (by simp [setsSource, kind]), if_neg (by simp [setsSource, kind])]
    exact ⟨rfl, rfl⟩
  · rw [State.zone_congr (s := u.setZones body (bodyWord body 7) (bodyWord body 8)) (by simp)]
    unfold State.setZones
    rw [State.zone_mapZones]
    simp only [setsZone, kind, true_and]
    split <;> rfl

theorem State.mixTakes_applyItem {u : State} {item : CueItem} {body : List Word} (running : u.running = true)
    (read : item.body = some body) (legal : mixBody body) : mixTakes u (u.applyItem item) body := by
  rcases legal with ⟨kind, force, named⟩ | ⟨kind, duck, named⟩
  · exact State.mixTakes_source running read kind force named
  · exact State.mixTakes_zone running read kind duck named

/-- The cues of a take list one after another: of several changes of one field the last stands (R166). -/
theorem State.foldl_applyItem_mix (items : List CueItem)
    (legal : ∀ item ∈ items, ∃ body, item.body = some body ∧ mixBody body) :
    ∀ u : State, u.running = true →
      (∀ i, ((items.foldl State.applyItem u).source i).mix = (items.filterMap (·.body)).foldl
            (fun m body => if setsSource body i then applySourceFields body m else m) (u.source i).mix
        ∧ ((items.foldl State.applyItem u).source i).pos = (items.filterMap (·.body)).foldl
            (fun p body => if setsSource body i then applyPosition body p else p) (u.source i).pos)
      ∧ ∀ z, ((items.foldl State.applyItem u).zone z).mix = (items.filterMap (·.body)).foldl
            (fun m body => if setsZone body z then applyZoneFields body m else m) (u.zone z).mix := by
  induction items with
  | nil => exact fun u _ => ⟨fun i => ⟨rfl, rfl⟩, fun z => rfl⟩
  | cons item items ih =>
    intro u running
    obtain ⟨body, read, legalBody⟩ := legal item (List.mem_cons_self ..)
    obtain ⟨sources, zones⟩ := State.mixTakes_applyItem running read legalBody
    have still : (u.applyItem item).running = true := by simpa [State.running] using running
    obtain ⟨restSources, restZones⟩ := ih (fun x hx => legal x (List.mem_cons_of_mem _ hx)) _ still
    have bodies : (item :: items).filterMap (·.body) = body :: items.filterMap (·.body) := by
      rw [List.filterMap_cons, read]
    rw [bodies]
    simp only [List.foldl_cons]
    refine ⟨fun i => ⟨?_, ?_⟩, fun z => ?_⟩
    · rw [(restSources i).1, (sources i).1]
    · rw [(restSources i).2, (sources i).2]
    · rw [restZones, zones]

/-- Nothing after the cues of a block start changes the mix. -/
theorem State.blockStart_mix (s : State) (r : BlockRaces) (i : Fin 16) :
    ((s.blockStart r).source i).mix = ((s.boundary r).glide.applyTaken.source i).mix
    ∧ ((s.blockStart r).source i).pos = ((s.boundary r).glide.applyTaken.source i).pos := by
  have cued : (s.cued r).sources = (s.boundary r).glide.applyTaken.sources := by
    unfold State.cued State.lateCompletion
    (repeat' split) <;> simp
  obtain ⟨mix, pos, _⟩ := Source.followForce_spec ((s.cued r).source i) (s.ended.evaluatedForces (s.boundary r) i)
  rw [State.source_congr (s.blockStart_of_followed r).1, State.followed,
    State.source_releaseLast _ (State.followForces_length _ _), State.source_followForces, ← State.source_congr cued]
  split <;> exact ⟨mix, pos⟩

theorem State.blockStart_zones (s : State) (r : BlockRaces) :
    (s.blockStart r).zones = (s.boundary r).glide.applyTaken.zones := by
  have cued : (s.cued r).zones = (s.boundary r).glide.applyTaken.zones := by
    unfold State.cued State.lateCompletion
    (repeat' split) <;> simp
  rw [(s.blockStart_of_followed r).2.1, ← cued]
  simp [State.followed]

theorem State.boundary_takeList (s : State) (r : BlockRaces) (swept : s.sweepPos = 33) :
    (s.boundary r).takeList = s.takeList := by
  obtain ⟨_, _, takeList, _⟩ := s.sameBlock_boundary r
  have done : s.finishSweep = s := by
    unfold State.finishSweep
    rw [swept]
    rfl
  obtain ⟨_, _, _, _, ended, _⟩ := s.ended_members
  rw [takeList, ended, done]

/-- The floor by the statement's table (R9). -/
theorem Source.updateFloor_table (x : Source) (level : Int) :
    (x.floor = none → (x.updateFloor level).floor = some (max (-192) (min (-24) level)) ∧ (x.updateFloor level).rise = 0)
    ∧ ∀ v, x.floor = some v →
        (level < v → (x.updateFloor level).floor = some level ∧ (x.updateFloor level).rise = 0)
        ∧ (v ≤ level → x.rise < 255 → (x.updateFloor level).floor = some v ∧ (x.updateFloor level).rise = x.rise + 1)
        ∧ (v ≤ level → 255 ≤ x.rise →
            (x.updateFloor level).floor = some (if v < -24 then v + 1 else v) ∧ (x.updateFloor level).rise = 0) := by
  unfold Source.updateFloor
  refine ⟨fun unset => ?_, fun v floor => ⟨fun below => ?_, fun above small => ?_, fun above due => ?_⟩⟩
  · rw [unset]
    refine ⟨congrArg some ?_, rfl⟩
    unfold clampInt
    (repeat' split) <;> omega
  · rw [floor]
    dsimp only
    rw [if_pos below]
    exact ⟨rfl, rfl⟩
  · rw [floor]
    dsimp only
    rw [if_neg (by omega), if_neg (by omega)]
    exact ⟨rfl, rfl⟩
  · rw [floor]
    dsimp only
    rw [if_neg (by omega), if_pos (by omega)]
    unfold Source.riseFloor
    rw [floor]
    exact ⟨rfl, rfl⟩

/-- Settles O8: the block that begins, gates lost and heard, and the cues over the mix that they find. -/
theorem blockStartBeginsBlock : Obligations.BlockStartBeginsBlock := by
  refine ⟨fun r s => ?_, fun r s i plain lost => ?_, fun r s i plain heard => ?_,
    fun r s b runs copy swept legal => ?_, sourceFields_byTable, zoneFields_byTable⟩
  · obtain ⟨block, outIndex, takeList, sweep, outSlots, linkA, linkB, hold⟩ := s.blockStart_begins r
    exact ⟨_, rfl, block, outIndex, takeList, sweep,
      (s.sameGateNotice_blockStart r).2.trans (s.boundary_resetRequest r), (s.blockStart_nomCounts r).2, hold,
      s.blockStart_lastLevels r, linkA, linkB, outSlots⟩
  · obtain ⟨gate, count, floor, rise⟩ := s.blockStart_lost r plain i lost
    exact ⟨_, rfl, gate, count, floor, rise, fun was => s.blockStart_raises_gate r plain i (by simp [lost, was])⟩
  · obtain ⟨gate, stopped, floor, rise⟩ := s.blockStart_heard r plain i heard
    obtain ⟨unset, table⟩ := (s.source i).updateFloor_table (s.source i).level
    refine ⟨_, rfl, gate, fun was => s.blockStart_raises_gate r plain i (by simp [heard, was]), stopped, ?_⟩
    rw [floor, rise]
    exact ⟨unset, table⟩
  · have running : ({ (s.boundary r).glide with takeList := [] } : State).running = true := by
      have live := s.boundary_adopted r runs
      rw [copy, State.adopted] at live
      cases bank : (s.boundary r).live with
      | none => rw [bank] at live; cases live
      | some l => simp [State.running, bank]
    have taken : (s.boundary r).glide.takeList = s.takeList := by
      rw [← s.boundary_takeList r swept]
      simp
    obtain ⟨sources, zones⟩ := State.foldl_applyItem_mix s.takeList legal _ running
    have applied : (s.boundary r).glide.applyTaken
        = s.takeList.foldl State.applyItem { (s.boundary r).glide with takeList := [] } := by
      unfold State.applyTaken
      rw [taken]
    have found : ∀ i, ({ (s.boundary r).glide with takeList := [] } : State).source i = (s.boundary r).source i :=
      fun i => State.source_congr (by simp) i
    have foundZone : ∀ z, ({ (s.boundary r).glide with takeList := [] } : State).zone z = (s.boundary r).zone z :=
      fun z => State.zone_congr (by simp) z
    refine ⟨_, rfl, fun i => ?_, fun z => ?_⟩
    · obtain ⟨mix, pos⟩ := s.blockStart_mix r i
      obtain ⟨mixSet, posSet⟩ := sources i
      obtain ⟨row, place⟩ := s.boundary_mix r b runs copy i
      rw [mix, pos, applied, mixSet, posSet, found, row, place]
      constructor <;> congr 1 <;> split <;> rfl
    · rw [State.zone_congr (s.blockStart_zones r), applied, zones, foundZone, s.boundary_zoneMix r b runs copy]

end Sys2Proof.Machine
end

section
/-! The works that a block start takes ahead of an engine reset (O42, second part). -/

namespace Sys2Proof.Machine

/-! ### A survey that completes (R125) -/

theorem State.storeAll_append (s : State) (first rest : List (Nat × Word)) :
    s.storeAll (first ++ rest) = (s.storeAll first).storeAll rest := by
  unfold State.storeAll
  rw [Memory.writeAll_append]
  rfl

/-- What the completion of a survey leaves (R125). -/
theorem State.completeSurvey_ends (s : State) (canonical : s.mem.wf) :
    let t := s.completeSurvey
    t.mem.wf ∧ t.survey.phase = .idle ∧ t.word 0x2800 = 2 ∧ t.word 0x2809 = blockLow s.block
    ∧ t.word 0x280A = blockHigh s.block
    ∧ outcomeStands t s.survey.origin s.survey.claim (if s.survey.clampNote then .clamped else .ok) 0 s.block
    ∧ t.noticed .survey = true := by
  intro t
  let code : ResultCode := if s.survey.clampNote then .clamped else .ok
  let records := s.storeAll (allSources.flatMap s.survey.resultRecord)
  let stored := s.storeAll (allSources.flatMap s.survey.resultRecord ++ surveyEndHeader s.block 2)
  let u := (stored.withSurvey { s.survey with phase := .idle, claim := false }).requestRebuild
  have ended : t = (u.outcome s.survey.origin s.survey.claim code 0).raise .survey := rfl
  have wf : u.mem.wf := Memory.writeAll_wf _ _ canonical
  have two : stored = records.storeAll (surveyEndHeader records.block 2) := s.storeAll_append _ _
  have header : ∀ w, u.word w = if w = 0x2809 then blockLow s.block else if w = 0x280A then blockHigh s.block
      else if w = 0x2800 then 2 else records.word w := fun w =>
    (congrArg (fun v : State => v.word w) two).trans
      (records.surveyEndHeader_word 2 (Memory.writeAll_wf _ _ canonical) w)
  have word : ∀ w, t.word w = (u.outcome s.survey.origin s.survey.claim code 0).word w := fun _ => rfl
  have high : ∀ w, 0x440 ≤ w → t.word w = u.word w := fun w high =>
    (word w).trans (u.outcome_word_away _ _ _ _ wf w (fun k _ => outcomeAddrs_below k high))
  have raised : ∀ n, (u.outcome s.survey.origin s.survey.claim code 0).noticed n = true → t.noticed n = true := by
    intro n before
    rw [ended, State.raise_noticed, before, Bool.or_true]
  refine ⟨u.outcome_mem_wf _ _ _ _ wf, ?_, ?_, ?_, ?_, ?_, ?_⟩
  · simp [ended, u]
  · rw [high _ (by decide), header]
    rfl
  · rw [high _ (by decide), header]
    rfl
  · rw [high _ (by decide), header]
    rfl
  · exact outcomeStands_congr (fun w _ => word w) (raised _) (raised _) rfl
      (u.outcomeStands_outcome s.survey.origin s.survey.claim code 0 wf)
  · rw [ended, State.raise_noticed]
    rfl

/-! ### A survey's own phase change (R119 to R123) -/

/-- A completion that is due is carried out (R121, R123). -/
theorem State.advanceSurvey_due (s : State) (due : s.completionDue = true) : s.advanceSurvey = s.completeSurvey := by
  unfold State.completionDue at due
  rw [Bool.or_eq_true] at due
  unfold State.advanceSurvey
  rcases due with tail | measure
  · have phase : s.survey.phase = .tail := by
      simp only [State.atTailEnd, Bool.and_eq_true, beq_iff_eq] at tail
      exact tail.1
    rw [phase]
    exact if_pos tail
  · rw [Bool.and_eq_true, beq_iff_eq] at measure
    obtain ⟨measured, untailed⟩ := measure
    have phase : s.survey.phase = .probeMeasure := by
      simp only [State.atMeasureEnd, Bool.and_eq_true, beq_iff_eq] at measured
      exact measured.1
    rw [phase]
    exact (if_pos measured).trans (if_pos untailed)

/-- Any other phase change leaves the survey unit alone changed, in progress for the same cue. -/
theorem State.advanceSurvey_undue (s : State) (undue : s.completionDue = false) (running : s.survey.phase ≠ .idle) :
    ∃ v : Survey, s.advanceSurvey = s.withSurvey v ∧ v.phase ≠ .idle ∧ v.origin = s.survey.origin
      ∧ v.claim = s.survey.claim := by
  obtain ⟨untailed, unmeasured⟩ := Bool.or_eq_false_iff.1 undue
  have same : ∃ v : Survey, s = s.withSurvey v ∧ v.phase ≠ .idle ∧ v.origin = s.survey.origin
      ∧ v.claim = s.survey.claim := ⟨s.survey, rfl, running, rfl, rfl⟩
  unfold State.advanceSurvey
  split
  · unfold State.quietEnd
    split
    · exact ⟨_, rfl, nofun, rfl, rfl⟩
    · exact same
  · unfold State.settleEnd
    split
    · exact ⟨_, rfl, nofun, rfl, rfl⟩
    · exact same
  · unfold State.measureEnd
    split
    · rename_i measured
      rw [measured, Bool.true_and, beq_eq_false_iff_ne] at unmeasured
      rw [if_neg unmeasured]
      exact ⟨_, rfl, nofun, rfl, rfl⟩
    · exact same
  · unfold State.tailEnd
    rw [untailed]
    exact same
  · exact same
  · exact same

theorem State.advanceSurvey_idle (s : State) (idle : s.survey.phase = .idle) : s.advanceSurvey = s := by
  unfold State.advanceSurvey
  rw [idle]

/-! ### The ended block (R120, R121, R123) -/

/-- The survey of the ended block: its phase, its cue and its window stand, and its block is counted. -/
theorem State.ended_survey (s : State) :
    s.ended.survey.phase = s.survey.phase ∧ s.ended.survey.origin = s.survey.origin
    ∧ s.ended.survey.claim = s.survey.claim ∧ s.ended.survey.clampNote = s.survey.clampNote
    ∧ s.ended.survey.tail = s.survey.tail ∧ s.ended.survey.measure = s.survey.measure
    ∧ (s.survey.phase = .tail ∨ s.survey.phase = .probeMeasure → s.ended.survey.counter = s.survey.counter + 1) := by
  have swept : s.finishSweep.measureLevels.endZones.survey = s.survey := by simp [State.finishSweep, State.measureLevels]
  have ended : s.ended.survey = s.finishSweep.measureLevels.endZones.surveyBlockEnd := by
    simp [State.ended, State.nextBlock, State.endBlock, State.validate]
  rw [ended]
  unfold State.surveyBlockEnd
  rw [swept]
  cases phase : s.survey.phase <;> simp_all

/-- A completion is due at the end of the block that a survey's last count needs (R121, R123). -/
theorem State.ended_completionDue (s : State) :
    s.ended.completionDue = true ↔ s.survey.phase = .tail ∧ s.survey.tail ≤ s.survey.counter + 1
      ∨ s.survey.phase = .probeMeasure ∧ s.survey.measure ≤ s.survey.counter + 1 ∧ s.survey.tail = 0 := by
  obtain ⟨phase, _, _, _, tail, measure, counter⟩ := s.ended_survey
  unfold State.completionDue State.atTailEnd State.atMeasureEnd
  rw [phase, tail, measure]
  cases now : s.survey.phase <;> simp_all

theorem State.finishSweep_wf (s : State) (canonical : s.mem.wf) : s.finishSweep.mem.wf := by
  refine State.examineMany_keeps (P := fun t => t.mem.wf) (fun t ht => ?_) _ s canonical
  unfold State.examineNext State.examineSlot
  (repeat' split)
  · exact (congrArg Memory.wf (State.examineCall_frame t).2.2.2.1).mpr ht
  · exact Memory.write_wf _ _ _ ht
  · exact ht
  · exact ht

theorem State.ended_mem (s : State) : s.ended.mem = s.finishSweep.mem := by simp [State.ended, State.nextBlock]

theorem State.ended_wf (s : State) (canonical : s.mem.wf) : s.ended.mem.wf := by
  rw [s.ended_mem]
  exact s.finishSweep_wf canonical

theorem State.ended_word (s : State) (w : Nat) (high : 0x440 ≤ w) : s.ended.word w = s.word w := by
  rw [State.word, s.ended_mem]
  exact s.finishSweep_word w high

theorem State.examineNext_notice (s : State) : s.examineNext.port.notice = s.port.notice := by
  unfold State.examineNext State.examineCall State.examineSlot
  (repeat' split) <;> rfl

/-- The end of a block leaves GATE (R100, R163). -/
theorem State.ended_gate (s : State) : s.ended.noticed .gate = s.noticed .gate := by
  have swept : s.finishSweep.port.notice = s.port.notice :=
    State.examineMany_keeps (P := fun t => t.port.notice = s.port.notice)
      (fun t h => t.examineNext_notice.trans h) _ s rfl
  have handed : s.ended.port = s.finishSweep.measureLevels.endZones.port := rfl
  have zones : s.finishSweep.measureLevels.endZones.noticed .gate = s.finishSweep.measureLevels.noticed .gate := by
    unfold State.endZones
    dsimp only
    rw [State.raiseIf_noticed]
    simp only [reduceCtorEq, decide_false, Bool.and_false, Bool.false_or]
    split <;> rfl
  rw [State.noticed_congr handed, zones]
  show s.finishSweep.port.notice.getLsbD _ = _
  rw [swept]
  rfl

end Sys2Proof.Machine
end

section
/-! What is read after a block start with an engine reset (O42, second part). -/

namespace Sys2Proof.Machine

/-! ### A bank's outcome (R139, R140) -/

theorem State.outcomeStands_raise {s : State} {o : Origin} {claim : Bool} {code : ResultCode} {detail : Nat}
    {block : BlockNo} (n : Notice) (h : outcomeStands s o claim code detail block) :
    outcomeStands (s.raise n) o claim code detail block := by
  have raised : ∀ m, s.noticed m = true → (s.raise n).noticed m = true := by
    intro m before
    rw [State.raise_noticed, before, Bool.or_true]
  exact outcomeStands_congr (s := s) (t := s.raise n) (fun _ _ => rfl) (raised _) (raised _) rfl h

/-- What a switch-over's first half leaves to be read (R140). -/
theorem State.installBank_ends (s : State) (a : Adoption) (canonical : s.mem.wf) :
    let t := s.installBank a
    t.mem.wf
    ∧ (t.word (bankBase a.bank) = 2 ∧ t.word (bankBase a.bank + 1) = natWord a.clampCount
      ∧ t.word (bankBase a.bank + 2) = natWord a.firstClamp ∧ t.word (bankBase a.bank + 3) = 0
      ∧ t.word (bankBase a.bank + 4) = 0)
    ∧ (∀ old, s.liveBank = some old → old ≠ a.bank → t.word (bankBase old) = 0)
    ∧ outcomeStands t a.origin a.claim (clampCode a.clampCount) a.clampCount s.block ∧ t.noticed .bank = true := by
  intro t
  have wf := s.switched_wf a canonical
  have word : ∀ w, 0x440 ≤ w → t.word w = (s.storeAll (switchCells a s.liveBank)).word w := by
    intro w high
    have away := State.outcome_word_away (s.switched a) a.origin a.claim (clampCode a.clampCount) a.clampCount wf w
      (fun k _ => outcomeAddrs_below k high)
    refine Eq.trans (b := ((s.switched a).outcome a.origin a.claim (clampCode a.clampCount) a.clampCount).word w) rfl
      (away.trans ?_)
    rw [State.word, (s.switched_members a).1]
    rfl
  have low : ∀ b : BankId, 0x440 ≤ bankBase b := fun b => by
    have := (bankBase_range b).1
    omega
  have lowBank := low a.bank
  obtain ⟨adopted, count, first, reason, address, old, _⟩ := s.switchCells_header a canonical
  refine ⟨State.outcome_mem_wf _ _ _ _ _ wf, ⟨(word _ lowBank).trans adopted, (word _ (by omega)).trans count,
    (word _ (by omega)).trans first, (word _ (by omega)).trans reason, (word _ (by omega)).trans address⟩,
    fun b live other => (word _ (low b)).trans (old b live other), ?_, ?_⟩
  · have stands := State.outcomeStands_outcome (s.switched a) a.origin a.claim (clampCode a.clampCount) a.clampCount wf
    rw [(s.switched_members a).2.2] at stands
    exact State.outcomeStands_raise .bank stands
  · rw [s.installBank_noticed]
    rfl

/-- What a rejection leaves to be read (R139). -/
theorem State.rejectBank_ends (s : State) (a : Adoption) (reason : RejectReason) (addr : Nat) (canonical : s.mem.wf) :
    let t := s.rejectBank a reason addr
    t.mem.wf
    ∧ (t.word (bankBase a.bank) = 0 ∧ t.word (bankBase a.bank + 1) = natWord a.clampCount
      ∧ t.word (bankBase a.bank + 2) = natWord a.firstClamp ∧ t.word (bankBase a.bank + 3) = natWord reason.code
      ∧ t.word (bankBase a.bank + 4) = natWord addr)
    ∧ outcomeStands t a.origin a.claim .bankInvalid addr s.block ∧ t.noticed .bank = true := by
  intro t
  let stored := s.storeAll (bankHeader a.bank a.clampCount a.firstClamp reason addr ++ [(bankBase a.bank, bankEdit)])
  let u : State := { stored with adoption := none, marks := { stored.marks with adoptionEnded := true } }
  obtain ⟨low, inside⟩ := bankBase_range a.bank
  have wf : u.mem.wf := Memory.writeAll_wf _ _ canonical
  have ended : t = (u.outcome a.origin a.claim .bankInvalid addr).raise .bank := rfl
  have word : ∀ w, 0x440 ≤ w → t.word w = if w = bankBase a.bank then 0
      else (s.storeAll (bankHeader a.bank a.clampCount a.firstClamp reason addr)).word w := by
    intro w high
    have away := u.outcome_word_away a.origin a.claim .bankInvalid addr wf w (fun k _ => outcomeAddrs_below k high)
    exact Eq.trans (b := (u.outcome a.origin a.claim .bankInvalid addr).word w) rfl
      (away.trans (Memory.read_writeAll_last _ _ _ _ canonical (by dsimp only; omega)))
  have header : ∀ w, (s.storeAll (bankHeader a.bank a.clampCount a.firstClamp reason addr)).word w = _ := fun w =>
    bankHeader_word s.mem a.bank a.clampCount a.firstClamp reason addr w canonical
  refine ⟨u.outcome_mem_wf _ _ _ _ wf, ⟨?_, ?_, ?_, ?_, ?_⟩,
    State.outcomeStands_raise .bank (u.outcomeStands_outcome a.origin a.claim .bankInvalid addr wf), ?_⟩
  · rw [word _ (by omega), if_pos rfl]
  iterate 4
    · rw [word _ (by omega), if_neg (by omega), header]
      simp
  · rw [ended, State.raise_noticed]
    rfl

/-! ### The adoption that a reset finds (R137, R144) -/

theorem Adoption.examine_cue (a : Adoption) (m : Memory) (off : Nat) :
    (a.examine m off).bank = a.bank ∧ (a.examine m off).origin = a.origin ∧ (a.examine m off).claim = a.claim := by
  unfold Adoption.examine
  dsimp only
  (repeat' split) <;> exact ⟨rfl, rfl, rfl⟩

/-- An examination keeps the bank and the cue of its adoption. -/
theorem Adoption.examined_cue (a : Adoption) (m : Memory) :
    (a.examined m).bank = a.bank ∧ (a.examined m).origin = a.origin ∧ (a.examined m).claim = a.claim := by
  have all : ∀ (offs : List Nat) (c : Adoption), c.bank = a.bank ∧ c.origin = a.origin ∧ c.claim = a.claim →
      let d := offs.foldl (fun c n => c.examine m (512 * a.part + n)) c
      d.bank = a.bank ∧ d.origin = a.origin ∧ d.claim = a.claim := by
    intro offs
    induction offs with
    | nil => exact fun _ h => h
    | cons n offs ih =>
      intro c same
      obtain ⟨bank, origin, claim⟩ := same
      obtain ⟨bank', origin', claim'⟩ := c.examine_cue m (512 * a.part + n)
      exact ih _ ⟨bank'.trans bank, origin'.trans origin, claim'.trans claim⟩
  exact all _ a ⟨rfl, rfl, rfl⟩

/-! ### The reset after the works ahead of it (R128, R144) -/

/-- A reset that finds neither a survey nor an adoption ends nothing. -/
theorem State.resetting_of_idle (s : State) (idle : s.surveying = false) (free : s.adoption = none) :
    s.resetting = s.served := by
  have surveyed : s.served.resetSurvey = s.served := if_neg (by rw [show s.served.surveying = false from idle]; nofun)
  rw [s.resetting_eq, surveyed]
  unfold State.abandonAdoption
  rw [show s.served.adoption = none from free]

theorem outcomeStands_served {s : State} {o : Origin} {claim : Bool} {code : ResultCode} {detail : Nat} {block : BlockNo}
    (h : outcomeStands s o claim code detail block) : outcomeStands s.served o claim code detail block :=
  outcomeStands_congr (s := s) (t := s.served) (fun _ _ => rfl) id id rfl h

theorem State.ended_adoption_none (s : State) (runs : s.adoptionRuns) (free : s.adoption = none) :
    s.ended.adoption = none := by
  rw [s.ended_adoption runs, free]
  rfl

theorem State.bankOutcome_none (s : State) (free : s.adoption = none) : s.bankOutcome = s := by
  unfold State.bankOutcome State.switchDue State.bankReject
  rw [free]
  rfl

theorem State.resetFrom_of_free (s : State) (r : BlockRaces) (runs : s.adoptionRuns) (free : s.adoption = none) :
    s.resetFrom r = if r.completionBeforeReset then s.ended.advanceSurvey else s.ended := by
  have banked : (if r.bankBeforeReset then s.ended.bankOutcome else s.ended) = s.ended := by
    rw [s.ended.bankOutcome_none (s.ended_adoption_none runs free)]
    exact ite_self _
  unfold State.resetFrom
  rw [banked]

theorem State.resetFrom_of_idle (s : State) (r : BlockRaces) (idle : s.survey.phase = .idle) :
    s.resetFrom r = if r.bankBeforeReset then s.ended.bankOutcome else s.ended := by
  have still : (if r.bankBeforeReset then s.ended.bankOutcome else s.ended).survey.phase = .idle := by
    have survey : s.ended.bankOutcome.survey = s.ended.survey := by
      unfold State.bankOutcome
      split <;> simp
    split
    · rw [survey]
      exact s.ended_survey.1.trans idle
    · exact s.ended_survey.1.trans idle
  unfold State.resetFrom
  rw [State.advanceSurvey_idle _ still]
  exact ite_self _

/-- A survey in progress at a block start with a reset: its completion, where that is due and taken first, or its end
(R128). -/
theorem State.resetFrom_survey (s : State) (r : BlockRaces) (canonical : s.mem.wf) (runs : s.adoptionRuns)
    (free : s.adoption = none) (running : s.survey.phase ≠ .idle) :
    let t := (s.resetFrom r).resetting
    let complete := r.completionBeforeReset = true ∧ s.ended.completionDue = true
    t.noticed .survey = true ∧ t.word 0x2809 = blockLow (s.block + 1) ∧ t.word 0x280A = blockHigh (s.block + 1)
    ∧ (complete → t.word 0x2800 = 2
        ∧ outcomeStands t s.survey.origin s.survey.claim (if s.survey.clampNote then .clamped else .ok) 0 (s.block + 1))
    ∧ (¬complete → t.word 0x2800 = 3
        ∧ outcomeStands t s.survey.origin s.survey.claim .reset 0 (s.block + 1)) := by
  intro t complete
  obtain ⟨phase, origin, claim, note, _⟩ := s.ended_survey
  have block := s.ended_block.1
  have wf := s.ended_wf canonical
  have freed := s.ended_adoption_none runs free
  by_cases done : complete
  · obtain ⟨first, due⟩ := done
    have found : s.resetFrom r = s.ended.completeSurvey := by
      rw [s.resetFrom_of_free r runs free, if_pos first, s.ended.advanceSurvey_due due]
    obtain ⟨_, idle, state, low, high, stands, raised⟩ := s.ended.completeSurvey_ends wf
    have same : t = s.ended.completeSurvey.served := by
      simp only [t]
      rw [found]
      exact State.resetting_of_idle _ (by simp [State.surveying, idle]) (by simp [freed])
    rw [origin, claim, note, block] at stands
    rw [block] at low high
    rw [same]
    exact ⟨raised, low, high, fun _ => ⟨state, outcomeStands_served stands⟩, fun undone => absurd ⟨first, due⟩ undone⟩
  · have found : ∃ v : Survey, s.resetFrom r = s.ended.withSurvey v ∧ v.phase ≠ .idle
        ∧ v.origin = s.ended.survey.origin ∧ v.claim = s.ended.survey.claim := by
      rw [s.resetFrom_of_free r runs free]
      split
      · rename_i first
        exact s.ended.advanceSurvey_undue (Bool.eq_false_iff.2 (fun due => done ⟨first, due⟩))
          (by rw [phase]; exact running)
      · exact ⟨s.ended.survey, rfl, by rw [phase]; exact running, rfl, rfl⟩
    obtain ⟨v, reset, inProgress, vOrigin, vClaim⟩ := found
    have surveying : (s.ended.withSurvey v).surveying = true := by
      show (v.phase != SurveyPhase.idle) = true
      simpa using inProgress
    obtain ⟨_, _, words, _, _, noticed, _⟩ := (s.ended.withSurvey v).resetting_ends wf
    obtain ⟨state, low, high, stands⟩ := words surveying
    have same : t = (s.ended.withSurvey v).resetting := by
      simp only [t]
      rw [reset]
    have blockNow : (s.ended.withSurvey v).block = s.block + 1 := block
    have cue : (s.ended.withSurvey v).survey = v := rfl
    rw [cue, vOrigin, vClaim, origin, claim, blockNow] at stands
    rw [blockNow] at low high
    rw [same]
    refine ⟨?_, low, high, fun finished => absurd finished done, fun _ => ⟨state, stands⟩⟩
    rw [noticed, surveying]
    rfl

/-! ### An adoption at a block start with a reset (R139, R140, R144) -/

section Adopting

variable {s : State} {r : BlockRaces} {a x : Adoption}

theorem State.ended_adopting (runs : s.adoptionRuns) (adopting : s.adoption = some a) (examined : a.examined s.mem = x) :
    s.ended.adoption = some { x with part := a.part + 1 } := by
  rw [s.ended_adoption runs, adopting, Option.map_some, examined]

theorem State.switchesAt_reset (asked : s.port.resetRequest = true) (adopting : s.adoption = some a)
    (examined : a.examined s.mem = x) :
    s.switchesAt r = (a.part == 7 && x.illegal.isNone && r.bankBeforeReset) := by
  unfold State.switchesAt
  rw [adopting]
  dsimp only
  rw [examined, asked]
  rfl

theorem State.ended_switchDue_of (runs : s.adoptionRuns) (adopting : s.adoption = some a)
    (examined : a.examined s.mem = x) : s.ended.switchDue = (a.part == 7 && x.illegal.isNone) := by
  rw [s.ended_switchDue runs, adopting, Option.any_some, examined]

theorem State.ended_idle (idle : s.survey.phase = .idle) : s.ended.surveying = false := by
  simp [State.surveying, s.ended_survey.1, idle]

/-- A switch-over taken ahead of the reset (R140, R144). -/
theorem State.resetFrom_switches (canonical : s.mem.wf) (asked : s.port.resetRequest = true) (runs : s.adoptionRuns)
    (adopting : s.adoption = some a) (examined : a.examined s.mem = x) (idle : s.survey.phase = .idle)
    (switches : s.switchesAt r = true) :
    let t := (s.resetFrom r).resetting
    t.noticed .bank = true ∧ (s.resetFrom r).liveBank = some x.bank
    ∧ (t.word (bankBase x.bank) = 2 ∧ t.word (bankBase x.bank + 1) = natWord x.clampCount
      ∧ t.word (bankBase x.bank + 2) = natWord x.firstClamp ∧ t.word (bankBase x.bank + 3) = 0
      ∧ t.word (bankBase x.bank + 4) = 0)
    ∧ (∀ old, s.liveBank = some old → old ≠ x.bank → t.word (bankBase old) = 0)
    ∧ outcomeStands t x.origin x.claim (clampCode x.clampCount) x.clampCount (s.block + 1) := by
  intro t
  rw [State.switchesAt_reset asked adopting examined, Bool.and_eq_true] at switches
  obtain ⟨complete, first⟩ := switches
  have due := (State.ended_switchDue_of runs adopting examined).trans complete
  have next := State.ended_adopting runs adopting examined
  obtain ⟨_, header, old, stands, raised⟩ :=
    s.ended.installBank_ends { x with part := a.part + 1 } (s.ended_wf canonical)
  have found : s.resetFrom r = (s.ended.installBank { x with part := a.part + 1 }).reloadMix := by
    rw [s.resetFrom_of_idle r idle, if_pos first]
    unfold State.bankOutcome State.installDue
    rw [if_pos due, next]
    dsimp only
    rw [if_pos due]
  obtain ⟨live, free, _⟩ := s.ended.installBank_members { x with part := a.part + 1 }
  have reloadedLive : ∀ u : State, u.reloadMix.live = u.live := fun u => by simp
  have reloadedMem : ∀ u : State, u.reloadMix.mem = u.mem := fun u => by simp
  have still : (s.resetFrom r).surveying = false := by
    rw [found]
    simpa [State.surveying] using State.ended_idle idle
  have same : t = (s.resetFrom r).served :=
    State.resetting_of_idle _ still (by rw [found]; simpa using free)
  have word : ∀ w, t.word w = (s.ended.installBank { x with part := a.part + 1 }).word w := by
    intro w
    rw [same, found]
    show (State.reloadMix _).mem.read w = _
    rw [reloadedMem]
    rfl
  have port : (s.resetFrom r).port = (s.ended.installBank { x with part := a.part + 1 }).port := by
    rw [found]
    simp
  have noticed : ∀ n, t.noticed n = (s.ended.installBank { x with part := a.part + 1 }).noticed n := by
    intro n
    rw [same]
    exact State.noticed_congr port n
  have result : t.port.callResult = (s.ended.installBank { x with part := a.part + 1 }).port.callResult := by
    rw [same, ← port]
    rfl
  have liveBefore : s.ended.liveBank = s.liveBank := by
    unfold State.liveBank
    rw [s.ended_live]
  simp only [word, noticed]
  rw [liveBefore] at old
  rw [s.ended_block.1] at stands
  refine ⟨raised, ?_, header, old, outcomeStands_congr (fun w _ => word w) (fun h => (noticed _).trans h)
    (fun h => (noticed _).trans h) result stands⟩
  rw [found]
  unfold State.liveBank
  rw [reloadedLive, live]
  rfl

/-- A rejection taken ahead of the reset (R139, R144). -/
theorem State.resetFrom_rejects (canonical : s.mem.wf) (runs : s.adoptionRuns) (adopting : s.adoption = some a)
    (examined : a.examined s.mem = x) (idle : s.survey.phase = .idle) (first : r.bankBeforeReset = true)
    {reason : RejectReason} {addr : Nat} (illegal : x.illegal = some (reason, addr)) :
    let t := (s.resetFrom r).resetting
    t.noticed .bank = true ∧ (s.resetFrom r).live = s.live
    ∧ (t.word (bankBase x.bank) = 0 ∧ t.word (bankBase x.bank + 1) = natWord x.clampCount
      ∧ t.word (bankBase x.bank + 2) = natWord x.firstClamp ∧ t.word (bankBase x.bank + 3) = natWord reason.code
      ∧ t.word (bankBase x.bank + 4) = natWord addr)
    ∧ outcomeStands t x.origin x.claim .bankInvalid addr (s.block + 1) := by
  intro t
  have undue : s.ended.switchDue = false := by
    rw [State.ended_switchDue_of runs adopting examined, illegal]
    simp
  have next := State.ended_adopting runs adopting examined
  obtain ⟨_, header, stands, raised⟩ :=
    s.ended.rejectBank_ends { x with part := a.part + 1 } reason addr (s.ended_wf canonical)
  have found : s.resetFrom r = s.ended.rejectBank { x with part := a.part + 1 } reason addr := by
    rw [s.resetFrom_of_idle r idle, if_pos first]
    unfold State.bankOutcome State.bankReject
    rw [if_neg (by simp [undue]), next]
    dsimp only
    rw [illegal]
  have still : (s.resetFrom r).surveying = false := by
    rw [found]
    simpa [State.surveying, State.rejectBank] using State.ended_idle idle
  have same : t = (s.resetFrom r).served :=
    State.resetting_of_idle _ still (by rw [found]; simp [State.rejectBank])
  rw [s.ended_block.1] at stands
  have live : (s.resetFrom r).live = s.live := by
    rw [found, ← s.ended_live]
    simp [State.rejectBank]
  rw [same, found] at *
  exact ⟨raised, live, header, outcomeStands_served stands⟩

/-- An adoption that the reset abandons (R144). -/
theorem State.resetFrom_abandons (canonical : s.mem.wf) (asked : s.port.resetRequest = true) (runs : s.adoptionRuns)
    (adopting : s.adoption = some a) (examined : a.examined s.mem = x) (idle : s.survey.phase = .idle)
    (stays : s.switchesAt r = false) (later : r.bankBeforeReset = false ∨ x.illegal = none) :
    let t := (s.resetFrom r).resetting
    t.noticed .bank = true ∧ (s.resetFrom r).live = s.live ∧ t.word (bankBase x.bank) = 0
    ∧ (∀ k, 1 ≤ k → k ≤ 4 → t.word (bankBase x.bank + k) = s.word (bankBase x.bank + k))
    ∧ outcomeStands t x.origin x.claim .reset 0 (s.block + 1) := by
  intro t
  have next := State.ended_adopting runs adopting examined
  have due := State.ended_switchDue_of runs adopting examined
  have found : s.resetFrom r = s.ended := by
    rw [s.resetFrom_of_idle r idle]
    cases first : r.bankBeforeReset with
    | false => rfl
    | true =>
      have sound : x.illegal = none := later.resolve_left (by simp [first])
      rw [State.switchesAt_reset asked adopting examined, first, Bool.and_true] at stays
      rw [if_pos rfl]
      unfold State.bankOutcome State.bankReject
      rw [if_neg (by simp [due, stays]), next]
      dsimp only
      rw [sound]
  obtain ⟨_, _, _, banks, rest, noticed, _⟩ := s.ended.resetting_ends (s.ended_wf canonical)
  obtain ⟨edit, stands⟩ := banks _ next
  have same : t = s.ended.resetting := by
    simp only [t]
    rw [found]
  have low := (bankBase_range x.bank).1
  rw [s.ended_block.1] at stands
  have still := State.ended_idle idle
  refine ⟨?_, ?_, ?_, fun k some small => ?_, ?_⟩
  · rw [same, noticed, next]
    simp
  · rw [found]
    exact s.ended_live
  · rw [same]
    exact edit
  · rw [same, ← s.ended_word _ (by omega)]
    refine rest _ (by simp [still]) (fun b here => ?_) (fun k _ => outcomeAddrs_below k (by omega))
    rw [next, Option.some.injEq] at here
    subst here
    dsimp only
    omega
  · rw [same]
    exact stands

end Adopting

end Sys2Proof.Machine
end

section
/-! A block start with an engine reset and no cue, and ENGINE_RESET as a whole (O42). -/

namespace Sys2Proof.Machine

/-! ### The state after the boundary -/

theorem State.resetting_idle (s : State) : s.resetting.survey.phase = .idle ∧ s.resetting.adoption = none := by
  have surveyed : s.served.resetSurvey.survey.phase = .idle := by
    unfold State.resetSurvey
    split
    · simp [State.abandonSurvey, Survey.discarded]
    · rename_i idle
      simpa [State.surveying] using idle
  rw [s.resetting_eq]
  refine ⟨by simpa using surveyed, ?_⟩
  unfold State.abandonAdoption
  split
  · assumption
  · simp

section Reset

variable {s : State} {r : BlockRaces} (asked : s.port.resetRequest = true)

include asked

theorem State.boundary_reset_members :
    (s.boundary r).routes = [] ∧ (s.boundary r).unserved = [] ∧ (s.boundary r).admitted = []
    ∧ (s.boundary r).scenes = [] ∧ (s.boundary r).survey.phase = .idle ∧ (s.boundary r).adoption = none
    ∧ (s.boundary r).rebuild = (if (s.boundary r).running then .forced else .none) := by
  obtain ⟨live, routes, unserved, admitted, scenes, rebuild, survey, adoption, _⟩ := (s.resetFrom r).carryReset_members
  obtain ⟨idle, free⟩ := (s.resetFrom r).resetting_idle
  rw [s.boundary_of_reset r asked]
  have running : (s.resetFrom r).carryReset.running = (s.resetFrom r).running := by
    rw [State.running, live, State.running]
  exact ⟨routes, unserved, admitted, scenes, by rw [survey, idle], by rw [adoption, free], by rw [rebuild, running]⟩

/-- Without a cue the works up to the force modes change nothing that the boundary has left. -/
theorem State.cued_of_reset (swept : s.sweepPos = 33) (uncued : s.takeList = []) :
    s.cued r = { (s.boundary r).glide with takeList := [] } := by
  obtain ⟨_, _, _, _, idle, _⟩ := State.boundary_reset_members (r := r) asked
  have taken : (s.boundary r).glide.takeList = [] := by
    rw [← uncued, ← s.boundary_takeList r swept]
    simp
  have applied : (s.boundary r).glide.applyTaken = { (s.boundary r).glide with takeList := [] } := by
    unfold State.applyTaken
    rw [taken]
    rfl
  have undue : (s.boundary r).glide.applyTaken.completionDue = false := by
    rw [applied]
    simp [State.completionDue, State.atTailEnd, State.atMeasureEnd, idle]
  have late : (s.boundary r).glide.applyTaken.lateCompletion = (s.boundary r).glide.applyTaken := by
    unfold State.lateCompletion
    rw [undue]
    rfl
  unfold State.cued
  rw [late, ite_self, applied]

/-- The sources that a reset sets stand after its block start (R21). -/
theorem State.blockStart_reset_source (swept : s.sweepPos = 33) (uncued : s.takeList = []) (i : Fin 16) :
    (s.blockStart r).source i = (s.boundary r).source i := by
  have cued : ∀ j, (s.cued r).source j = (s.boundary r).source j := fun j =>
    State.source_congr (by rw [State.cued_of_reset asked swept uncued]; simp) j
  have before : s.ended.evaluatedForces (s.boundary r) = (s.boundary r).forceMode := by
    unfold State.evaluatedForces
    rw [s.ended_resetRequest, asked]
    rfl
  have followed : ((s.cued r).followForces (s.ended.evaluatedForces (s.boundary r))).source i = (s.boundary r).source i := by
    rw [State.source_followForces_same _ _ _ (by rw [before, State.forceMode, cued, State.forceMode]), cued]
  have unlast : ((s.boundary r).source i).gate ≠ .last := by
    rw [s.boundary_of_reset r asked, State.carryReset_source]
    exact (resetGate_unplaced _ _ _).2.2
  rw [State.source_congr (s.blockStart_of_followed r).1, State.followed,
    State.source_releaseLast _ (State.followForces_length _ _), followed]
  exact if_neg (fun h => unlast h.1)

end Reset

/-! ### The list of a block start with a reset (R44 to R46, R54) -/

/-- The rebuild that follows a reset, of an empty list: the admitted pairs in their order while there is room, and no
pair with no bank LIVE (R44 to R46, R54). -/
theorem State.serveRebuild_empty (v : State) (routes : v.routes = []) (unserved : v.unserved = [])
    (admitted : v.admitted = []) (request : v.rebuild = if v.running then .forced else .none) :
    v.serveRebuild.routes = (v.admittedNow.take 160).map v.newEntry ∧ v.serveRebuild.admitted = v.admittedNow
    ∧ v.serveRebuild.unserved = v.admittedNow.drop 160 ∧ v.serveRebuild.rebuild = .none := by
  cases running : v.running with
  | true =>
    rw [v.serveRebuild_rebuilds running (.inl (by rw [request, running]; rfl))]
    exact v.rebuildRoutes_empty routes
  | false =>
    have none : v.admittedNow = [] := by
      have live : v.live = none := by simpa [State.running] using running
      simp [State.admittedNow, State.adopted, live]
    have waits : v.rebuild = .none := by rw [request, running]; rfl
    rw [v.serveRebuild_waits (.inl waits), none, routes, admitted, unserved]
    exact ⟨rfl, rfl, rfl, waits⟩

/-- Nothing leaves a list of LIVE entries (R48). -/
theorem State.removeRetired_live (w : State) (live : ∀ e ∈ w.routes, e.lifecycle = .live) :
    w.removeRetired.routes = w.routes ∧ w.removeRetired.unserved = w.unserved := by
  have none : w.routes.filter (fun e => e.removable) = [] :=
    List.filter_eq_nil_iff.2 (fun e he => by simp [Entry.removable, live e he])
  have all : w.routes.filter (fun e => !e.removable) = w.routes :=
    List.filter_eq_self.2 (fun e he => by simp [Entry.removable, live e he])
  unfold State.removeRetired
  rw [none, all]
  exact ⟨rfl, rfl⟩

/-- A silent entry at rest at its target stays there (R64). -/
theorem Entry.motionStep_rest (e : Entry) (slip : Nat) (silent : e.gain = .off) (steady : e.motion = .steady)
    (there : e.targetDelay = e.delay) : e.motionStep slip = e := by
  have latest : e.latestTarget = e.delay := by
    unfold Entry.latestTarget
    rw [steady]
    exact there
  unfold Entry.motionStep Entry.rest
  rw [if_pos silent, latest, ← steady]
  cases e
  simp_all

theorem grantUnits_none (fadeLength : Nat) (l : List Entry) (none : ∀ e ∈ l, e.motion ≠ .awaitingFade) :
    ∀ free, grantUnits fadeLength free l = l := by
  induction l with
  | nil => intro free; cases free <;> rfl
  | cons e rest ih =>
    intro free
    cases free with
    | zero => rfl
    | succ free =>
      rw [grantUnits, if_neg (none e (List.mem_cons_self ..)), ih (fun x hx => none x (List.mem_cons_of_mem _ hx))]

/-- The works after the mix leave a list of silent entries at rest. -/
theorem State.blockStart_routes_rest (s : State) (r : BlockRaces)
    (rest : ∀ e ∈ (s.mixed r).routes, e.gain = .off ∧ e.motion = .steady ∧ e.targetDelay = e.delay) :
    (s.blockStart r).routes = (s.mixed r).routes := by
  have moved : (s.mixed r).motionSteps.routes = (s.mixed r).routes := by
    refine (List.map_congr_left (fun e he => ?_)).trans (List.map_id _)
    obtain ⟨silent, steady, there⟩ := rest e he
    exact e.motionStep_rest _ silent steady there
  have granted : (s.mixed r).motionSteps.grantFades.routes = (s.mixed r).routes := by
    refine Eq.trans (grantUnits_none _ _ (fun e he => ?_) _) moved
    rw [moved] at he
    rw [(rest e he).2.1]
    nofun
  rw [← granted, s.blockStart_eq]
  simp

section Reset

variable {s : State} {r : BlockRaces} (asked : s.port.resetRequest = true)

include asked

/-- The list after a block start with a reset: every entry new, LIVE and silent at its target (R44 to R46, R54). -/
theorem State.blockStart_reset_list (swept : s.sweepPos = 33) (uncued : s.takeList = []) :
    let t := s.blockStart r
    (∀ e ∈ t.routes, e.lifecycle = .live ∧ e.gain = .off ∧ e.motion = .steady
        ∧ e.delay = (t.targetDelayOf e.pair).delay ∧ e.targetDelay = e.delay)
    ∧ t.admitted = t.admittedNow ∧ t.routes.map (·.pair) = t.admitted.take 160 ∧ t.unserved = t.admitted.drop 160
    ∧ t.rebuild = .none := by
  intro t
  let v := (s.followed r).countNom
  obtain ⟨routes, unserved, admitted, _, _, _, rebuild⟩ := State.boundary_reset_members (r := r) asked
  obtain ⟨sources, _, _, rebuildLeft, live, _, _, admittedLeft, unservedLeft, _⟩ := s.blockStart_of_mixed r
  have cued := State.cued_of_reset (r := r) asked swept uncued
  have empty : v.routes = [] := by
    have glided : (s.boundary r).glide.routes = [] := by
      unfold State.glide
      show (s.boundary r).routes.map _ = []
      rw [routes]
      rfl
    simp only [v, State.followed, cued]
    simpa using glided
  have runs : v.running = (s.boundary r).running := by
    simp [v, State.running, State.followed, cued]
  have request : v.rebuild = if v.running then .forced else .none := by
    rw [runs, ← rebuild]
    simp [v, State.followed, cued]
  have plan : v.samePlan t := by
    refine ⟨live.trans (by simp [v, State.mixed]), fun i => ?_⟩
    rw [State.source_congr (s.blockStart_of_followed r).1]
    rfl
  obtain ⟨list, nowAdmitted, left, served⟩ := v.serveRebuild_empty empty
    (by simp [v, State.followed, cued, unserved]) (by simp [v, State.followed, cued, admitted]) request
  obtain ⟨kept, keptUnserved⟩ := v.serveRebuild.removeRetired_live (fun e he => by
    rw [list] at he
    obtain ⟨p, _, rfl⟩ := List.mem_map.1 he
    rfl)
  let u := v.serveRebuild.removeRetired
  have mixed : (s.mixed r).routes = (v.admittedNow.take 160).map (fun p => u.composeEntry (v.newEntry p)) := by
    show u.routes.map u.composeEntry = _
    rw [kept, list, List.map_map]
    rfl
  have entries : ∀ e ∈ (s.mixed r).routes, e.lifecycle = .live ∧ e.gain = .off ∧ e.motion = .steady
      ∧ e.delay = (t.targetDelayOf e.pair).delay ∧ e.targetDelay = e.delay := by
    intro e he
    rw [mixed] at he
    obtain ⟨p, _, rfl⟩ := List.mem_map.1 he
    obtain ⟨pair, life, gain, motion, delay, target⟩ := newEntry_composed (w := u) plan p
    rw [pair]
    exact ⟨life, gain, motion, delay, target⟩
  have rested : t.routes = (s.mixed r).routes := s.blockStart_routes_rest r (fun e he => by
    obtain ⟨_, gain, motion, _, target⟩ := entries e he
    exact ⟨gain, motion, target⟩)
  have admittedNow : t.admitted = t.admittedNow := by
    rw [plan.admittedNow, ← nowAdmitted, admittedLeft]
    simp [State.mixed, v]
  refine ⟨fun e he => entries e (rested ▸ he), admittedNow, ?_, ?_, ?_⟩
  · rw [admittedNow, plan.admittedNow, rested, mixed, List.map_map]
    refine (List.map_congr_left (fun p _ => ?_)).trans (List.map_id _)
    exact (newEntry_composed (w := u) plan p).1
  · rw [admittedNow, plan.admittedNow, unservedLeft, ← left, ← keptUnserved]
    simp [State.mixed, v]
  · rw [rebuildLeft, ← served]
    simp [State.mixed, v]

/-- What can be read after a block start with a reset and no cue (R128, R144). -/
theorem State.blockStart_reset_reads (swept : s.sweepPos = 33) (uncued : s.takeList = []) :
    (∀ w, w < 0x2C00 → (s.blockStart r).word w = (s.resetFrom r).resetting.word w)
    ∧ (∀ n, n ≠ .routeFull → n ≠ .meter → (s.blockStart r).noticed n = (s.resetFrom r).resetting.noticed n)
    ∧ (s.blockStart r).port.callResult = (s.resetFrom r).resetting.port.callResult := by
  have reads := s.blockStart_reads r
  have cued := State.cued_of_reset (r := r) asked swept uncued
  obtain ⟨_, _, _, _, _, _, _, _, _, port, mem, _⟩ := (s.resetFrom r).carryReset_members
  have cuedMem : (s.cued r).mem = (s.resetFrom r).resetting.mem := by
    rw [cued, ← mem, ← s.boundary_of_reset r asked]
    simp
  have cuedPort : (s.cued r).port = (s.resetFrom r).resetting.port := by
    rw [cued, ← port, ← s.boundary_of_reset r asked]
    simp
  refine ⟨fun w low => ?_, fun n full meter => ?_, ?_⟩
  · rw [reads.word w low, State.word, cuedMem]
    rfl
  · rw [reads.notices n (by simp [full, meter]), State.noticed_congr cuedPort]
  · rw [reads.port, cuedPort]

/-- An outcome that the works of the boundary leave stands after the block start. -/
theorem State.blockStart_reset_stands (swept : s.sweepPos = 33) (uncued : s.takeList = []) {o : Origin} {claim : Bool}
    {code : ResultCode} {detail : Nat} {block : BlockNo}
    (h : outcomeStands (s.resetFrom r).resetting o claim code detail block) :
    outcomeStands (s.blockStart r) o claim code detail block := by
  obtain ⟨words, notices, result⟩ := State.blockStart_reset_reads (r := r) asked swept uncued
  exact outcomeStands_congr (fun w low => words w (by omega)) (fun h => (notices _ (by decide) (by decide)).trans h)
    (fun h => (notices _ (by decide) (by decide)).trans h) result h

end Reset

end Sys2Proof.Machine
end

section
/-! ENGINE_RESET sent alone, clause by clause (O42, first part). -/

namespace Sys2Proof.Machine

/-! ### The sources and the zones (R4, R21, R36, R102) -/

/-- The gate that a reset sets, by the state and the force mode reloaded (R21). -/
theorem resetGate_table (running lost : Bool) (mode : ForceMode) :
    resetGate running lost mode = if lost then .lost
      else if running then (match mode with
        | .auto => .closed
        | .opened => .forcedOpen
        | .closed => .forcedClosed)
      else .closed := by
  unfold resetGate
  cases mode <;> rfl

theorem State.adopted_of_live_none {s : State} (stopped : s.live = none) : s.adopted = none := by
  rw [State.adopted, stopped]
  rfl

theorem State.engineReset_source (s : State) (i : Fin 16) :
    let x := s.carryReset.settle.source i
    x.line = List.replicate (16384 + 95) 0 ∧ x.floor = none ∧ x.rise = 0 ∧ x.holdCount = 0
    ∧ (s.live = none → x.mix = SourceMix.rest ∧ x.pos = { x := 0, y := 0 })
    ∧ (∀ b, s.adopted = some b → x.mix = (b.sourceRow i).mix ∧ x.pos = (b.sourceRow i).pos)
    ∧ x.gate = (if (s.link (linkOf i)).lost then .lost
        else if s.running then
          (match x.mix.force with
            | .auto => .closed
            | .opened => .forcedOpen
            | .closed => .forcedClosed)
        else .closed) := by
  dsimp only
  rw [s.carryReset_settle_source, s.carryReset_source]
  refine ⟨rfl, rfl, rfl, rfl, fun stopped => ?_, fun b copy => ?_, resetGate_table _ _ _⟩
  · rw [State.adopted_of_live_none stopped]
    exact ⟨rfl, rfl⟩
  · rw [copy]
    exact ⟨rfl, rfl⟩

theorem State.engineReset_zone (s : State) (z : Fin 24) :
    let x := s.carryReset.settle.zone z
    x.waiting = List.replicate 48 0 ∧ x.outLevel = -192 ∧ x.clip = false ∧ x.clipCount = 0
    ∧ (s.live = none → x.mix = ZoneMix.rest) ∧ ∀ b, s.adopted = some b → x.mix = (b.zoneRow z).mix := by
  obtain ⟨_, _, _, _, _, _, _, _, _, zones⟩ := s.carryReset_settle_read
  dsimp only
  rw [State.zone_congr zones, s.carryReset_zone]
  refine ⟨rfl, rfl, rfl, rfl, fun stopped => ?_, fun b copy => ?_⟩
  · rw [State.adopted_of_live_none stopped]
    rfl
  · rw [copy]
    rfl

/-! ### The route list (R44 to R46, R54) -/

/-- Every entry is new, LIVE and silent at its target. -/
def State.allEntriesNew (t : State) : Prop :=
  ∀ e ∈ t.routes, e.lifecycle = .live ∧ e.gain = .off ∧ e.motion = .steady
    ∧ e.delay = (t.targetDelayOf e.pair).delay ∧ e.targetDelay = e.delay

theorem State.engineReset_list (s : State) :
    let t := s.carryReset.settle
    t.allEntriesNew ∧ t.rebuild = .none
    ∧ (s.running = true → t.admitted = t.admittedNow ∧ t.routes.map (·.pair) = t.admitted.take 160
        ∧ t.unserved = t.admitted.drop 160)
    ∧ (s.running = false → t.routes = [] ∧ t.unserved = [] ∧ t.admitted = []) := by
  intro t
  cases running : s.running with
  | true =>
    obtain ⟨admitted, rebuild, routes, unserved, entries⟩ := s.carryReset_settle_running running
    exact ⟨entries, rebuild, fun _ => ⟨admitted, routes, unserved⟩, nofun⟩
  | false =>
    obtain ⟨routes, unserved, admitted, rebuild⟩ := s.carryReset_settle_noBank running
    refine ⟨fun e he => ?_, rebuild, nofun, fun _ => ⟨routes, unserved, admitted⟩⟩
    rw [show t.routes = [] from routes] at he
    cases he

/-! ### The survey and the adoption that end (R128, R129, R144) -/

section Ended

variable {s : State} (canonical : s.mem.wf)

include canonical

/-- The header and the notice of a survey that the reset ends (R128). -/
theorem State.resetting_survey (running : s.surveying = true) :
    let t := s.resetting
    t.word 0x2800 = 3 ∧ t.word 0x2809 = blockLow s.block ∧ t.word 0x280A = blockHigh s.block
    ∧ t.survey.claim = false ∧ t.noticed .survey = true := by
  obtain ⟨survey, _, words, _, _, noticed, _⟩ := s.resetting_ends canonical
  obtain ⟨state, low, high, _⟩ := words running
  refine ⟨state, low, high, ?_, ?_⟩
  · rw [survey, if_pos running]
    rfl
  · rw [noticed, running]
    rfl

/-- The bank and the notice of an adoption that the reset ends (R144). -/
theorem State.resetting_bank {a : Adoption} (adopting : s.adoption = some a) :
    s.resetting.word (bankBase a.bank) = 0 ∧ s.resetting.noticed .bank = true := by
  obtain ⟨_, _, _, banks, _, noticed, _⟩ := s.resetting_ends canonical
  refine ⟨(banks a adopting).1, ?_⟩
  rw [noticed, adopting]
  simp

/-- The cue that began what the reset ends has its outcome (R128, R144). -/
theorem State.resetting_stands {o : Origin} (ended : s.resetEnds o) :
    ∃ claim, outcomeStands s.resetting o claim .reset 0 s.block := by
  obtain ⟨_, _, words, banks, _⟩ := s.resetting_ends canonical
  rcases ended with ⟨running, rfl⟩ | ⟨a, adopting, rfl⟩
  · obtain ⟨_, _, _, stands⟩ := words running
    exact ⟨_, stands⟩
  · exact ⟨_, (banks a adopting).2⟩

/-- CALL's notice is raised where a claim stood, and only there (R129, R144). -/
theorem State.resetting_call :
    (s.resetClaimed → s.resetting.noticed .call = true)
    ∧ (¬s.resetClaimed → s.resetting.noticed .call = s.noticed .call) := by
  obtain ⟨_, _, _, _, _, noticed, _⟩ := s.resetting_ends canonical
  rw [noticed]
  refine ⟨fun claimed => ?_, fun unclaimed => ?_⟩
  · rcases claimed with ⟨running, origin, claim⟩ | ⟨a, adopting, origin, claim⟩
    · simp [running, outcomeRaises, origin, claim]
    · simp [adopting, outcomeRaises, origin, claim]
  · have quiet : ∀ (o : Origin) (claim : Bool), ¬(o = .call ∧ claim = true) → outcomeRaises o claim .call = false := by
      intro o claim none
      cases o with
      | slot k => rfl
      | call => simpa [outcomeRaises] using none
    have survey : (s.surveying && (decide (Notice.survey = Notice.call)
        || outcomeRaises s.survey.origin s.survey.claim .call)) = false := by
      cases running : s.surveying with
      | false => rfl
      | true => simpa using quiet _ _ (fun claimed => unclaimed (.inl ⟨running, claimed⟩))
    have bank : s.adoption.any (fun a => decide (Notice.bank = Notice.call) || outcomeRaises a.origin a.claim .call)
        = false := by
      cases adopting : s.adoption with
      | none => rfl
      | some a => simpa using quiet _ _ (fun claimed => unclaimed (.inr ⟨a, adopting, claimed⟩))
    rw [survey, bank]
    rfl

/-- The notices that an engine reset leaves (R128, R144). -/
theorem State.resetting_notices :
    (s.surveying = false → s.resetting.noticed .survey = s.noticed .survey)
    ∧ (s.adoption = none → s.resetting.noticed .bank = s.noticed .bank)
    ∧ noticesElse s s.resetting [.survey, .bank, .cue, .call] := by
  obtain ⟨_, _, _, _, _, noticed, _⟩ := s.resetting_ends canonical
  have unraised : ∀ (o : Origin) (claim : Bool) (n : Notice), n ≠ .cue → n ≠ .call → outcomeRaises o claim n = false := by
    intro o claim n cue call
    cases o <;> simp [outcomeRaises, Ne.symm cue, Ne.symm call]
  refine ⟨fun idle => ?_, fun free => ?_, fun n away => ?_⟩
  · rw [noticed, idle]
    simp [unraised]
  · rw [noticed, free]
    simp [unraised]
  · simp only [List.mem_cons, List.not_mem_nil, or_false, not_or] at away
    obtain ⟨survey, bank, cue, call⟩ := away
    rw [noticed]
    simp [unraised _ _ n cue call, Ne.symm survey, Ne.symm bank]

end Ended

/-! ### What ENGINE_RESET keeps -/

/-- ENGINE_RESET clears the request, and sets of the port the notices and CALL's result alone (R129, R154). -/
theorem State.engineReset_port (s : State) :
    { s.carryReset.settle.port with notice := s.port.notice, callResult := s.port.callResult }
      = { s.port with resetRequest := false } := by
  obtain ⟨_, _, _, request, _⟩ := s.carryReset_settle_read
  rw [s.resetting_resetRequest] at request
  obtain ⟨_, _, _, _, _, _, _, _, _, _, _, _, _, _, _, _, _, sets⟩ := s.engineSets_carryReset_settle
  rw [sets] at request
  rw [sets]
  dsimp only at request
  rw [request]

theorem State.engineReset_rest (s : State) :
    { s.carryReset.settle with
      mem := s.mem, port := s.port, sources := s.sources, zones := s.zones, nom := s.nom, routes := s.routes,
      admitted := s.admitted, unserved := s.unserved, rebuild := s.rebuild, scenes := s.scenes, survey := s.survey,
      adoption := s.adoption, marks := s.marks, hold := s.hold } = s := by
  obtain ⟨_, _, _, _, _, _, _, _, live, _⟩ := s.carryReset_settle_read
  obtain ⟨_, _, _, _, _, _, _, _, _, _, _, _, _, _, _, _, _, sets⟩ := s.engineSets_carryReset_settle
  rw [sets] at live
  rw [sets]
  dsimp only at live
  rw [live]

theorem State.exec_engineReset {s : State} (asked : s.port.resetRequest = true) :
    exec .engineReset s = .next s.carryReset.settle :=
  congrArg Host.Outcome.next (if_pos asked)

end Sys2Proof.Machine
end

section
/-! The state after a block start with an engine reset and no cue (O42, second part). -/

namespace Sys2Proof.Machine

/-! ### The gate notice (R12, R128) -/

theorem State.sameGateNotice_resetFrom (s : State) (r : BlockRaces) : s.ended.sameGateNotice (s.resetFrom r) := by
  have banked : s.ended.sameGateNotice (if r.bankBeforeReset then s.ended.bankOutcome else s.ended) := by
    split
    · exact s.ended.sameGateNotice_bankOutcome
    · exact State.sameGateNotice_of_port rfl
  unfold State.resetFrom
  split
  · exact State.sameGateNotice_trans banked (State.sameGateNotice_advanceSurvey _)
  · exact banked

/-- A reset ends what it ends without GATE. -/
theorem State.resetting_gate (s : State) : s.resetting.noticed .gate = s.noticed .gate := by
  have survey : s.served.resetSurvey.noticed .gate = s.noticed .gate := by
    unfold State.resetSurvey
    split
    · exact (s.served.sameGateNotice_abandonSurvey .reset).1
    · rfl
  rw [s.resetting_eq, ← survey]
  unfold State.abandonAdoption
  split
  · rfl
  · exact (State.sameGateNotice_trans (State.sameGateNotice_outcome ..)
      (State.sameGateNotice_raise _ _ (by decide))).1

section Reset

variable {s : State} {r : BlockRaces} (asked : s.port.resetRequest = true)

include asked

/-- A block start with a reset raises no GATE (R128). -/
theorem State.blockStart_reset_gate : (s.blockStart r).noticed .gate = s.noticed .gate := by
  obtain ⟨_, _, _, _, _, _, _, _, _, port, _⟩ := (s.resetFrom r).carryReset_members
  rw [(s.sameGateNotice_blockStart r).1, s.boundary_of_reset r asked, State.noticed_congr port, State.resetting_gate,
    (s.sameGateNotice_resetFrom r).1, s.ended_gate]

/-! ### The bank in force, the sources and the zones (R21, R36, R102, R141) -/

theorem State.blockStart_reset_live : (s.blockStart r).live = (s.resetFrom r).live := by
  rw [s.blockStart_live r, s.boundary_of_reset r asked]
  exact (s.resetFrom r).carryReset_members.1

end Reset

theorem State.resetFrom_link (s : State) (r : BlockRaces) (i : Fin 16) : (s.resetFrom r).link (linkOf i) = s.link (linkOf i) := by
  obtain ⟨_, _, _, linkA, linkB, _⟩ := s.sameBlock_resetFrom r
  obtain ⟨_, endedA, endedB, _⟩ := s.ended_members
  unfold State.link
  rw [linkA, linkB, endedA, endedB]

theorem State.blockStart_adopted_copy (s : State) (r : BlockRaces) (runs : s.adoptionRuns) :
    (s.blockStart r).adopted = s.copyInForce r := by
  rw [← s.boundary_adopted r runs, State.adopted, s.blockStart_live]
  rfl

section Reset

variable {s : State} {r : BlockRaces} (asked : s.port.resetRequest = true) (runs : s.adoptionRuns)
  (swept : s.sweepPos = 33) (uncued : s.takeList = [])

include asked runs swept uncued

/-- A source after a block start with a reset (R4, R21). -/
theorem State.blockStart_reset_sourceIs (i : Fin 16) :
    (s.blockStart r).source i = { Source.reset with
      mix := (resetRow (s.copyInForce r) i).mix, pos := (resetRow (s.copyInForce r) i).pos
      gate := if (s.link (linkOf i)).lost then .lost
        else match s.copyInForce r, (resetRow (s.copyInForce r) i).mix.force with
          | some _, .opened => .forcedOpen
          | some _, .closed => .forcedClosed
          | _, _ => .closed } := by
  have copy := s.resetFrom_adopted r asked runs
  have running : (s.resetFrom r).running = (s.copyInForce r).isSome := by
    rw [← copy, State.running, State.adopted, Option.isSome_map]
  rw [State.blockStart_reset_source asked swept uncued, s.boundary_of_reset r asked, State.carryReset_source, copy,
    running, resetGate_table, s.resetFrom_link r]
  cases s.copyInForce r with
  | none => rfl
  | some b => cases (resetRow (some b) i).mix.force <;> rfl

/-- A zone after a block start with a reset (R36, R102). -/
theorem State.blockStart_reset_zoneIs (z : Fin 24) :
    (s.blockStart r).zone z = { Zone.reset with mix := resetZoneMix (s.copyInForce r) z } := by
  have cued := State.cued_of_reset (r := r) asked swept uncued
  have zones : (s.blockStart r).zones = (s.boundary r).zones := by
    rw [(s.blockStart_of_followed r).2.1]
    simp [State.followed, cued]
  rw [State.zone_congr zones, s.boundary_of_reset r asked, State.carryReset_zone, s.resetFrom_adopted r asked runs]

omit runs

/-- After a block start with a reset the stack is empty, and neither a survey nor an adoption is in progress (R128,
R144). -/
theorem State.blockStart_reset_idle :
    (s.blockStart r).scenes = [] ∧ (s.blockStart r).survey.phase = .idle ∧ (s.blockStart r).adoption = none := by
  obtain ⟨_, _, _, _, _, adoption, scenes, _⟩ := s.blockStart_of_mixed r
  obtain ⟨_, _, _, empty, idle, free, _⟩ := State.boundary_reset_members (r := r) asked
  have cued := State.cued_of_reset (r := r) asked swept uncued
  have survey : (s.mixed r).motionSteps.grantFades.survey = (s.boundary r).survey := by
    simp [State.mixed, State.followed, cued]
  have unmuted : (s.mixed r).motionSteps.grantFades.mutingEnd = (s.mixed r).motionSteps.grantFades := by
    unfold State.mutingEnd State.atMutingEnd
    rw [survey, idle]
    rfl
  refine ⟨?_, ?_, ?_⟩
  · rw [scenes, ← empty]
    simp [State.mixed, State.followed, cued]
  · rw [s.blockStart_eq, unmuted, ← idle, ← survey]
    simp
  · rw [adoption, ← free]
    simp [State.mixed, State.followed, cued]

end Reset

end Sys2Proof.Machine
end

section
/-! ENGINE_RESET and a block start with a reset: what each leaves (O42). -/

namespace Sys2Proof.Machine

/-! ### A survey and an adoption at a block start with a reset (R128, R139, R140, R144) -/

/-- The header of a bank with a state, the counts of an examination, and a reason with its address (R138 to R140). -/
def bankHeaderStands (t : State) (bank : BankId) (x : Adoption) (state : Word) (reason : RejectReason) (addr : Nat) :
    Prop :=
  t.word (bankBase bank) = state ∧ t.word (bankBase bank + 1) = natWord x.clampCount
  ∧ t.word (bankBase bank + 2) = natWord x.firstClamp ∧ t.word (bankBase bank + 3) = natWord reason.code
  ∧ t.word (bankBase bank + 4) = natWord addr

section Reset

variable {s : State} {r : BlockRaces} (canonical : s.mem.wf) (asked : s.port.resetRequest = true)
  (runs : s.adoptionRuns) (swept : s.sweepPos = 33) (uncued : s.takeList = [])

include canonical asked runs swept uncued

/-- The survey that a block start with a reset finds: complete where that is due and taken first, else ended (R128). -/
theorem State.blockStart_reset_survey (free : s.adoption = none) (running : s.survey.phase ≠ .idle) :
    let t := s.blockStart r
    let v := s.survey
    let complete := r.completionBeforeReset = true
      ∧ (v.phase = .tail ∧ v.tail ≤ v.counter + 1
        ∨ v.phase = .probeMeasure ∧ v.measure ≤ v.counter + 1 ∧ v.tail = 0)
    t.noticed .survey = true
    ∧ t.word 0x2809 = blockLow (s.block + 1) ∧ t.word 0x280A = blockHigh (s.block + 1)
    ∧ (complete → t.word 0x2800 = 2
        ∧ outcomeStands t v.origin v.claim (if v.clampNote then .clamped else .ok) 0 (s.block + 1))
    ∧ (¬complete → t.word 0x2800 = 3 ∧ outcomeStands t v.origin v.claim .reset 0 (s.block + 1)) := by
  intro t v complete
  obtain ⟨words, notices, _⟩ := State.blockStart_reset_reads (r := r) asked swept uncued
  obtain ⟨raised, low, high, completes, ends⟩ := s.resetFrom_survey r canonical runs free running
  rw [s.ended_completionDue] at completes ends
  refine ⟨(notices _ (by decide) (by decide)).trans raised, (words _ (by decide)).trans low,
    (words _ (by decide)).trans high, fun done => ?_, fun undone => ?_⟩
  · obtain ⟨state, stands⟩ := completes done
    exact ⟨(words _ (by decide)).trans state, State.blockStart_reset_stands asked swept uncued stands⟩
  · obtain ⟨state, stands⟩ := ends undone
    exact ⟨(words _ (by decide)).trans state, State.blockStart_reset_stands asked swept uncued stands⟩

/-- The adoption that a block start with a reset finds: switched over or rejected where that is due and taken first, else
abandoned (R139, R140, R144). -/
theorem State.blockStart_reset_bank {a x : Adoption} (adopting : s.adoption = some a)
    (examined : a.examined s.mem = x) (idle : s.survey.phase = .idle) :
    let t := s.blockStart r
    let ends := fun (code : ResultCode) (detail : Nat) => outcomeStands t a.origin a.claim code detail (s.block + 1)
    t.noticed .bank = true
    ∧ (s.switchesAt r = true → t.liveBank = some a.bank ∧ bankHeaderStands t a.bank x 2 .none 0
        ∧ (∀ old, s.liveBank = some old → old ≠ a.bank → t.word (bankBase old) = 0)
        ∧ ends (clampCode x.clampCount) x.clampCount)
    ∧ (s.switchesAt r = false → t.live = s.live)
    ∧ (∀ reason addr, r.bankBeforeReset = true → x.illegal = some (reason, addr) →
        bankHeaderStands t a.bank x 0 reason addr ∧ ends .bankInvalid addr)
    ∧ (s.switchesAt r = false → (r.bankBeforeReset = false ∨ x.illegal = none) →
        t.word (bankBase a.bank) = 0 ∧ (∀ k, 1 ≤ k → k ≤ 4 → t.word (bankBase a.bank + k) = s.word (bankBase a.bank + k))
        ∧ ends .reset 0) := by
  intro t ends
  obtain ⟨words, notices, _⟩ := State.blockStart_reset_reads (r := r) asked swept uncued
  have stands : ∀ code detail,
      outcomeStands (s.resetFrom r).resetting x.origin x.claim code detail (s.block + 1) → ends code detail := by
    intro code detail h
    obtain ⟨_, origin, claim⟩ := a.examined_cue s.mem
    rw [examined] at origin claim
    rw [origin, claim] at h
    exact State.blockStart_reset_stands asked swept uncued h
  have bank : x.bank = a.bank := by
    rw [← examined]
    exact (a.examined_cue s.mem).1
  have low : ∀ b k, k ≤ 4 → t.word (bankBase b + k) = (s.resetFrom r).resetting.word (bankBase b + k) := by
    intro b k small
    refine words _ ?_
    cases b <;> simp only [bankBase] <;> omega
  have header : ∀ state reason addr, bankHeaderStands (s.resetFrom r).resetting x.bank x state reason addr →
      bankHeaderStands t a.bank x state reason addr := by
    rintro state reason addr ⟨h0, h1, h2, h3, h4⟩
    rw [bank] at h0 h1 h2 h3 h4
    exact ⟨(low _ 0 (by omega)).trans h0, (low _ 1 (by omega)).trans h1, (low _ 2 (by omega)).trans h2,
      (low _ 3 (by omega)).trans h3, (low _ 4 (by omega)).trans h4⟩
  have live : t.live = (s.resetFrom r).live := State.blockStart_reset_live asked
  have raised : (s.resetFrom r).resetting.noticed .bank = true → t.noticed .bank = true := fun h =>
    (notices _ (by decide) (by decide)).trans h
  cases switches : s.switchesAt r with
  | true =>
    obtain ⟨notice, installed, adopted, old, outcome⟩ :=
      State.resetFrom_switches canonical asked runs adopting examined idle switches
    have sound : x.illegal = none := by
      rw [State.switchesAt_reset asked adopting examined] at switches
      simp only [Bool.and_eq_true, Option.isNone_iff_eq_none] at switches
      obtain ⟨⟨_, legal⟩, _⟩ := switches
      exact legal
    rw [bank] at installed old
    refine ⟨raised notice, fun _ => ⟨?_, header 2 .none 0 adopted, fun b was other => ?_, stands _ _ outcome⟩, nofun,
      fun reason addr _ illegal => ?_, nofun⟩
    · rw [State.liveBank, live]
      exact installed
    · exact (low b 0 (by omega)).trans (old b was other)
    · rw [sound] at illegal
      cases illegal
  | false =>
    by_cases later : r.bankBeforeReset = false ∨ x.illegal = none
    · obtain ⟨notice, kept, edit, rest, outcome⟩ :=
        State.resetFrom_abandons canonical asked runs adopting examined idle switches later
      rw [bank] at edit rest
      refine ⟨raised notice, nofun, fun _ => live.trans kept, fun reason addr first illegal => ?_, fun _ _ =>
        ⟨(low _ 0 (by omega)).trans edit, fun k some small => (low _ k small).trans (rest k some small),
          stands _ _ outcome⟩⟩
      rcases later with none | none
      · rw [none] at first
        cases first
      · rw [none] at illegal
        cases illegal
    · have first : r.bankBeforeReset = true := by
        rw [← Bool.not_eq_false]
        exact fun none => later (.inl none)
      obtain ⟨⟨reason, addr⟩, illegal⟩ := Option.ne_none_iff_exists'.1 (fun none => later (.inr none))
      obtain ⟨notice, kept, rejected, outcome⟩ :=
        State.resetFrom_rejects canonical runs adopting examined idle first illegal
      refine ⟨raised notice, nofun, fun _ => live.trans kept, fun reason' addr' _ illegal' => ?_,
        fun _ h => absurd h later⟩
      rw [illegal, Option.some.injEq, Prod.mk.injEq] at illegal'
      obtain ⟨rfl, rfl⟩ := illegal'
      exact ⟨header _ _ _ rejected, stands _ _ outcome⟩

end Reset

/-- Settles O42: ENGINE_RESET by what its reset ends and what it sets, and a block start with a reset by the works that
are taken ahead of it. -/
theorem engineResetClearsEngine : Obligations.EngineResetClearsEngine := by
  refine ⟨fun s canonical asked => ?_, fun r s canonical asked runs swept uncued => ?_⟩
  · obtain ⟨words, notices, result, request, survey, adoption, scenes, marks, _⟩ := s.carryReset_settle_read
    obtain ⟨idle, free⟩ := s.resetting_idle
    obtain ⟨_, _, _, _, rest, _, claimed, unclaimed, cleared⟩ := s.resetting_ends canonical
    obtain ⟨entries, rebuild, listed, unlisted⟩ := s.engineReset_list
    obtain ⟨raisesCall, keepsCall⟩ := State.resetting_call canonical
    obtain ⟨keepsSurvey, keepsBank, keepsElse⟩ := State.resetting_notices canonical
    refine ⟨_, State.exec_engineReset asked, request.trans cleared, s.engineReset_source, s.engineReset_zone, scenes,
      ?_, adoption.trans free, State.settle_nom _, entries, listed, unlisted, fun running => ?_, fun a adopting => ?_,
      ⟨fun k ended => ?_, fun h => ?_, fun h => ?_, fun w away awayBank awaySlot => ?_⟩, fun h => ?_, fun h => ?_,
      fun n away => ?_, s.engineReset_port, rebuild, marks, s.engineReset_rest⟩
    · rw [survey, idle]
    · obtain ⟨state, low, high, unclaims, raised⟩ := State.resetting_survey canonical running
      exact ⟨(words _).trans state, (words _).trans low, (words _).trans high, (congrArg Survey.claim survey).trans unclaims,
        (notices _ (by decide)).trans raised⟩
    · obtain ⟨edit, raised⟩ := State.resetting_bank canonical adopting
      exact ⟨(words _).trans edit, (notices _ (by decide)).trans raised⟩
    · obtain ⟨_, state, number, detail, low, high, raised⟩ := State.resetting_stands canonical ended
      exact ⟨(words _).trans state, (words _).trans number, (words _).trans detail, (words _).trans low,
        (words _).trans high, (notices _ (by decide)).trans raised⟩
    · exact ⟨result.trans (claimed h), (notices _ (by decide)).trans (raisesCall h)⟩
    · exact ⟨result.trans (unclaimed h), (notices _ (by decide)).trans (keepsCall h)⟩
    · exact (words w).trans (rest w away awayBank awaySlot)
    · exact (notices _ (by decide)).trans (keepsSurvey h)
    · exact (notices _ (by decide)).trans (keepsBank h)
    · simp only [List.mem_cons, List.not_mem_nil, or_false, not_or] at away
      obtain ⟨noSurvey, noBank, noCue, noCall, full⟩ := away
      exact (notices n full).trans (keepsElse n (by simp [noSurvey, noBank, noCue, noCall]))
  · obtain ⟨scenes, idle, free⟩ := State.blockStart_reset_idle (r := r) asked swept uncued
    obtain ⟨entries, admitted, routes, unserved, rebuild⟩ := State.blockStart_reset_list (r := r) asked swept uncued
    refine ⟨_, rfl, (s.sameGateNotice_blockStart r).2.trans (s.boundary_resetRequest r), s.blockStart_adopted_copy r runs,
      State.blockStart_reset_sourceIs asked runs swept uncued, fun z => ?_, scenes, idle, free,
      (s.blockStart_nomCounts r).2, rebuild, entries, admitted, routes, unserved, State.blockStart_reset_gate asked,
      fun still running => State.blockStart_reset_survey canonical asked runs swept uncued still running,
      fun a adopting unsurveyed => State.blockStart_reset_bank canonical asked runs swept uncued adopting rfl unsurveyed⟩
    rw [State.blockStart_reset_zoneIs asked runs swept uncued z]
    exact ⟨rfl, rfl, rfl, rfl, rfl⟩

end Sys2Proof.Machine
end

section
/-! The words that the output links send (O7). -/

namespace Sys2Proof.Machine

/-! ### Output words (R31 to R33, R160) -/

/-- A 24-bit sample and half a unit of a 16-bit word, over 256, leaves the range of 16 bits at its top alone (R33). -/
theorem rounded_range (v : Sample) :
    -32768 ≤ (v.toInt + 128) / 256 ∧ (32767 < (v.toInt + 128) / 256 ↔ 8388480 ≤ v.toInt) := by
  have low := v.le_toInt
  norm_num at low
  omega

/-- The 16-bit word of a sample: rounded to the nearest multiple of 256, halves upwards, and saturated (R33). -/
theorem narrowWord_toInt (v : Sample) :
    (narrowWord v).toInt = max (-32768) (min 32767 ((v.toInt + 128) / 256)) := by
  have word : narrowWord v = signedWord (clampInt (-32768) 32767 ((v.toInt + 128) / 256)) := rfl
  rw [word, clampInt_eq _ _ _ (by norm_num)]
  exact signedWord_toInt _ (by omega) (by omega)

/-- A slot carries its sample whole in its top 24 bits, or rounded in its top 16 (R32, R33, R160). -/
theorem State.outSlot_carries (s : State) (z : Fin 24) (v : Sample) :
    (s.outWidth16 z = false → (s.outSlot z v).extractLsb' 8 24 = v)
    ∧ (s.outWidth16 z = true → ((s.outSlot z v).extractLsb' 16 16).toInt = min 32767 ((v.toInt + 128) / 256)) := by
  obtain ⟨bottom, _⟩ := rounded_range v
  unfold State.outSlot
  refine ⟨fun wide => ?_, fun narrow => ?_⟩
  · rw [wide]
    exact wideSlot_top v _
  · rw [narrow, if_pos rfl, narrowSlot_top, narrowWord_toInt]
    omega

theorem State.outputPeriod_outSlots (s : State) (z : Fin 24) :
    s.outputPeriod.outSlots[z.val]? = some (s.outSlot z ((s.zone z).waiting.getD s.outIndex 0)) := by
  simp [State.outputPeriod, allZones]

/-- OUTPUT_FRAME sends a frame where one is left, and nothing else (R31; log 4). -/
theorem exec_outputFrame (s : State) :
    exec .outputFrame s = .next (if s.outIndex < 48 then s.outputPeriod else s) := rfl

/-- Settles O7: the slots of a frame, and the rounding of a 16-bit word. -/
theorem outputFramesSendRoundedWords : Obligations.OutputFramesSendRoundedWords := by
  refine ⟨fun s left => ⟨s.outputPeriod, ?_, rfl, fun z v sample => ?_, rfl⟩,
    fun v => ⟨narrowWord_toInt v, rounded_range v⟩, fun s t sent => ?_⟩
  · rw [exec_outputFrame, if_pos left]
  · subst sample
    exact ⟨_, s.outputPeriod_outSlots z, s.outSlot_carries z _⟩
  · rw [exec_outputFrame, Host.Outcome.next.injEq] at sent
    subst sent
    split <;> exact ⟨rfl, rfl⟩

end Sys2Proof.Machine
end

section
/-! Coverage windows, the admitted set and the rebuild of the route list (O22). -/

namespace Sys2Proof.Machine

/-! ### Windows and admission (R26 to R30) -/

theorem Window.inside_iff (w : Window) (b : Bank) (p : Position) : w.inside b p = true ↔
    w.yStart ≤ p.y ∧ p.y ≤ w.yEnd
    ∧ if w.rows then (b.row w.table (p.y / 32)).1 ≤ p.x ∧ p.x ≤ (b.row w.table (p.y / 32)).2
      else w.xStart ≤ p.x ∧ p.x ≤ w.xEnd := by
  unfold Window.inside
  cases w.rows <;> simp [and_assoc]

/-- A window gives a true term when its inside result differs from OUTSIDE, a false one when not, and none when it is
disabled (R29). -/
theorem windowTerm_iff (enable outside inside term : Bool) :
    windowTerm enable outside inside = some term ↔ enable = true ∧ (term = true ↔ inside ≠ outside) := by
  cases enable <;> cases term <;> simp [windowTerm]

/-- A zone's windows for a source at a position: enable, OUTSIDE and inside result of each (R26 to R28). -/
def ZoneRow.windows (row : ZoneRow) (b : Bank) (i : Fin 16) (p : Position) : List (Bool × Bool × Bool) :=
  [(row.w0.enable, row.w0.outside, row.w0.inside b p), (row.w1.enable, row.w1.outside, row.w1.inside b p),
   (row.ws.enable, row.ws.outside, row.ws.set.getLsbD i.val)]

/-- The terms of a zone are those of its windows (R29). -/
theorem ZoneRow.mem_terms (row : ZoneRow) (b : Bank) (i : Fin 16) (p : Position) (term : Bool) :
    term ∈ row.terms b i p ↔ ∃ w ∈ row.windows b i p, w.1 = true ∧ (term = true ↔ w.2.2 ≠ w.2.1) := by
  have terms : row.terms b i p = (row.windows b i p).filterMap (fun w => windowTerm w.1 w.2.1 w.2.2) := rfl
  simp only [terms, List.mem_filterMap, windowTerm_iff]

/-- A pair is admitted when one enabled window gives a true term, or under logic AND when every one does (R29). -/
theorem Bank.admits_iff (b : Bank) (pair : Pair) (p : Position) : b.admits pair p = true ↔
    if (b.zoneRow pair.zone).logicAnd then
      ∀ w ∈ (b.zoneRow pair.zone).windows b pair.source p, w.1 = true → w.2.2 ≠ w.2.1
    else ∃ w ∈ (b.zoneRow pair.zone).windows b pair.source p, w.1 = true ∧ w.2.2 ≠ w.2.1 := by
  unfold Bank.admits
  dsimp only
  split
  · simp only [List.all_eq_true, ZoneRow.mem_terms, id]
    constructor
    · intro all w hw enabled
      exact of_decide_eq_true (all _ ⟨w, hw, enabled, decide_eq_true_iff⟩)
    · rintro all term ⟨w, hw, enabled, value⟩
      exact value.2 (all w hw enabled)
  · simp only [List.any_eq_true, ZoneRow.mem_terms, id]
    constructor
    · rintro ⟨term, ⟨w, hw, enabled, value⟩, true'⟩
      exact ⟨w, hw, enabled, value.1 true'⟩
    · rintro ⟨w, hw, enabled, differs⟩
      exact ⟨true, ⟨w, hw, enabled, by simp [differs]⟩, rfl⟩

theorem mem_allPairs (p : Pair) : p ∈ allPairs := by
  obtain ⟨i, z⟩ := p
  simp [allPairs, allSources, allZones]

/-- The admitted set is the pairs that the copy in force admits where their sources stand (R30). -/
theorem State.mem_admittedNow (s : State) (pair : Pair) :
    pair ∈ s.admittedNow ↔ ∃ b, s.adopted = some b ∧ b.admits pair (s.source pair.source).pos = true := by
  unfold State.admittedNow
  cases s.adopted <;> simp [mem_allPairs]

/-! ### New entries in pair order (R38, R44) -/

/-- New pairs enter a list in pair order in their places, so that it stays in pair order (R38, R44). -/
theorem State.insertPairs_ascend (s : State) (ps : List Pair) (listed : pairsAscend (s.routes.map (·.pair)))
    (ascend : pairsAscend ps) (new : ∀ p ∈ ps, ∀ e ∈ s.routes, e.pair ≠ p) :
    pairsAscend ((s.insertPairs ps).routes.map (·.pair)) := by
  have all : ∀ (ps : List Pair) (l : List Entry), pairsAscend ps → (∀ p ∈ ps, ∀ e ∈ l, e.pair ≠ p) →
      l.Pairwise (fun x y => pairRank x.pair < pairRank y.pair) →
      (ps.foldl (fun routes p => insertEntry (s.newEntry p) routes) l).Pairwise
        (fun x y => pairRank x.pair < pairRank y.pair) := by
    intro ps
    induction ps with
    | nil => exact fun l _ _ h => h
    | cons p ps ih =>
      intro l ascend new h
      obtain ⟨first, rest⟩ := List.pairwise_cons.1 ascend
      refine ih _ rest (fun q hq e he => ?_) (insertEntry_ordered _ l h (fun x hx same =>
        new p (List.mem_cons_self ..) x hx (pairRank_injective _ _ same)))
      rcases (mem_insertEntry _ e l).1 he with rfl | old
      · exact fun same => absurd (first q hq) (by rw [← same]; exact lt_irrefl _)
      · exact new q (List.mem_cons_of_mem _ hq) e old
  rw [pairsAscend, List.pairwise_map] at listed ⊢
  exact all ps s.routes ascend new listed

/-- In a list in pair order what stands before a place stands before all that stands after it. -/
theorem pairsAscend_take_drop {ps : List Pair} (ascend : pairsAscend ps) {n : Nat} {p q : Pair} (hp : p ∈ ps.take n)
    (hq : q ∈ ps.drop n) : pairRank p < pairRank q := by
  rw [← List.take_append_drop n ps] at ascend
  obtain ⟨_, _, across⟩ := List.pairwise_append.1 ascend
  exact across p hp q hq

/-! ### The rebuild (R43 to R46) -/

theorem Entry.rebuilt_pair (e : Entry) (admitted : Bool) : (e.rebuilt admitted).pair = e.pair :=
  (e.rebuilt_rest admitted).pair

/-- An entry whose pair is not admitted is RETIRING, and one that retires has target OFF (R43). -/
theorem Entry.rebuilt_retires (e : Entry) :
    (e.rebuilt false).lifecycle = .retiring ∧ (e.lifecycle = .live → (e.rebuilt false).targetGain = .off) := by
  unfold Entry.rebuilt
  cases life : e.lifecycle <;> simp [life, Entry.retire]

theorem State.mem_wanting (s : State) (p : Pair) :
    p ∈ s.wanting ↔ p ∈ s.admittedNow ∧ ∀ e ∈ s.routes, e.pair ≠ p := by
  simp [State.wanting]

theorem State.wanting_ascends (s : State) : pairsAscend s.wanting := s.admittedNow_ordered.filter _

/-- The entries that stand, with the lifecycles that a rebuild gives them (R43, R46). -/
def State.revised (s : State) : State := s.mapRoutes (fun e => e.rebuilt (s.admittedNow.contains e.pair))

theorem State.revised_pairs (s : State) : s.revised.routes.map (·.pair) = s.routes.map (·.pair) := by
  simp [State.revised, State.mapRoutes, Entry.rebuilt_pair]

/-- The list of a rebuild: the entries that stand, with the first pairs that want an entry in their places (R44). -/
theorem State.rebuildRoutes_routes (s : State) :
    s.rebuildRoutes.routes = (s.revised.insertPairs (s.wanting.take (160 - s.routes.length))).routes := by
  have length : s.revised.routes.length = s.routes.length := List.length_map _
  have routes : s.rebuildRoutes.routes
      = (s.revised.insertPairs ((s.admittedNow.filter (fun p => !s.hasEntry p)).take
          (160 - s.revised.routes.length))).routes := by
    unfold State.rebuildRoutes
    simp only [State.raiseIf_frame]
    rfl
  rw [routes, s.wanting_eq, length]

/-- A rebuild leaves both lists in order, and the unserved list empty unless the route list is full (R38, R41). -/
theorem State.rebuildRoutes_listsOrdered (s : State) (ordered : s.listsOrdered) : s.rebuildRoutes.listsOrdered := by
  obtain ⟨ascend, room, _⟩ := ordered
  obtain ⟨_, _, unserved, members⟩ := s.rebuildRoutes_lists
  have length : s.rebuildRoutes.routes.length = s.routes.length + min (160 - s.routes.length) s.wanting.length := by
    rw [s.rebuildRoutes_routes, State.insertPairs_length, List.length_take, State.revised, State.mapRoutes,
      State.withRoutes_routes, List.length_map]
  refine ⟨?_, by omega, ?_, fun e he waits => ?_, fun waiting => ?_⟩
  · rw [s.rebuildRoutes_routes]
    refine State.insertPairs_ascend _ _ (by rw [s.revised_pairs]; exact ascend)
      (s.wanting_ascends.sublist (List.take_sublist _ _)) (fun p hp e he => ?_)
    have standing : e.pair ∈ s.revised.routes.map (·.pair) := List.mem_map_of_mem he
    rw [s.revised_pairs] at standing
    obtain ⟨f, hf, same⟩ := List.mem_map.1 standing
    rw [← same]
    exact ((s.mem_wanting p).1 (List.mem_of_mem_take hp)).2 f hf
  · rw [unserved]
    exact s.wanting_ascends.sublist (List.drop_sublist _ _)
  · rw [unserved] at waits
    rcases (members e).1 he with ⟨f, hf, rfl⟩ | ⟨p, hp, rfl⟩
    · rw [Entry.rebuilt_pair] at waits
      exact ((s.mem_wanting _).1 (List.mem_of_mem_drop waits)).2 f hf rfl
    · exact lt_irrefl _ (pairsAscend_take_drop s.wanting_ascends hp waits)
  · rw [unserved, Ne, List.drop_eq_nil_iff] at waiting
    omega

/-- An entry of a rebuilt list has the pair of one that stood, or is the new entry of a pair that wanted one (R44). -/
theorem State.rebuildRoutes_new (s : State) {e : Entry} (he : e ∈ s.rebuildRoutes.routes) :
    (∃ f ∈ s.routes, f.pair = e.pair)
    ∨ ∃ p ∈ s.wanting.take (160 - s.routes.length), e = s.newEntry p := by
  obtain ⟨_, _, _, members⟩ := s.rebuildRoutes_lists
  rcases (members e).1 he with ⟨f, hf, rfl⟩ | new
  · exact .inl ⟨f, hf, (f.rebuilt_pair _).symm⟩
  · exact .inr new

/-- Settles O22: the windows, the admitted set, and a rebuild by the entries that stand and the pairs that want one. -/
theorem rebuildBringsListIntoLine : Obligations.RebuildBringsListIntoLine := by
  refine ⟨Window.inside_iff, Bank.admits_iff, fun _ => rfl, fun s => ⟨s.admittedNow_ordered, s.mem_admittedNow⟩,
    fun s ordered => ?_⟩
  obtain ⟨admitted, _, unserved, members⟩ := s.rebuildRoutes_lists
  have waits : ∀ p ∈ s.rebuildRoutes.unserved, p ∈ s.wanting.drop (160 - s.routes.length) := by
    rw [unserved]
    exact fun _ h => h
  refine ⟨admitted, fun e he => ?_, fun e he => ?_, fun p hp => ?_,
    fun p hp => ((s.mem_wanting p).1 (List.mem_of_mem_drop (waits p hp))).1, s.rebuildRoutes_listsOrdered ordered,
    fun e he new p hp => ?_, ?_⟩
  · refine ⟨_, (members _).2 (.inl ⟨e, he, rfl⟩), ?_⟩
    have stands := e.rebuilt_rest (s.admittedNow.contains e.pair)
    refine ⟨stands.pair, by rw [stands], by rw [stands], by rw [stands], fun now => ?_, fun now => ?_⟩
    · exact (e.rebuilt_live _).2 (List.contains_iff_mem.2 now)
    · rw [← List.contains_iff_mem, Bool.not_eq_true] at now
      rw [now]
      exact e.rebuilt_retires
  · rcases s.rebuildRoutes_new he with old | ⟨p, hp, rfl⟩
    · exact .inl old
    · exact .inr ⟨((s.mem_wanting p).1 (List.mem_of_mem_take hp)).1, rfl, rfl, rfl, rfl, rfl⟩
  · by_cases old : ∃ e ∈ s.routes, e.pair = p
    · obtain ⟨e, he, rfl⟩ := old
      exact .inl ⟨_, (members _).2 (.inl ⟨e, he, rfl⟩), e.rebuilt_pair _⟩
    · have wants := (s.mem_wanting p).2 ⟨hp, by simpa using old⟩
      rw [← List.take_append_drop (160 - s.routes.length) s.wanting] at wants
      rcases List.mem_append.1 wants with enters | rests
      · exact .inl ⟨_, (members _).2 (.inr ⟨p, enters, rfl⟩), rfl⟩
      · rw [unserved]
        exact .inr rests
  · rcases s.rebuildRoutes_new he with ⟨f, hf, same⟩ | ⟨q, hq, rfl⟩
    · exact absurd same (new f hf)
    · exact pairsAscend_take_drop s.wanting_ascends hq (waits p hp)
  · rw [s.rebuildRoutes_noticed]
    simp [or_comm]

end Sys2Proof.Machine
end

section
/-! The samples of a zone's exact sum: their values and their bounds (O21). -/

namespace Sys2Proof.Machine

/-! ### The linear gain at the top of the range (R97) -/

/-- The test that the search of a scaled base admits (R97, R122). -/
theorem scaledByCode_admitted (base : Nat) (code : Int) :
    (2 * scaledByCode base code - 1) ^ 40 * 10 ^ (-code).toNat ≤ (2 * base) ^ 40 * 10 ^ code.toNat := by
  have down : ∀ a b, a ≤ b →
      decide ((2 * b - 1) ^ 40 * 10 ^ (-code).toNat ≤ (2 * base) ^ 40 * 10 ^ code.toNat) = true →
      decide ((2 * a - 1) ^ 40 * 10 ^ (-code).toNat ≤ (2 * base) ^ 40 * 10 ^ code.toNat) = true := by
    intro a b below admitted
    rw [decide_eq_true_iff] at admitted ⊢
    exact (Nat.mul_le_mul_right _ (Nat.pow_le_pow_left (by omega) 40)).trans admitted
  obtain ⟨admitted, _⟩ := bitSearch_greatest
    (fun m => (2 * m - 1) ^ 40 * 10 ^ (-code).toNat ≤ (2 * base) ^ 40 * 10 ^ code.toNat) down 24 0 (by simp)
  exact of_decide_eq_true admitted

/-- No gain of the range is linearly above that of +24, which is 16306 (R97). -/
theorem linearGain_le (g : Gain) (legal : g.legal) : linearGain g ≤ 16306 := by
  cases g with
  | off => exact Nat.zero_le _
  | code c =>
    obtain ⟨_, top⟩ := legal c rfl
    have admitted := scaledByCode_admitted 4096 c
    show scaledByCode 4096 c ≤ 16306
    by_contra above
    have root : 32613 ^ 40 ≤ (2 * 4096) ^ 40 * 10 ^ 24 := calc
      32613 ^ 40 ≤ (2 * scaledByCode 4096 c - 1) ^ 40 := Nat.pow_le_pow_left (by omega) 40
      _ ≤ (2 * scaledByCode 4096 c - 1) ^ 40 * 10 ^ (-c).toNat := Nat.le_mul_of_pos_right _ (by positivity)
      _ ≤ (2 * 4096) ^ 40 * 10 ^ c.toNat := admitted
      _ ≤ (2 * 4096) ^ 40 * 10 ^ 24 := Nat.mul_le_mul_left _ (Nat.pow_le_pow_right (by norm_num) (by omega))
    norm_num at root

/-! ### Route samples and scaled samples in their ranges (R68, R70, R98) -/

theorem sample_toInt_range (x : Sample) : -8388608 ≤ x.toInt ∧ x.toInt ≤ 8388607 := by
  have low := x.le_toInt
  have high := x.toInt_lt
  norm_num at low high
  omega

theorem tapBlock_length_le (line : List Sample) (delay : Nat) : (tapBlock line delay).length ≤ 48 := by
  simp [tapBlock]

/-- A route sample lies in the range of 24 bits: a tap does, and a crossfade lies between two of them (R68, R70). -/
theorem Entry.routeSamples_range (e : Entry) (line : List Sample) (runs : e.fadeRuns) :
    ∀ x ∈ e.routeSamples line, -8388608 ≤ x ∧ x ≤ 8388607 := by
  intro x hx
  unfold Entry.routeSamples at hx
  split at hx
  · rename_i destination progress unitLength pendingTarget fading
    obtain ⟨⟨⟨old, new⟩, i⟩, hi, rfl⟩ := List.mem_map.1 hx
    have inside : i < 48 := by
      have below := List.snd_lt_of_mem_zipIdx hi
      have taps := tapBlock_length_le line e.delay
      simp only [List.length_zip] at below
      omega
    obtain ⟨low, high⟩ := crossfade_between old.toInt new.toInt _
      (fadeWeight_le unitLength progress i (runs _ _ _ _ fading).1 inside)
    have oldRange := sample_toInt_range old
    have newRange := sample_toInt_range new
    dsimp only
    omega
  · obtain ⟨tap, _, rfl⟩ := List.mem_map.1 hx
    exact sample_toInt_range tap

/-- A scaled sample at a gain of the range: at most 2048 times 16306 in magnitude (R98). -/
theorem scaledSample_range (x : Int) (lin : Nat) (range : -8388608 ≤ x ∧ x ≤ 8388607) (top : lin ≤ 16306) :
    -33394688 ≤ scaledSample x lin ∧ scaledSample x lin ≤ 33394688 := by
  obtain ⟨low, high⟩ := range
  have small : (lin : Int) ≤ 16306 := by exact_mod_cast top
  have positive : (0 : Int) ≤ lin := Int.natCast_nonneg _
  have below : -(8388608 * 16306) ≤ x * lin := by nlinarith
  have above : x * lin ≤ 8388608 * 16306 := by nlinarith
  unfold scaledSample
  omega

theorem Entry.scaledSamples_range (e : Entry) (line : List Sample) (legal : e.gain.legal) (runs : e.fadeRuns) :
    ∀ x ∈ e.scaledSamples line, -33394688 ≤ x ∧ x ≤ 33394688 := by
  intro x hx
  unfold Entry.scaledSamples at hx
  dsimp only at hx
  split at hx
  · rw [List.eq_of_mem_replicate hx]
    norm_num
  · obtain ⟨y, hy, rfl⟩ := List.mem_map.1 hx
    exact scaledSample_range y _ (e.routeSamples_range line runs y hy) (linearGain_le _ legal)

/-! ### The zone sum (R99, R100) -/

/-- The exact sums of blocks of samples, sample by sample, from `acc`. -/
def sumBlocks (blocks : List (List Int)) (acc : List Int) : List Int := blocks.foldl (List.zipWith (· + ·)) acc

/-- The entries of a zone. -/
def State.zoneEntries (s : State) (z : Fin 24) : List Entry := s.routes.filter (fun e => e.pair.zone = z)

/-- The scaled samples of an entry over its source's line. -/
def State.entryBlock (s : State) (e : Entry) : List Int := e.scaledSamples (s.source e.pair.source).line

theorem State.zoneSums_eq (s : State) (z : Fin 24) :
    s.zoneSums z = sumBlocks ((s.zoneEntries z).map s.entryBlock) (List.replicate 48 0) := by
  unfold sumBlocks State.zoneSums State.zoneEntries
  rw [List.foldl_map]
  rfl

/-- Blocks whose samples do not exceed `k` in magnitude add at most `k` each. -/
theorem sumBlocks_range (k : Int) (blocks : List (List Int)) (range : ∀ b ∈ blocks, ∀ x ∈ b, -k ≤ x ∧ x ≤ k) :
    ∀ (acc : List Int) (m : Int), (∀ v ∈ acc, -m ≤ v ∧ v ≤ m) →
      ∀ v ∈ sumBlocks blocks acc, -(m + blocks.length * k) ≤ v ∧ v ≤ m + blocks.length * k := by
  induction blocks with
  | nil =>
    intro acc m h v hv
    simpa using h v hv
  | cons b blocks ih =>
    intro acc m h v hv
    have added : ∀ w ∈ List.zipWith (· + ·) acc b, -(m + k) ≤ w ∧ w ≤ m + k := by
      intro w hw
      obtain ⟨n, inside, rfl⟩ := List.getElem_of_mem hw
      rw [List.length_zipWith] at inside
      have first := h acc[n] (List.getElem_mem _)
      have second := range b (List.mem_cons_self ..) b[n] (List.getElem_mem _)
      rw [List.getElem_zipWith]
      omega
    have rest := ih (fun c hc => range c (List.mem_cons_of_mem _ hc)) _ (m + k) added v hv
    have length : m + k + blocks.length * k = m + (b :: blocks).length * k := by
      rw [List.length_cons]
      push_cast
      ring
    rwa [length] at rest

/-- Sample `i` of the sums is the sum of the samples `i`, where every block has one. -/
theorem sumBlocks_getElem? (i : Nat) (blocks : List (List Int)) (long : ∀ b ∈ blocks, i < b.length) :
    ∀ (acc : List Int) (a : Int), acc[i]? = some a →
      (sumBlocks blocks acc)[i]? = some (a + (blocks.map (fun b => b.getD i 0)).sum) := by
  induction blocks with
  | nil =>
    intro acc a first
    simpa [sumBlocks] using first
  | cons b blocks ih =>
    intro acc a first
    have here : b[i]? = some (b.getD i 0) := by
      have inside := long b (List.mem_cons_self ..)
      rw [List.getD_eq_getElem _ _ inside]
      exact List.getElem?_eq_getElem inside
    have added : (List.zipWith (· + ·) acc b)[i]? = some (a + b.getD i 0) := by
      rw [List.getElem?_zipWith, first, here]
    rw [List.map_cons, List.sum_cons, ← add_assoc]
    exact ih (fun c hc => long c (List.mem_cons_of_mem _ hc)) _ _ added

/-- A zone has at most one entry of each source (R38, R41). -/
theorem State.zoneEntries_length_le (s : State) (z : Fin 24) (ordered : s.listsOrdered) :
    (s.zoneEntries z).length ≤ 16 := by
  obtain ⟨ascend, _⟩ := ordered
  rw [pairsAscend, List.pairwise_map] at ascend
  have apart : ((s.zoneEntries z).map (fun e => e.pair.source)).Nodup := by
    rw [List.Nodup, List.pairwise_map]
    refine (ascend.filter _).imp_of_mem (fun {a b} ha hb below same => ?_)
    have zoneA : a.pair.zone = z := by simpa using (List.mem_filter.1 ha).2
    have zoneB : b.pair.zone = z := by simpa using (List.mem_filter.1 hb).2
    rw [pairRank, pairRank, same, zoneA, zoneB] at below
    exact lt_irrefl _ below
  simpa using apart.length_le_card

/-- The exact sums stay inside sixteen entries at +24 (R99, R100). -/
theorem State.zoneSums_range (s : State) (z : Fin 24) (ordered : s.listsOrdered) (gains : s.gainsLegal)
    (runs : s.fadesRun) : ∀ v ∈ s.zoneSums z, -534315008 ≤ v ∧ v ≤ 534315008 := by
  intro v hv
  rw [s.zoneSums_eq] at hv
  have few := s.zoneEntries_length_le z ordered
  have bounded := sumBlocks_range 33394688 _ (fun b hb x hx => ?_) (List.replicate 48 0) 0 ?_ v hv
  · rw [List.length_map] at bounded
    omega
  · obtain ⟨e, he, rfl⟩ := List.mem_map.1 hb
    have listed := List.mem_of_mem_filter he
    exact e.scaledSamples_range _ (gains e listed).1 (runs e listed) x hx
  · intro w hw
    rw [List.eq_of_mem_replicate hw]
    norm_num

/-- A scaled sample is the route sample times the linear gain over 4096, also at linear gain 0 (R98). -/
theorem Entry.scaledSamples_getD (e : Entry) (line : List Sample) (i : Nat) :
    (e.scaledSamples line).getD i 0 = (e.routeSamples line).getD i 0 * (linearGain e.gain : Int) / 4096 := by
  unfold Entry.scaledSamples
  dsimp only
  split
  · rename_i silent
    rw [silent, Nat.cast_zero, mul_zero, Int.zero_ediv, List.getD_eq_getElem?_getD, List.getElem?_replicate]
    split <;> rfl
  · have zero : (0 : Int) = scaledSample 0 (linearGain e.gain) := by simp [scaledSample]
    conv_lhs => rw [zero]
    exact List.getD_map _ _ _

/-- A sample of a zone's exact sum (R99). -/
theorem State.zoneSums_getElem? (s : State) (z : Fin 24) (i : Nat) (lines : ∀ x ∈ s.sources, x.line.length = 16384 + 95)
    (sixteen : s.sources.length = 16) (delays : s.delaysLegal) (inside : i < 48) :
    (s.zoneSums z)[i]? = some ((s.zoneEntries z).map (fun e =>
      (e.routeSamples (s.source e.pair.source).line).getD i 0 * (linearGain e.gain : Int) / 4096)).sum := by
  have long : ∀ b ∈ (s.zoneEntries z).map s.entryBlock, i < b.length := by
    intro b hb
    obtain ⟨e, he, rfl⟩ := List.mem_map.1 hb
    rw [State.entryBlock, e.scaledSamples_length _ (lines _ (s.source_mem sixteen _)) (delays e (List.mem_of_mem_filter he))]
    exact inside
  rw [s.zoneSums_eq, sumBlocks_getElem? i _ long _ 0 (List.getElem?_replicate_of_lt inside), zero_add, List.map_map]
  congr 2
  exact List.map_congr_left (fun e _ => e.scaledSamples_getD _ i)

/-- The saturation changes a sum exactly where it overflows (R100). -/
theorem overflows24_iff (v : Int) : overflows24 v = true ↔ (saturate24 v).toInt ≠ v := by
  rw [saturate24_toInt, overflows24, Bool.or_eq_true, decide_eq_true_iff, decide_eq_true_iff]
  omega

end Sys2Proof.Machine
end

section
/-! The zones from the end of a block to the end of its block start (O21). -/

namespace Sys2Proof.Machine

/-! ### The zones that a block's end leaves (R31, R34, R36, R100) -/

theorem State.ended_port (s : State) : s.ended.port = s.finishSweep.measureLevels.endZones.port := rfl

theorem State.ended_zones (s : State) : s.ended.zones = s.finishSweep.measureLevels.endZones.zones := by
  simp [State.ended, State.nextBlock, State.endBlock, State.validate]

/-- The end of a sweep and the measuring of the levels leave what a zone's end reads. -/
theorem State.zoneEnd_measured (s : State) (z : Fin 24) :
    s.finishSweep.measureLevels.zoneEnd z (s.finishSweep.measureLevels.zone z) = s.zoneEnd z (s.zone z) := by
  have routes : s.finishSweep.measureLevels.routes = s.routes := by simp
  have sources : s.finishSweep.measureLevels.sources = s.sources := by simp
  have survey : s.finishSweep.measureLevels.survey = s.survey := by simp
  have zones : s.finishSweep.measureLevels.zones = s.zones := by simp
  unfold State.zoneEnd State.zoneSums State.probeBlock
  simp only [routes, survey, State.source_congr sources, State.zone_congr zones]

/-- A zone at the end of a block that no engine reset discards. -/
theorem State.ended_zone (s : State) (z : Fin 24) (plain : s.port.resetRequest = false) :
    s.ended.zone z = s.zoneEnd z (s.zone z) := by
  have request : s.finishSweep.measureLevels.port.resetRequest = false := by
    rw [← State.endZones_resetRequest, ← s.ended_port, s.ended_resetRequest, plain]
  have zones : s.ended.zones
      = (s.finishSweep.measureLevels.mapZones s.finishSweep.measureLevels.zoneEnd).zones := by
    rw [s.ended_zones, State.endZones, request]
    simp
  rw [State.zone_congr zones, State.zone_mapZones, s.zoneEnd_measured]

/-- A zone that clipped in the ended block raises CLIP (R100). -/
theorem State.ended_clip (s : State) (z : Fin 24) (clipped : (s.ended.zone z).clip = true) :
    s.ended.noticed .clip = true := by
  let u := s.finishSweep.measureLevels
  let w := if u.port.resetRequest then u.mapZones (fun _ x => x.discardSum) else u.mapZones u.zoneEnd
  have length : w.zones.length = 24 := by
    unfold w
    split <;> exact State.mapZones_length _ _
  have zones : s.ended.zones = w.zones := by
    rw [s.ended_zones, State.endZones]
    simp [w, u]
  have any : w.zones.any (·.clip) = true :=
    List.any_eq_true.2 ⟨_, w.zone_mem length z, by rw [← State.zone_congr zones]; exact clipped⟩
  have raised : s.ended.noticed .clip = (w.zones.any (·.clip) && decide (Notice.clip = .clip) || w.noticed .clip) := by
    rw [State.noticed_congr s.ended_port, State.endZones, State.raiseIf_noticed]
    rfl
  rw [raised, any]
  rfl

/-! ### What the works of a boundary and the cues leave of them -/

/-- What every work and cue of a block start leaves: the sums, their levels and the clipping stand, but that the probe
block of the ended block may be discarded (R127; log 13), and no notice is cleared. -/
structure ZonesStand (s t : State) : Prop where
  probed : t.marks.probedZone = s.marks.probedZone
  zone : ∀ z, ∃ mix waiting, t.zone z = { s.zone z with mix := mix, waiting := waiting }
    ∧ (waiting = (s.zone z).waiting ∨ s.marks.probedZone = some z ∧ waiting = zeroBlock)
  notices : ∀ n, s.noticed n = true → t.noticed n = true

theorem ZonesStand.of_mix {s t : State} (marks : t.marks.probedZone = s.marks.probedZone)
    (zone : ∀ z, ∃ mix, t.zone z = { s.zone z with mix := mix }) (port : t.port = s.port) : ZonesStand s t where
  probed := marks
  zone z := by
    obtain ⟨mix, set⟩ := zone z
    exact ⟨mix, _, set, .inl rfl⟩
  notices n h := by rwa [State.noticed_congr port]

theorem ZonesStand.of_members {s t : State} (marks : t.marks.probedZone = s.marks.probedZone) (zones : t.zones = s.zones)
    (port : t.port = s.port) : ZonesStand s t :=
  .of_mix marks (fun z => ⟨(s.zone z).mix, State.zone_congr zones z⟩) port

theorem ZonesStand.of_notices {s t : State} (marks : t.marks = s.marks) (zones : t.zones = s.zones)
    (notices : ∀ n, s.noticed n = true → t.noticed n = true) : ZonesStand s t where
  probed := by rw [marks]
  zone z := ⟨_, _, State.zone_congr zones z, .inl rfl⟩
  notices := notices

theorem ZonesStand.trans {s t u : State} (h : ZonesStand s t) (k : ZonesStand t u) : ZonesStand s u where
  probed := k.probed.trans h.probed
  zone z := by
    obtain ⟨mix, waiting, first, stands⟩ := h.zone z
    obtain ⟨mix', waiting', second, stands'⟩ := k.zone z
    rw [first, h.probed] at stands'
    rw [first] at second
    refine ⟨mix', waiting', second, ?_⟩
    rcases stands' with rfl | discarded
    · exact stands
    · exact .inr discarded
  notices n noticed := k.notices n (h.notices n noticed)

theorem State.zonesStand_raise (s : State) (n : Notice) : ZonesStand s (s.raise n) :=
  .of_notices rfl rfl (fun m noticed => by rw [s.raise_noticed, noticed, Bool.or_true])

theorem State.zonesStand_outcome (s : State) (o : Origin) (claim : Bool) (code : ResultCode) (detail : Nat) :
    ZonesStand s (s.outcome o claim code detail) :=
  .of_notices (by simp) (by simp) (fun m noticed => by rw [s.outcome_noticed_eq, noticed, Bool.or_true])

/-- Work that ends with a cue's outcome and a notice of its own: a survey's end, a switch-over, a rejection. -/
theorem ZonesStand.outcome_raise {s t : State} (h : ZonesStand s t) (o : Origin) (claim : Bool) (code : ResultCode)
    (detail : Nat) (n : Notice) : ZonesStand s ((t.outcome o claim code detail).raise n) :=
  h.trans ((t.zonesStand_outcome o claim code detail).trans (State.zonesStand_raise _ n))

/-! ### The cues of a block start (R127, R166) -/

/-- A zone after another waiting sum is given to zone `z`, which a list that ends before `z` does not take. -/
theorem State.zone_setWaiting (s : State) (z y : Fin 24) (w : List Sample) :
    (s.setZone z { s.zone z with waiting := w }).zone y = s.zone y
    ∨ y = z ∧ (s.setZone z { s.zone z with waiting := w }).zone y = { s.zone y with waiting := w } := by
  have read : (s.setZone z { s.zone z with waiting := w }).zone y
      = (s.zones.set z.val { s.zone z with waiting := w }).getD y.val .reset := rfl
  rw [read, List.getD_eq_getElem?_getD, List.getElem?_set]
  by_cases same : z = y
  · subst same
    rw [if_pos rfl]
    split
    · exact .inr ⟨rfl, rfl⟩
    · have here : s.zone z = .reset := List.getD_eq_default _ _ (by omega)
      exact .inl here.symm
  · rw [if_neg (fun h => same (Fin.ext h)), ← List.getD_eq_getElem?_getD]
    exact .inl rfl

/-- An abort discards the waiting probe block of the surveyed zone alone (R127). -/
theorem State.zonesStand_stopProbe (s : State) : ZonesStand s s.stopProbe := by
  refine ⟨by simp, fun z => ?_, fun n noticed => by rwa [State.noticed_congr (s := s) (by simp)]⟩
  unfold State.stopProbe
  split
  · rename_i probed
    rcases s.zone_setWaiting s.survey.zone z zeroBlock with same | ⟨rfl, discarded⟩
    · exact ⟨_, _, same, .inl rfl⟩
    · exact ⟨_, _, discarded, .inr ⟨probed, rfl⟩⟩
  · exact ⟨_, _, rfl, .inl rfl⟩

theorem State.zonesStand_abandonSurvey (s : State) (code : ResultCode) : ZonesStand s (s.abandonSurvey code) :=
  .outcome_raise (s := s) (t := (s.storeAll (surveyEndHeader s.block 3)).withSurvey s.survey.discarded)
    (.of_members rfl rfl rfl) ..

theorem State.zonesStand_setZones (s : State) (body : List Word) (low high : Word) :
    ZonesStand s (s.setZones body low high) := by
  refine .of_mix (by simp) (fun z => ?_) (by simp)
  unfold State.setZones
  rw [State.zone_mapZones]
  split <;> exact ⟨_, rfl⟩

theorem ZonesStand.doneClamped {s t : State} (h : ZonesStand s t) (item : CueItem) (clamps : Nat) :
    ZonesStand s (t.doneClamped item clamps) := by
  rw [State.doneClamped_eq]
  exact h.trans (t.zonesStand_outcome ..)

theorem State.zone_restoreScene (s : State) (scene : Scene) (z : Fin 24) :
    (s.restoreScene scene).zone z = { s.zone z with mix := scene.zones.getD z.val (s.zone z).mix } := by
  unfold State.restoreScene
  rw [State.zone_mapZones]
  rfl

/-- A cue sets the fields of zones, and an abort discards a probe block; the sums, the levels and the clipping stand. -/
theorem State.zonesStand_applyItem (s : State) (item : CueItem) : ZonesStand s (s.applyItem item) := by
  have faulted : ∀ f, ZonesStand s (s.faulted item f) := fun _ => s.zonesStand_outcome ..
  unfold State.applyItem
  split
  · unfold State.applySourceSet
    split
    · exact faulted _
    · exact .doneClamped (.of_members (by simp) (by simp) (by simp)) item _
  · unfold State.applyZoneSet
    split
    · exact faulted _
    · exact (s.zonesStand_setZones ..).doneClamped item _
  · unfold State.applyScenePush
    split
    · exact faulted _
    · exact .doneClamped (.of_mix (by simp) (fun z => ⟨_, s.zone_pushScene _ z⟩) (by simp)) item _
  · unfold State.applyScenePop
    split
    · exact faulted _
    · unfold State.carryScenePop
      split
      · exact .of_members rfl rfl rfl
      · rename_i scene rest _
        exact .trans (t := { s.restoreScene scene with scenes := rest })
          (.of_mix (by simp) (fun z => ⟨_, s.zone_restoreScene scene z⟩) (by simp))
          (State.zonesStand_outcome ..)
  · unfold State.applySceneClear
    split
    · exact faulted _
    · exact .trans (t := { s with scenes := [] }) (.of_members rfl rfl rfl) (State.zonesStand_outcome ..)
  · unfold State.applyBankAdopt
    split
    · exact faulted _
    · unfold State.carryBankAdopt
      split <;> exact .of_members rfl rfl rfl
  · unfold State.applySurveyStart
    split
    · exact faulted _
    · refine .of_members ?_ (by simp) (by simp)
      unfold State.carrySurveyStart
      split
      · simp [State.beginSurvey]
      · rfl
  · unfold State.applySurveyAbort
    split
    · exact faulted _
    · refine s.zonesStand_stopProbe.trans ((s.stopProbe.zonesStand_abandonSurvey .aborted).trans ?_)
      exact .trans (t := (s.stopProbe.abandonSurvey .aborted).requestRebuild) (.of_members rfl rfl rfl)
        (State.zonesStand_outcome ..)
  · exact faulted _

theorem State.zonesStand_applyTaken (s : State) : ZonesStand s s.applyTaken :=
  s.applyTaken_keeps (P := ZonesStand s) (.of_members rfl rfl rfl) (fun t item h => h.trans (t.zonesStand_applyItem item))

/-! ### The works of a boundary (R120 to R125, R139 to R141) -/

theorem State.zonesStand_advanceSurvey (s : State) : ZonesStand s s.advanceSurvey := by
  cases due : s.completionDue with
  | true =>
    rw [s.advanceSurvey_due due]
    unfold State.completeSurvey
    exact .outcome_raise (.of_members (by simp) (by simp) (by simp)) ..
  | false =>
    by_cases idle : s.survey.phase = .idle
    · rw [s.advanceSurvey_idle idle]
      exact .of_members rfl rfl rfl
    · obtain ⟨v, advanced, _⟩ := s.advanceSurvey_undue due idle
      rw [advanced]
      exact .of_members rfl rfl rfl

theorem State.zonesStand_installBank (s : State) (a : Adoption) : ZonesStand s (s.installBank a) := by
  unfold State.installBank
  exact .outcome_raise (.of_members (by simp) (by simp) (by simp)) ..

theorem State.zonesStand_installDue (s : State) : ZonesStand s s.installDue := by
  unfold State.installDue
  split
  · exact .of_members rfl rfl rfl
  · split
    · exact s.zonesStand_installBank _
    · exact .of_members rfl rfl rfl

theorem State.zonesStand_bankReject (s : State) : ZonesStand s s.bankReject := by
  unfold State.bankReject
  split
  · exact .of_members rfl rfl rfl
  · split
    · exact .of_members rfl rfl rfl
    · unfold State.rejectBank
      exact .outcome_raise (.of_members (by simp) (by simp) (by simp)) ..

theorem State.zonesStand_evaluateGates (s : State) : ZonesStand s s.evaluateGates := by
  refine .of_notices (by simp) (by simp) (fun n noticed => ?_)
  rw [State.noticed_congr s.evaluateGates_port, State.raiseIf_noticed, noticed, Bool.or_true]

theorem State.zone_reloadMix (s : State) (z : Fin 24) : ∃ mix, s.reloadMix.zone z = { s.zone z with mix := mix } := by
  cases live : s.adopted with
  | none => exact ⟨(s.zone z).mix, by rw [s.reloadMix_none live]⟩
  | some b =>
    obtain ⟨_, zone, _⟩ := s.reloadMix_parts b live
    exact ⟨(b.zoneRow z).mix, zone z⟩

theorem State.zonesStand_reloadMix (s : State) : ZonesStand s s.reloadMix :=
  .of_mix (by simp) s.zone_reloadMix (by simp)

/-- A boundary without an engine reset leaves the sums of the ended block. -/
theorem State.zonesStand_boundary (s : State) (r : BlockRaces) (plain : s.port.resetRequest = false) :
    ZonesStand s.ended (s.boundary r) := by
  have advanced : ZonesStand s.ended (s.ended.advanced r) := by
    unfold State.advanced
    split
    · exact .of_members rfl rfl rfl
    · exact s.ended.zonesStand_advanceSurvey
  rw [s.boundary_plain r plain, State.plainBoundary_eq]
  refine advanced.trans ?_
  split
  · exact (State.zonesStand_installDue _).trans ((State.zonesStand_evaluateGates _).trans (State.zonesStand_reloadMix _))
  · exact (State.zonesStand_bankReject _).trans (State.zonesStand_evaluateGates _)

theorem State.zonesStand_taken (s : State) (r : BlockRaces) : ZonesStand (s.boundary r) (s.boundary r).glide.applyTaken :=
  .trans (.of_members (by simp) (by simp) (by simp)) (State.zonesStand_applyTaken _)

/-- The cues of a block start, and a completion that has waited for them. -/
theorem State.zonesStand_cued (s : State) (r : BlockRaces) : ZonesStand (s.boundary r) (s.cued r) := by
  have taken := s.zonesStand_taken r
  have advanced := taken.trans (State.zonesStand_advanceSurvey _)
  unfold State.cued State.lateCompletion
  split
  · exact taken
  · split
    · exact advanced
    · exact taken

/-! ### The zones of the block that begins -/

/-- A zone after a block start without an engine reset: that of the ended block, with its fields as set and its probe block
perhaps discarded (R31, R34, R100, R127). -/
theorem State.blockStart_zone (s : State) (r : BlockRaces) (plain : s.port.resetRequest = false) (z : Fin 24) :
    ∃ mix waiting, (s.blockStart r).zone z = { s.zoneEnd z (s.zone z) with mix := mix, waiting := waiting }
      ∧ (waiting = (s.zoneEnd z (s.zone z)).waiting ∨ s.probedZone = some z ∧ waiting = zeroBlock) := by
  obtain ⟨mix, waiting, zone, stands⟩ := ((s.zonesStand_boundary r plain).trans (s.zonesStand_taken r)).zone z
  have probed : s.ended.marks.probedZone = s.probedZone := by
    simp [State.ended, State.nextBlock, State.endBlock, State.validate, State.probedZone]
  rw [s.ended_zone z plain, probed] at stands
  rw [s.ended_zone z plain] at zone
  exact ⟨mix, waiting, (State.zone_congr (s.blockStart_zones r) z).trans zone, stands⟩

/-- The boundary sets the fields of zones alone (R141). -/
theorem State.boundary_zone (s : State) (r : BlockRaces) (plain : s.port.resetRequest = false) (z : Fin 24) :
    ∃ mix, (s.boundary r).zone z = { s.ended.zone z with mix := mix } := by
  have found : (s.evaluating r).evaluateGates.zone z = s.ended.zone z :=
    State.zone_congr (by simp [s.evaluating_zones]) z
  rw [s.boundary_evaluated r plain, ← found]
  split
  · exact State.zone_reloadMix _ z
  · generalize (s.evaluating r).evaluateGates.zone z = x
    exact ⟨x.mix, rfl⟩

/-- With no cue taken no probe block is discarded. -/
theorem State.blockStart_waiting_uncued (s : State) (r : BlockRaces) (plain : s.port.resetRequest = false)
    (swept : s.sweepPos = 33) (uncued : s.takeList = []) (z : Fin 24) :
    ((s.blockStart r).zone z).waiting = (s.zoneEnd z (s.zone z)).waiting := by
  obtain ⟨mix, zone⟩ := s.boundary_zone r plain z
  have taken : (s.boundary r).glide.applyTaken.zones = (s.boundary r).zones := by
    have list : (s.boundary r).glide.takeList = [] := by simp [s.boundary_takeList r swept, uncued]
    unfold State.applyTaken
    rw [list]
    simp
  rw [State.zone_congr ((s.blockStart_zones r).trans taken), zone, s.ended_zone z plain]

/-- CLIP is raised where a zone clipped, and no work of the block start clears it (R100). -/
theorem State.blockStart_clip (s : State) (r : BlockRaces) (plain : s.port.resetRequest = false) (z : Fin 24)
    (clipped : (s.zoneEnd z (s.zone z)).clip = true) : (s.blockStart r).noticed .clip = true := by
  rw [← s.ended_zone z plain] at clipped
  rw [(s.blockStart_reads r).notices .clip (by decide)]
  exact ((s.zonesStand_boundary r plain).trans (s.zonesStand_cued r)).notices _ (s.ended_clip z clipped)

/-- A zone after a block start with an engine reset: zeros for one block, and nothing clipped (R36, R102). -/
theorem State.blockStart_zone_reset (s : State) (r : BlockRaces) (asked : s.port.resetRequest = true) (z : Fin 24) :
    ∃ mix, (s.blockStart r).zone z = { Zone.reset with mix := mix } := by
  obtain ⟨mix, waiting, zone, stands⟩ := (s.zonesStand_taken r).zone z
  have silent : (s.boundary r).zone z = { Zone.reset with mix := resetZoneMix (s.resetFrom r).adopted z } := by
    rw [s.boundary_of_reset r asked, State.carryReset_zone]
  have zeros : waiting = zeroBlock := by
    rcases stands with same | ⟨_, discarded⟩
    · rw [same, silent]
      rfl
    · exact discarded
  refine ⟨mix, ?_⟩
  rw [State.zone_congr (s.blockStart_zones r), zone, silent, zeros]
  rfl

/-- The zone that the probe of the ended block goes to, by the statement's words (R121). -/
theorem State.probedZone_eq_some (s : State) (z : Fin 24) :
    s.probedZone = some z
      ↔ (s.survey.phase = .probeSettle ∨ s.survey.phase = .probeMeasure) ∧ s.survey.zone = z := by
  unfold State.probedZone
  cases s.survey.phase <;> simp [SurveyPhase.probing]

/-- What waits after a block's end: the probe block in the probed zone, the saturated sums in any other (R31, R121). -/
theorem State.zoneEnd_waits (s : State) (z : Fin 24) (x : Zone) :
    (s.zoneEnd z x).outLevel = levelOf (squareSum (s.zoneEnd z x).waiting) 48
    ∧ (s.probedZone ≠ some z → (s.zoneEnd z x).waiting = (s.zoneSums z).map saturate24)
    ∧ (s.probedZone = some z →
        (s.zoneEnd z x).waiting = probeSamples (probeMagnitude s.survey.probeCode) 48 s.survey.lfsr) := by
  have block : s.probeBlock z = if s.probedZone = some z then
      some (probeSamples (probeMagnitude s.survey.probeCode) 48 s.survey.lfsr) else none := by
    unfold State.probeBlock State.probedZone
    cases s.survey.phase.probing <;> simp
  refine ⟨rfl, fun elsewhere => ?_, fun probed => ?_⟩
  · rw [State.zoneEnd, block, if_neg elsewhere]
    rfl
  · rw [State.zoneEnd, block, if_pos probed]
    rfl

/-- A zone clips where a sample of its exact sum leaves the range of 24 bits (R100). -/
theorem State.zoneEnd_clips (s : State) (z : Fin 24) (x : Zone) :
    ((∃ v ∈ s.zoneSums z, v < -8388608 ∨ 8388607 < v) →
      (s.zoneEnd z x).clip = true ∧ (s.zoneEnd z x).clipCount = min (x.clipCount + 1) 65535)
    ∧ (¬(∃ v ∈ s.zoneSums z, v < -8388608 ∨ 8388607 < v) →
      (s.zoneEnd z x).clip = false ∧ (s.zoneEnd z x).clipCount = x.clipCount) := by
  have any : (s.zoneSums z).any overflows24 = true ↔ ∃ v ∈ s.zoneSums z, v < -8388608 ∨ 8388607 < v := by
    simp [overflows24]
  unfold State.zoneEnd
  dsimp only
  rw [← any]
  cases (s.zoneSums z).any overflows24 <;> simp

/-- Settles O21: the samples of a zone's exact sum and their bounds, and the zones of a block start without and with an
engine reset. -/
theorem zoneSumsFitAccumulator : Obligations.ZoneSumsFitAccumulator := by
  refine ⟨State.zoneSums_range, fun v => ⟨saturate24_toInt v, overflows24_iff v⟩, State.zoneSums_getElem?,
    fun r s z plain => ?_, fun r s asked => ⟨_, rfl, fun z => ?_⟩⟩
  · obtain ⟨mix, waiting, zone, stands⟩ := s.blockStart_zone r plain z
    obtain ⟨level, summed, probed⟩ := s.zoneEnd_waits z (s.zone z)
    obtain ⟨clips, fits⟩ := s.zoneEnd_clips z (s.zone z)
    have clip := s.blockStart_clip r plain z
    have uncued := fun swept taken => s.blockStart_waiting_uncued r plain swept taken z
    simp only [← s.probedZone_eq_some z]
    refine ⟨_, rfl, fun elsewhere => ?_, fun here => ?_, fun overflown => ?_, fun fitting => ?_⟩
    · rw [or_iff_left (fun discarded => elsewhere discarded.1), summed elsewhere] at stands
      rw [summed elsewhere] at level
      rw [zone]
      exact ⟨stands, level⟩
    · rw [probed here] at level stands uncued
      refine ⟨?_, ?_, uncued⟩
      · rw [zone]
        exact level
      · rw [zone]
        exact stands.imp_right And.right
    · obtain ⟨flag, count⟩ := clips overflown
      rw [zone]
      exact ⟨flag, count, clip flag⟩
    · rw [zone]
      exact fits fitting
  · obtain ⟨mix, zone⟩ := s.blockStart_zone_reset r asked z
    rw [zone]
    exact ⟨rfl, rfl, rfl, rfl⟩

end Sys2Proof.Machine
end

section
/-! The route list's order and the fade pool through every operation (O54). -/

namespace Sys2Proof.Machine

/-! ### The lists in order (R38, R41) -/

/-- The lists are in order by their pairs alone. -/
theorem State.listsOrdered_congr {s t : State} (pairs : t.routes.map (·.pair) = s.routes.map (·.pair))
    (unserved : t.unserved = s.unserved) (ordered : s.listsOrdered) : t.listsOrdered := by
  obtain ⟨ascend, room, waiting, apart, full⟩ := ordered
  have length : t.routes.length = s.routes.length := by simpa using congrArg List.length pairs
  refine ⟨by rw [pairs]; exact ascend, by rw [length]; exact room, by rw [unserved]; exact waiting, fun e he => ?_,
    by rw [length, unserved]; exact full⟩
  have standing : e.pair ∈ t.routes.map (·.pair) := List.mem_map_of_mem he
  rw [pairs] at standing
  obtain ⟨f, hf, same⟩ := List.mem_map.1 standing
  rw [unserved, ← same]
  exact apart f hf

theorem State.listsOrdered_of_lists {s t : State} (routes : t.routes = s.routes) (unserved : t.unserved = s.unserved)
    (ordered : s.listsOrdered) : t.listsOrdered :=
  State.listsOrdered_congr (by rw [routes]) unserved ordered

/-- A change of every entry that keeps the pairs keeps the order. -/
theorem State.listsOrdered_mapRoutes {s : State} (f : Entry → Entry) (pair : ∀ e, (f e).pair = e.pair)
    (ordered : s.listsOrdered) : (s.mapRoutes f).listsOrdered := by
  refine State.listsOrdered_congr (s := s) ?_ rfl ordered
  rw [State.mapRoutes, State.withRoutes_routes, List.map_map]
  exact List.map_congr_left (fun e _ => pair e)

theorem State.listsOrdered_empty {t : State} (routes : t.routes = []) (unserved : t.unserved = []) :
    t.listsOrdered := by
  simp [State.listsOrdered, pairsAscend, routes, unserved]

theorem State.listsOrdered_retarget {s : State} (chosen : Fin 16 → Bool) (ordered : s.listsOrdered) :
    (s.retarget chosen).listsOrdered := by
  refine State.listsOrdered_mapRoutes _ (fun e => ?_) ordered
  split <;> rfl

/-- What a removal leaves of the list before its admissions (R48). -/
def State.unretired (s : State) : State := s.withRoutes (s.routes.filter (fun e => !e.removable))

/-- The entries that a removal takes out (R48). -/
def State.retired (s : State) : Nat := (s.routes.filter (fun e => e.removable)).length

theorem State.removeRetired_lists (s : State) :
    s.removeRetired.routes = (s.unretired.insertPairs (s.unserved.take s.retired)).routes
    ∧ s.removeRetired.unserved = s.unserved.drop s.retired := ⟨rfl, rfl⟩

theorem State.unretired_length (s : State) : s.unretired.routes.length + s.retired = s.routes.length := by
  have parts := List.length_eq_length_filter_add (l := s.routes) (fun e => e.removable)
  unfold State.unretired State.retired
  rw [State.withRoutes_routes]
  omega

/-- Every removal is followed by an admission while a pair waits, so that the list stays full (R48, R49). -/
theorem State.listsOrdered_removeRetired {s : State} (ordered : s.listsOrdered) : s.removeRetired.listsOrdered := by
  obtain ⟨ascend, room, waiting, apart, full⟩ := ordered
  obtain ⟨routes, unserved⟩ := s.removeRetired_lists
  have removed := s.unretired_length
  have length : s.removeRetired.routes.length
      = s.unretired.routes.length + min s.retired s.unserved.length := by
    rw [routes, State.insertPairs_length, List.length_take]
  have old : ∀ e ∈ s.unretired.routes, e ∈ s.routes := fun e he => List.mem_of_mem_filter he
  have enters : ∀ p ∈ s.unserved.take s.retired, ∀ e ∈ s.unretired.routes, e.pair ≠ p := by
    intro p hp e he same
    exact apart e (old e he) (by rw [same]; exact List.mem_of_mem_take hp)
  refine ⟨?_, by omega, ?_, fun e he waits => ?_, fun left => ?_⟩
  · rw [routes]
    refine State.insertPairs_ascend _ _ ?_ (waiting.sublist (List.take_sublist _ _)) enters
    exact ascend.sublist (List.filter_sublist.map _)
  · rw [unserved]
    exact waiting.sublist (List.drop_sublist _ _)
  · rw [unserved] at waits
    rw [routes, State.mem_insertPairs] at he
    rcases he with stays | ⟨p, hp, rfl⟩
    · exact apart e (old e stays) (List.mem_of_mem_drop waits)
    · exact lt_irrefl _ (pairsAscend_take_drop waiting hp waits)
  · rw [unserved, Ne, List.drop_eq_nil_iff] at left
    have wasFull := full (fun none => left (by rw [none]; exact Nat.zero_le _))
    omega

theorem State.listsOrdered_serveRebuild {s : State} (ordered : s.listsOrdered) : s.serveRebuild.listsOrdered := by
  have rebuilt := s.rebuildRoutes_listsOrdered ordered
  unfold State.serveRebuild
  (repeat' split) <;> first | exact rebuilt | exact ordered

/-! ### The fade pool (R74) -/

/-- The free step of an entry leaves it waiting at most (R65 to R67). -/
theorem Entry.freeStep_unfading (e : Entry) (slip : Nat) : (e.freeStep slip).motion.isFading = false := by
  unfold Entry.freeStep
  dsimp only
  (repeat' split) <;> rfl

theorem Entry.motionStep_isFading (e : Entry) (slip : Nat) (fading : (e.motionStep slip).motion.isFading = true) :
    e.motion.isFading = true := by
  unfold Entry.motionStep at fading
  split at fading
  · cases fading
  · split at fading
    · rename_i m
      rw [m]
      rfl
    · rw [Entry.freeStep_unfading] at fading
      cases fading

/-- A new target leaves a running fade running and begins none (R62). -/
theorem Entry.placeTarget_isFading (e : Entry) (t : TargetDelay) :
    (e.placeTarget t).motion.isFading = e.motion.isFading := by
  cases m : e.motion <;> simp [Entry.placeTarget, m, Motion.withTarget, Motion.isFading]

/-- A change that begins no fade takes no unit. -/
theorem heldUnits_map_le (f : Entry → Entry)
    (fades : ∀ e, (f e).motion.isFading = true → e.motion.isFading = true) (l : List Entry) :
    heldUnits (l.map f) ≤ heldUnits l := by
  unfold heldUnits
  rw [← List.countP_eq_length_filter, ← List.countP_eq_length_filter, List.countP_map]
  exact List.countP_mono_left (fun e _ => fades e)

theorem heldUnits_insertEntry (e : Entry) (rests : e.motion.isFading = false) (l : List Entry) :
    heldUnits (insertEntry e l) = heldUnits l := by
  induction l with
  | nil => simp [insertEntry, heldUnits, rests]
  | cons x l ih =>
    unfold heldUnits at *
    unfold insertEntry
    split
    · simp [rests]
    · simp only [List.filter_cons]
      split <;> simp [ih]

theorem State.heldUnits_insertPairs (s : State) (ps : List Pair) :
    heldUnits (s.insertPairs ps).routes = heldUnits s.routes := by
  unfold State.insertPairs
  rw [State.withRoutes_routes]
  generalize s.routes = l
  induction ps generalizing l with
  | nil => rfl
  | cons p ps ih => exact (ih _).trans (heldUnits_insertEntry (s.newEntry p) rfl l)

theorem State.fadesWithinPool_mapRoutes {s : State} (f : Entry → Entry)
    (fades : ∀ e, (f e).motion.isFading = true → e.motion.isFading = true) (h : s.fadesWithinPool) :
    (s.mapRoutes f).fadesWithinPool := (heldUnits_map_le f fades s.routes).trans h

theorem State.fadesWithinPool_retarget {s : State} (chosen : Fin 16 → Bool) (h : s.fadesWithinPool) :
    (s.retarget chosen).fadesWithinPool := by
  refine State.fadesWithinPool_mapRoutes _ (fun e fading => ?_) h
  split at fading
  · rw [Entry.placeTarget_isFading] at fading
    exact fading
  · exact fading

theorem State.fadesWithinPool_rebuildRoutes {s : State} (h : s.fadesWithinPool) : s.rebuildRoutes.fadesWithinPool := by
  unfold State.fadesWithinPool
  rw [s.rebuildRoutes_routes, State.heldUnits_insertPairs]
  exact State.fadesWithinPool_mapRoutes _ (fun e fading => by rw [(e.rebuilt_motion _).1] at fading; exact fading) h

theorem State.fadesWithinPool_serveRebuild {s : State} (h : s.fadesWithinPool) : s.serveRebuild.fadesWithinPool := by
  have rebuilt := State.fadesWithinPool_rebuildRoutes h
  unfold State.serveRebuild
  (repeat' split) <;> first | exact rebuilt | exact h

theorem State.fadesWithinPool_removeRetired {s : State} (h : s.fadesWithinPool) :
    s.removeRetired.fadesWithinPool := by
  unfold State.fadesWithinPool
  rw [s.removeRetired_lists.1, State.heldUnits_insertPairs]
  exact ((List.filter_sublist.filter _).length_le).trans h

/-- No more units are granted than are free (R75). -/
theorem State.fadesWithinPool_grantFades {s : State} (h : s.fadesWithinPool) : s.grantFades.fadesWithinPool := by
  refine (grantUnits_held s.fadeLength s.routes s.freeUnits).trans ?_
  simp only [State.fadesWithinPool, State.freeUnits, Config.fadeUnits] at *
  omega

/-! ### The invariants -/

/-- An invariant of the route list and the unserved list alone that the operations on them keep. -/
structure KeptLists (P : State → Prop) : Prop where
  same : ∀ s t : State, t.routes = s.routes → t.unserved = s.unserved → P s → P t
  empty : ∀ t : State, t.routes = [] → t.unserved = [] → P t
  retarget : ∀ s chosen, P s → P (s.retarget chosen)
  serve : ∀ s, P s → P s.serveRebuild
  remove : ∀ s, P s → P s.removeRetired
  compose : ∀ s, P s → P s.compose
  glide : ∀ s, P s → P s.glide
  motion : ∀ s, P s → P s.motionSteps
  fadeEnd : ∀ s pair, P s →
    P (s.mapRoutes (fun e => if e.pair = pair ∧ e.atFadeEnd then e.endFade.freeStep s.slipLimit else e))
  grant : ∀ s, P s → P s.grantFades

theorem KeptLists.request {P : State → Prop} (k : KeptLists P) {s : State} (h : P s) : P s.requestRebuild :=
  k.same s _ rfl rfl h

theorem KeptLists.kept {P : State → Prop} (k : KeptLists P) : Kept P where
  quiet := by
    rintro s t ⟨_, _, _, _, _, _, _, _, _, rfl⟩ h
    exact k.same s _ rfl rfl h
  powerOn := by
    rintro s t ⟨_, _, _, _, _, _, _, _, _, rfl⟩ _
    exact k.empty _ rfl rfl
  survey s _ _ := k.same s _ rfl rfl
  meter s _ _ := k.same s _ rfl rfl
  input s _ _ := k.same s _ (by simp) (by simp)
  output s _ _ := k.same s _ rfl rfl
  sweep s _ _ := k.same s _ rfl rfl
  links s := k.same s _ rfl rfl
  riseFloor s _ := k.same s _ rfl rfl
  expire s _ _ := k.same s _ rfl rfl
  evaluate s _ := k.same s _ (by simp) (by simp)
  rearbitrate s := k.same s _ (by simp) (by simp)
  release s := k.same s _ (by simp) (by simp)
  follow s _ _ := k.same s _ (by simp) (by simp)
  count s := k.same s _ rfl rfl
  setSources s body mask _ h := by
    have moved := k.retarget _ (s.moves body mask) (k.same s (s.mapSources (fun i x =>
      if namesSource mask i then x.takeBody body else x)) rfl rfl h)
    unfold State.setSources
    dsimp only
    split
    · exact k.request moved
    · exact moved
  setZones s _ _ _ := k.same s _ rfl rfl
  saveScene s _ _ := k.same s _ rfl rfl
  restore s _ _ _ _ := k.same s _ rfl rfl
  clearScenes s := k.same s _ rfl rfl
  adopt s _ _ _ _ := k.same s _ rfl rfl
  unclaim s := k.same s _ rfl rfl
  validate s := k.same s _ rfl rfl
  dropAdoption s := k.same s _ rfl rfl
  install s _ _ _ _ _ := k.same s _ rfl rfl
  reload s h := by
    cases live : s.adopted with
    | none => rw [s.reloadMix_none live]; exact h
    | some b =>
      rw [s.reloadMix_live b live]
      exact k.request (k.retarget _ _ (k.same s _ rfl rfl h))
  beginSurvey s _ _ _ := k.same s _ rfl rfl
  stopProbe s := k.same s _ (by simp) (by simp)
  request s := k.same s _ rfl rfl
  serve := k.serve
  remove := k.remove
  compose := k.compose
  glide := k.glide
  motion := k.motion
  fadeEnd := k.fadeEnd
  grant := k.grant
  resetUnits _ _ _ := k.empty _ rfl rfl
  endZones s := k.same s _ rfl rfl
  discardSums s := k.same s _ rfl rfl

theorem Entry.freeStep_pair (e : Entry) (slip : Nat) : (e.freeStep slip).pair = e.pair := by
  unfold Entry.freeStep
  dsimp only
  (repeat' split) <;> rfl

theorem Entry.endFade_pair (e : Entry) : e.endFade.pair = e.pair := by
  unfold Entry.endFade
  split <;> rfl

theorem Entry.motionStep_pair (e : Entry) (slip : Nat) : (e.motionStep slip).pair = e.pair := by
  unfold Entry.motionStep
  (repeat' split) <;> first
    | rfl
    | exact e.freeStep_pair slip
    | exact (e.endFade.freeStep_pair slip).trans e.endFade_pair

theorem grantUnits_pairs (fadeLength : Nat) : ∀ (l : List Entry) (free : Nat),
    (grantUnits fadeLength free l).map (·.pair) = l.map (·.pair)
  | [], free => by cases free <;> rfl
  | e :: l, 0 => rfl
  | e :: l, free + 1 => by
    unfold grantUnits
    split
    · exact congrArg (e.pair :: ·) (grantUnits_pairs fadeLength l free)
    · exact congrArg (e.pair :: ·) (grantUnits_pairs fadeLength l (free + 1))

theorem keptLists_listsOrdered : KeptLists State.listsOrdered where
  same _ _ routes unserved := State.listsOrdered_of_lists routes unserved
  empty _ := State.listsOrdered_empty
  retarget _ chosen := State.listsOrdered_retarget chosen
  serve _ := State.listsOrdered_serveRebuild
  remove _ := State.listsOrdered_removeRetired
  compose s := State.listsOrdered_mapRoutes _ (fun e => (s.composeEntry_pair e).1)
  glide _ := State.listsOrdered_mapRoutes _ (fun _ => rfl)
  motion s := State.listsOrdered_mapRoutes _ (fun e => e.motionStep_pair s.slipLimit)
  fadeEnd s _ := State.listsOrdered_mapRoutes _ (fun e => by
    split
    · exact (e.endFade.freeStep_pair s.slipLimit).trans e.endFade_pair
    · rfl)
  grant _ := State.listsOrdered_congr (grantUnits_pairs _ _ _) rfl

theorem keptLists_fadesWithinPool : KeptLists State.fadesWithinPool where
  same s t routes _ h := by
    unfold State.fadesWithinPool
    rw [routes]
    exact h
  empty t routes _ := by
    unfold State.fadesWithinPool
    rw [routes]
    exact Nat.zero_le _
  retarget _ chosen := State.fadesWithinPool_retarget chosen
  serve _ := State.fadesWithinPool_serveRebuild
  remove _ := State.fadesWithinPool_removeRetired
  compose s := State.fadesWithinPool_mapRoutes _ (fun e fading => by
    rw [(s.composeEntry_motion e).1] at fading
    exact fading)
  glide _ := State.fadesWithinPool_mapRoutes _ (fun _ fading => fading)
  motion s := State.fadesWithinPool_mapRoutes _ (fun e => e.motionStep_isFading s.slipLimit)
  fadeEnd s _ := State.fadesWithinPool_mapRoutes _ (fun e fading => by
    split at fading
    · rw [Entry.freeStep_unfading] at fading
      cases fading
    · exact fading)
  grant _ := State.fadesWithinPool_grantFades

/-- Settles O54: every operation on the lists keeps their order and their room, and every grant stays within the
pool. -/
theorem routeListsStayOrdered : Obligations.RouteListsStayOrdered :=
  ⟨keptLists_listsOrdered.kept.keptByStep, keptLists_fadesWithinPool.kept.keptByStep⟩

end Sys2Proof.Machine
end

section
/-! What a survey's end and a settling leave to be read (O34, O35, O37). -/

namespace Sys2Proof.Machine

/-! ### Outcomes and sources through a settling -/

/-- A settling writes no word. -/
theorem State.settle_word (u : State) (w : Nat) : u.settle.word w = u.word w := by
  rw [State.word, u.settle_frame.2.2.2.1]
  rfl

theorem State.settle_callResult (u : State) : u.settle.port.callResult = u.port.callResult := by
  obtain ⟨_, _, _, _, _, _, _, _, settled⟩ := u.settlesTo_settle
  rw [settled]

/-- An outcome stands through a settling. -/
theorem outcomeStands_settle {u : State} {o : Origin} {claim : Bool} {code : ResultCode} {detail : Nat}
    {block : BlockNo} (h : outcomeStands u o claim code detail block) :
    outcomeStands u.settle o claim code detail block :=
  outcomeStands_congr (fun w _ => u.settle_word w) (fun raised => (u.settle_noticed _ (by decide)).trans raised)
    (fun raised => (u.settle_noticed _ (by decide)).trans raised) u.settle_callResult h

/-- A settling may close a gate, and leaves the mix and the positions. -/
theorem State.settle_mix (u : State) (i : Fin 16) :
    (u.settle.source i).mix = (u.source i).mix ∧ (u.settle.source i).pos = (u.source i).pos := by
  refine ⟨?_, u.samePlan_settle.2 i⟩
  rw [State.source_congr u.settle_sources]
  unfold State.releaseLast
  split
  · rw [State.source_mapSources]
    split <;> rfl
  · rfl

/-- An outcome in a slot stands through one that goes elsewhere (R170, R174). -/
theorem State.outcomeStands_beside {s : State} (canonical : s.mem.wf) {k : Fin 32} {o : Origin} {claim claim' : Bool}
    {code code' : ResultCode} {detail detail' : Nat} {block : BlockNo} (apart : o ≠ .slot k)
    (h : outcomeStands s (.slot k) claim code detail block) :
    outcomeStands (s.outcome o claim' code' detail') (.slot k) claim code detail block := by
  have kept : ∀ d, d < 32 → (s.outcome o claim' code' detail').word (slotBase k + d) = s.word (slotBase k + d) := by
    intro d small
    refine s.outcome_word_away o claim' code' detail' canonical _ (fun j slot => ?_)
    have other : k ≠ j := fun same => apart (by rw [slot, same])
    simp only [outcomeAddrs, List.mem_cons, List.not_mem_nil, or_false, not_or]
    exact ⟨slotBase_apart k j other d 0 small (by omega), slotBase_apart k j other d 2 small (by omega),
      slotBase_apart k j other d 3 small (by omega), slotBase_apart k j other d 4 small (by omega),
      slotBase_apart k j other d 5 small (by omega)⟩
  obtain ⟨state, number, rest, low, high, raised⟩ := h
  exact ⟨(kept 0 (by omega)).trans state, (kept 2 (by omega)).trans number, (kept 3 (by omega)).trans rest,
    (kept 4 (by omega)).trans low, (kept 5 (by omega)).trans high,
    by rw [State.outcome_noticed_eq, raised, Bool.or_true]⟩

/-! ### The end of a survey asks for a rebuild (R51) -/

/-- A change that keeps the lists and the hold decision, raises no ROUTE_FULL and requests a rebuild. -/
theorem asksFrom_survey {s u : State} {asks : Bool} (admitted : u.admitted = s.admitted)
    (unserved : u.unserved = s.unserved) (routes : u.routes = s.routes)
    (full : u.noticed .routeFull = s.noticed .routeFull) (request : u.rebuild = askedRebuild asks s.rebuild)
    (hold : u.hold = s.hold) (live : u.live = s.live) (running : s.running = true) : AsksFrom s u asks where
  admitted := admitted
  unserved := unserved
  listed := by
    unfold State.listed
    rw [routes]
  full := full
  request := request
  hold := hold
  running := by
    rw [State.running, live]
    exact running

/-- The end of a survey changes what a cue may change, and the survey unit. -/
theorem State.rest_of_survey {s t : State} {v : Survey} (h : (s.withSurvey v).cueSets t)
    (scenes : t.scenes = s.scenes) :
    { t with mem := s.mem, port := s.port, sources := s.sources, zones := s.zones, nom := s.nom, routes := s.routes,
             admitted := s.admitted, unserved := s.unserved, rebuild := s.rebuild, hold := s.hold,
             survey := s.survey } = s := by
  obtain ⟨_, _, _, _, _, _, _, _, _, _, _, _, rfl⟩ := h
  have same : _ = s.scenes := scenes
  dsimp only at same
  subst same
  rfl

/-! ### The records of the survey area (R118, R124, section 9.5) -/

section Records

variable (m : Memory) (a b c d : Fin 16 → Word)

/-- Every source's record. -/
def surveyRecords : List (Nat × Word) := allSources.flatMap (fun i => surveyRecord i (a i) (b i) (c i) (d i))

theorem surveyRecords_inside {cell : Nat × Word} (h : cell ∈ surveyRecords a b c d) :
    0x2810 ≤ cell.1 ∧ cell.1 < 0x2850 := by
  obtain ⟨i, _, here⟩ := List.mem_flatMap.1 h
  have small := i.isLt
  simp only [surveyRecord, surveyBase, List.mem_cons, List.not_mem_nil, or_false] at here
  rcases here with rfl | rfl | rfl | rfl <;> dsimp only <;> omega

theorem surveyRecords_away {w : Nat} (away : w < 0x2810 ∨ 0x2850 ≤ w) :
    (m.writeAll (surveyRecords a b c d)).read w = m.read w :=
  Memory.read_writeAll_away _ w (fun cell h => by
    have := surveyRecords_inside a b c d h
    omega) m

/-- A record written is read back: no other source's record reaches its words. -/
theorem surveyRecords_word (canonical : m.wf) (i : Fin 16) :
    let n := m.writeAll (surveyRecords a b c d)
    n.read (0x2810 + 4 * i.val) = a i ∧ n.read (0x2811 + 4 * i.val) = b i
    ∧ n.read (0x2812 + 4 * i.val) = c i ∧ n.read (0x2813 + 4 * i.val) = d i := by
  obtain ⟨first, rest, split⟩ := List.append_of_mem (List.mem_finRange i)
  have distinct : (first ++ i :: rest).Nodup := split ▸ List.nodup_finRange 16
  have apart : ∀ j ∈ rest, j ≠ i := fun j hj same =>
    (List.nodup_cons.1 (List.nodup_append.1 distinct).2.1).1 (same ▸ hj)
  let record := fun j => surveyRecord j (a j) (b j) (c j) (d j)
  let before := m.writeAll (first.flatMap record)
  have wf : before.wf := Memory.writeAll_wf _ _ canonical
  have cells : m.writeAll (surveyRecords a b c d) = (before.writeAll (record i)).writeAll (rest.flatMap record) := by
    have all : surveyRecords a b c d = first.flatMap record ++ (record i ++ rest.flatMap record) := by
      unfold surveyRecords
      rw [show allSources = first ++ i :: rest from split]
      simp [record]
    rw [all, Memory.writeAll_append, Memory.writeAll_append]
  have small := i.isLt
  have later : ∀ w, 0x2810 + 4 * i.val ≤ w → w < 0x2814 + 4 * i.val →
      (m.writeAll (surveyRecords a b c d)).read w = (before.writeAll (record i)).read w := by
    intro w low high
    rw [cells]
    refine Memory.read_writeAll_away _ _ (fun cell h => ?_) _
    obtain ⟨j, hj, here⟩ := List.mem_flatMap.1 h
    have other : j.val ≠ i.val := fun same => apart j hj (Fin.ext same)
    simp only [record, surveyRecord, surveyBase, List.mem_cons, List.not_mem_nil, or_false] at here
    rcases here with rfl | rfl | rfl | rfl <;> dsimp only <;> omega
  have written : ∀ w, (before.writeAll (record i)).read w
      = if w = 0x2810 + 4 * i.val then a i else if w = 0x2811 + 4 * i.val then b i
        else if w = 0x2812 + 4 * i.val then c i else if w = 0x2813 + 4 * i.val then d i else before.read w := by
    intro w
    simp only [record, surveyRecord, surveyBase, show 0x2800 + 0x10 + 4 * i.val + 1 = 0x2811 + 4 * i.val by omega,
      show 0x2800 + 0x10 + 4 * i.val + 2 = 0x2812 + 4 * i.val by omega,
      show 0x2800 + 0x10 + 4 * i.val + 3 = 0x2813 + 4 * i.val by omega]
    rw [Memory.read_writeAll_cons _ _ _ _ wf, Memory.read_writeAll_cons _ _ _ _ wf,
      Memory.read_writeAll_cons _ _ _ _ wf, Memory.read_writeAll_cons _ _ _ _ wf]
    · rfl
    all_goals first
      | (dsimp only [Config.memoryWords]; omega)
      | simp
  refine ⟨?_, ?_, ?_, ?_⟩
  all_goals
    rw [later _ (by omega) (by omega), written]
    simp

end Records

end Sys2Proof.Machine
end

section
/-! The completion and the abort of a survey (O35, O37). -/

namespace Sys2Proof.Machine

/-! ### The completion (R121, R123 to R125) -/

/-- The levels of a record, over the whole windows (R124). -/
def Survey.quietLevel (v : Survey) (i : Fin 16) : Int := levelOf (v.quietSums.getD i.val 0) (48 * v.quiet)

def Survey.probeLevel (v : Survey) (i : Fin 16) : Int := levelOf (v.probeSums.getD i.val 0) (48 * v.measure)

/-- The status of a record: LOST, or MEASURED where the probe stands 20 half-dB above the quiet, else MASKED (R124). -/
def Survey.statusWord (v : Survey) (i : Fin 16) : Word :=
  if v.lostNotes.getD i.val false then 3 else if 20 ≤ v.probeLevel i - v.quietLevel i then 1 else 2

/-- The coupling of a record (R124). -/
def Survey.couplingWord (v : Survey) (i : Fin 16) : Word :=
  if v.lostNotes.getD i.val false then 0x7FFF else signedWord (v.probeLevel i - v.probeCode)

theorem Survey.resultRecords_eq (v : Survey) :
    allSources.flatMap v.resultRecord = surveyRecords v.statusWord (fun i => signedWord (v.quietLevel i))
      (fun i => signedWord (v.probeLevel i)) v.couplingWord := by
  unfold surveyRecords
  congr 1
  funext i
  unfold Survey.resultRecord Survey.statusWord Survey.couplingWord
  split <;> rfl

/-- The words that a completion leaves above the slots: the records, then the header (R124, R125). -/
theorem State.completeSurvey_word (s : State) (canonical : s.mem.wf) (w : Nat) (high : 0x440 ≤ w) :
    s.completeSurvey.word w = if w = 0x2809 then blockLow s.block else if w = 0x280A then blockHigh s.block
      else if w = 0x2800 then 2 else (s.mem.writeAll (allSources.flatMap s.survey.resultRecord)).read w := by
  let records := s.storeAll (allSources.flatMap s.survey.resultRecord)
  let code : ResultCode := if s.survey.clampNote then .clamped else .ok
  let stored := s.storeAll (allSources.flatMap s.survey.resultRecord ++ surveyEndHeader s.block 2)
  let u := (stored.withSurvey { s.survey with phase := .idle, claim := false }).requestRebuild
  have outcome : s.completeSurvey.word w = (u.outcome s.survey.origin s.survey.claim code 0).word w := rfl
  have two : stored = records.storeAll (surveyEndHeader records.block 2) := s.storeAll_append _ _
  rw [outcome, u.outcome_word_away _ _ _ _ (Memory.writeAll_wf _ _ canonical) w (fun k _ => outcomeAddrs_below k high)]
  exact (congrArg (fun v : State => v.word w) two).trans
    (records.surveyEndHeader_word 2 (Memory.writeAll_wf _ _ canonical) w)

/-- What a completion leaves beside its words (R51, R125). -/
theorem State.completeSurvey_rest (s : State) :
    let t := s.completeSurvey
    t.survey = { s.survey with phase := .idle, claim := false } ∧ t.routes = s.routes ∧ t.admitted = s.admitted
    ∧ t.unserved = s.unserved ∧ t.rebuild = askedRebuild true s.rebuild ∧ t.hold = s.hold ∧ t.live = s.live
    ∧ t.noticed .routeFull = s.noticed .routeFull
    ∧ t.port.callResult = (if s.survey.origin = .call ∧ s.survey.claim = true
        then BitVec.ofNat 4 (if s.survey.clampNote then ResultCode.clamped else .ok).number
        else s.port.callResult) := by
  intro t
  let stored := s.storeAll (allSources.flatMap s.survey.resultRecord ++ surveyEndHeader s.block 2)
  let u := (stored.withSurvey { s.survey with phase := .idle, claim := false }).requestRebuild
  have ended : t = (u.outcome s.survey.origin s.survey.claim (if s.survey.clampNote then .clamped else .ok) 0).raise
      .survey := rfl
  refine ⟨by simp [ended, u], by simp [ended, u, stored], by simp [ended, u, stored], by simp [ended, u, stored], ?_,
    by simp [ended, u, stored], by simp [ended, u, stored], ?_, ?_⟩
  · rw [ended, State.raise_rebuild, (u.outcome_frame _ _ _ _).2.2.2.2.2.2.2.2.2.2.2.2.2.2.1]
    rfl
  · rw [ended, State.raise_noticed, State.outcome_noticed _ _ _ _ _ _ (by decide) (by decide)]
    rfl
  · exact u.outcome_callResult _ _ _ _

/-- A survey whose last block has ended completes, by the command of its phase, and the change is settled. -/
theorem exec_completes {c : Instr} {s : State}
    (due : c = .surveyComplete ∧ s.survey.phase = .tail ∧ s.survey.counter = s.survey.tail
      ∨ c = .measureEnd ∧ s.survey.phase = .probeMeasure ∧ s.survey.counter = s.survey.measure
        ∧ s.survey.tail = 0) : exec c s = .next s.completeSurvey.settle := by
  rcases due with ⟨rfl, phase, ended⟩ | ⟨rfl, phase, ended, untailed⟩
  · have due : s.atTailEnd = true := by simp [State.atTailEnd, phase, ended]
    show execSurveyComplete s = _
    unfold execSurveyComplete State.tailEnd
    rw [due]
    rfl
  · have due : s.atMeasureEnd = true := by simp [State.atMeasureEnd, phase, ended]
    show execMeasureEnd s = _
    unfold execMeasureEnd State.measureEnd
    rw [due, if_pos untailed]
    rfl

/-- Settles O37: the records and the header written, the survey IDLE, its outcome, and the rebuild that its end asks
for. -/
theorem surveyCompletes : Obligations.SurveyCompletes := by
  intro c s canonical running due quiet probe
  obtain ⟨survey, routes, admitted, unserved, rebuild, hold, live, full, call⟩ := s.completeSurvey_rest
  obtain ⟨_, _, state, low, high, stands, raised⟩ := s.completeSurvey_ends canonical
  have word : ∀ w, 0x440 ≤ w → s.completeSurvey.settle.word w = _ := fun w above =>
    (s.completeSurvey.settle_word w).trans (s.completeSurvey_word canonical w above)
  have records := s.survey.resultRecords_eq
  have stood := outcomeStands_settle stands
  refine ⟨_, exec_completes due, by rw [State.settle_survey, survey], by rw [State.settle_survey, survey],
    (State.settle_word _ _).trans state, (State.settle_word _ _).trans low, (State.settle_word _ _).trans high,
    fun a above below => ?_, fun i => ?_, (State.settle_noticed _ _ (by decide)).trans raised,
    settledFrom_settle (asksFrom_survey admitted unserved routes full rebuild hold live running),
    fun e he => State.settle_stands _ e (by rw [routes]; exact he), fun k slot => ?_, fun origin claim => ?_,
    fun origin claim => ?_⟩
  · rw [word a (by omega), if_neg (by omega), if_neg (by omega), if_neg (by omega), records,
      surveyRecords_away _ _ _ _ _ (.inl (by omega))]
    rfl
  · obtain ⟨status, quietWord, probeWord, coupling⟩ := surveyRecords_word s.mem s.survey.statusWord
      (fun i => signedWord (s.survey.quietLevel i)) (fun i => signedWord (s.survey.probeLevel i))
      s.survey.couplingWord canonical i
    have record : ∀ d, d < 4 → s.completeSurvey.settle.word (0x2810 + d + 4 * i.val)
        = (s.mem.writeAll (surveyRecords s.survey.statusWord (fun i => signedWord (s.survey.quietLevel i))
            (fun i => signedWord (s.survey.probeLevel i)) s.survey.couplingWord)).read (0x2810 + d + 4 * i.val) := by
      intro d small
      rw [word _ (by omega), if_neg (by omega), if_neg (by omega), if_neg (by omega), records]
    refine ⟨(record 1 (by omega)).trans quietWord, (record 2 (by omega)).trans probeWord, fun lost => ⟨?_, ?_⟩,
      fun heard => ⟨?_, ?_⟩⟩
    · exact (record 0 (by omega)).trans (status.trans (if_pos lost))
    · exact (record 3 (by omega)).trans (coupling.trans (if_pos lost))
    · exact (record 0 (by omega)).trans (status.trans (by rw [Survey.statusWord, heard]; rfl))
    · exact (record 3 (by omega)).trans (coupling.trans (by rw [Survey.couplingWord, heard]; rfl))
  · rw [slot] at stood
    obtain ⟨done, number, detail, first, second, cue⟩ := stood
    refine ⟨done.trans ?_, number.trans ?_, detail, first, second, cue⟩
    all_goals split <;> rfl
  · rw [origin, claim] at stood
    obtain ⟨result, notice⟩ := stood rfl
    refine ⟨result.trans ?_, notice⟩
    split <;> rfl
  · rw [State.settle_callResult, call, claim]
    exact if_neg (fun h => Bool.false_ne_true h.2)

end Sys2Proof.Machine
end

section
/-! The abort of a survey (O35). -/

namespace Sys2Proof.Machine

/-- The state of an abort before its own outcome: the probe stopped, the survey ended ABORTED, a rebuild asked for. -/
def State.surveyAborted (s : State) : State := (s.stopProbe.abandonSurvey .aborted).requestRebuild

theorem State.carrySurveyAbort_eq (s : State) (item : CueItem) :
    s.carrySurveyAbort item = s.surveyAborted.outcome item.origin item.claim .ok 0 := rfl

/-- What the ended survey leaves in the memory, its outcome, the notices and CALL's result (R127). -/
theorem State.surveyAborted_ends (s : State) (canonical : s.mem.wf) :
    let u := s.surveyAborted
    u.mem.wf ∧ u.survey = s.survey.discarded ∧ u.word 0x2800 = 3 ∧ u.word 0x2809 = blockLow s.block
    ∧ u.word 0x280A = blockHigh s.block ∧ outcomeStands u s.survey.origin s.survey.claim .aborted 0 s.block
    ∧ (∀ w, w ∉ [0x2800, 0x2809, 0x280A] → (∀ k, s.survey.origin = .slot k → w ∉ outcomeAddrs k) → u.word w = s.word w)
    ∧ (∀ n, u.noticed n
        = (decide (Notice.survey = n) || (outcomeRaises s.survey.origin s.survey.claim n || s.noticed n)))
    ∧ u.port.callResult
        = (if s.survey.origin = .call ∧ s.survey.claim = true then 12 else s.port.callResult) := by
  have memory : s.stopProbe.mem = s.mem := by simp
  have port : s.stopProbe.port = s.port := by simp
  have survey : s.stopProbe.survey = s.survey := by simp
  have block : s.stopProbe.block = s.block := by simp
  have ends := s.stopProbe.abandonSurvey_ends .aborted (by rw [memory]; exact canonical)
  simp only [State.word, State.noticed, memory, port, survey, block] at ends
  exact ends

theorem State.cueSets_surveyAborted (s : State) : (s.withSurvey s.survey.discarded).cueSets s.surveyAborted := by
  have stopped : s.stopProbe = { s with zones := s.stopProbe.zones } := by
    unfold State.stopProbe
    split <;> rfl
  let ended := (s.stopProbe.storeAll (surveyEndHeader s.stopProbe.block 3)).withSurvey s.stopProbe.survey.discarded
  have header : (s.withSurvey s.survey.discarded).cueSets ended := by
    have same : ended = { s with zones := s.stopProbe.zones,
                                 mem := s.mem.writeAll (surveyEndHeader s.block 3),
                                 survey := s.survey.discarded } := by
      unfold ended
      rw [stopped]
      rfl
    exact ⟨_, _, _, _, _, _, _, _, _, _, _, _, same⟩
  have raised : (ended.outcome s.stopProbe.survey.origin s.stopProbe.survey.claim .aborted 0).cueSets s.surveyAborted :=
    ⟨_, _, _, _, _, _, _, _, _, _, _, _, rfl⟩
  exact State.cueSets_trans header (State.cueSets_trans (State.cueSets_outcome ..) raised)

/-- An accepted abort is carried out at once, and the change is settled. -/
theorem execSurveyAbort_of {s : State} {item : CueItem} {body : List Word} (read : item.body = some body)
    (surveying : s.surveying = true) : exec (.surveyAbort item) s = .next (s.carrySurveyAbort item).settle := by
  have passed : s.surveyAbortFault item = none := (checkedBody_none _ _).2 ⟨body, read, by simp [surveying]⟩
  show execSurveyAbort item s = _
  unfold execSurveyAbort
  rw [passed]

/-- The probe block that would be sent is discarded, and nothing else of the zones (R127). -/
theorem State.stopProbe_zones (s : State) (whole : s.zones.length = 24) :
    (s.marks.probedZone = some s.survey.zone →
      s.stopProbe.zone s.survey.zone = { s.zone s.survey.zone with waiting := List.replicate 48 0 }
      ∧ ∀ z, z ≠ s.survey.zone → s.stopProbe.zone z = s.zone z)
    ∧ (s.marks.probedZone ≠ some s.survey.zone → s.stopProbe.zones = s.zones) := by
  unfold State.stopProbe
  refine ⟨fun probed => ?_, fun other => by rw [if_neg other]⟩
  rw [if_pos probed]
  have read : ∀ z, (s.setZone s.survey.zone { s.zone s.survey.zone with waiting := zeroBlock }).zone z
      = (s.zones.set s.survey.zone.val { s.zone s.survey.zone with waiting := zeroBlock }).getD z.val .reset :=
    fun _ => rfl
  refine ⟨?_, fun z apart => ?_⟩
  · rw [read, List.getD_eq_getElem?_getD, List.getElem?_set_self (by have := s.survey.zone.isLt; omega)]
    rfl
  · rw [read, List.getD_eq_getElem?_getD, List.getElem?_set_ne (fun same => apart (Fin.ext same.symm)),
      ← List.getD_eq_getElem?_getD]
    rfl

/-- What an abort leaves to the settling: the lists, the mix and the positions, and the request that the survey's end
makes (R51). -/
theorem State.carrySurveyAbort_members (s : State) (item : CueItem) :
    let u := s.carrySurveyAbort item
    u.routes = s.routes ∧ u.admitted = s.admitted ∧ u.unserved = s.unserved ∧ u.sources = s.sources ∧ u.hold = s.hold
    ∧ u.live = s.live ∧ u.survey = s.surveyAborted.survey ∧ u.scenes = s.scenes
    ∧ u.zones = s.stopProbe.zones ∧ u.rebuild = askedRebuild true s.rebuild := by
  refine ⟨?_, ?_, ?_, ?_, ?_, ?_, ?_, ?_, ?_, ?_⟩
  all_goals
    rw [s.carrySurveyAbort_eq]
    simp [State.surveyAborted, askedRebuild]

/-- Settles O35: the survey ended at once, the two outcomes, the probe that is not sent, and the rebuild. -/
theorem surveyAbortEndsSurvey : Obligations.SurveyAbortEndsSurvey := by
  intro item body s canonical read surveying running whole
  let u := s.surveyAborted
  let b := s.carrySurveyAbort item
  obtain ⟨wf, discarded, state, low, high, stands, kept, raised, result⟩ := s.surveyAborted_ends canonical
  obtain ⟨routes, admitted, unserved, sources, hold, live, same, scenes, zones, request⟩ :=
    s.carrySurveyAbort_members item
  have block : u.block = s.block := by simp [u, State.surveyAborted]
  have survey : b.settle.survey = s.survey.discarded := by
    rw [State.settle_survey, ← discarded]
    exact same
  have word : ∀ w, (∀ k, item.origin = .slot k → w ∉ outcomeAddrs k) → b.settle.word w = u.word w := fun w away =>
    (b.settle_word w).trans (u.outcome_word_away _ _ _ _ wf w away)
  have header : ∀ w, 0x440 ≤ w → b.settle.word w = u.word w := fun w above =>
    word w (fun k _ => outcomeAddrs_below k above)
  have notice : ∀ n, n ≠ .routeFull → b.settle.noticed n = (outcomeRaises item.origin item.claim n || u.noticed n) :=
    fun n apart => (b.settle_noticed n apart).trans (u.outcome_noticed_eq ..)
  have full : b.noticed .routeFull = s.noticed .routeFull := by
    refine (u.outcome_noticed _ _ _ _ _ (by decide) (by decide)).trans ((raised _).trans ?_)
    cases s.survey.origin <;> simp [outcomeRaises]
  have sets : (s.withSurvey s.survey.discarded).cueSets b.settle :=
    State.cueSets_trans s.cueSets_surveyAborted (State.cueSets_trans (State.cueSets_outcome ..)
      (State.cueSets_of_settlesTo b.settlesTo_settle))
  have settledZones : b.settle.zones = s.stopProbe.zones := by simpa using zones
  obtain ⟨probed, unprobed⟩ := s.stopProbe_zones whole
  have own : outcomeStands b.settle item.origin item.claim .ok 0 u.block :=
    outcomeStands_settle (u.outcomeStands_outcome item.origin item.claim .ok 0 wf)
  rw [block] at own
  refine ⟨b.settle, execSurveyAbort_of read surveying, by rw [survey]; rfl, by rw [survey]; rfl,
    (header _ (by decide)).trans state, (header _ (by decide)).trans low, (header _ (by decide)).trans high,
    fun a away slots => ?_, fun due => ?_, fun undue => settledZones.trans (unprobed undue), fun i => ?_, ?_,
    settledFrom_settle (asksFrom_survey admitted unserved routes full request hold live running),
    fun e he => b.settle_stands e (by rw [routes]; exact he), fun k slot => ?_, fun k slot apart => ?_, ?_,
    fun claimed => ?_, fun n other => ?_, sets.portElse, State.rest_of_survey sets ?_⟩
  · rw [word a (fun k slot => slots k (.inl slot)), kept a away (fun k slot => slots k (.inr slot))]
  · obtain ⟨cleared, others⟩ := probed due
    exact ⟨(State.zone_congr settledZones _).trans cleared,
      fun z apart => (State.zone_congr settledZones z).trans (others z apart)⟩
  · obtain ⟨mix, pos⟩ := b.settle_mix i
    rw [mix, pos, State.source_congr sources]
    exact ⟨rfl, rfl⟩
  · rw [notice _ (by decide), raised]
    simp
  · rw [slot] at own
    exact own
  · rw [slot] at stands
    exact outcomeStands_settle (State.outcomeStands_beside wf apart stands)
  · rw [State.settle_callResult, ← result]
    exact u.outcome_callResult _ _ _ _
  · rw [notice _ (by decide), raised]
    rcases claimed with ⟨origin, claim⟩ | ⟨origin, claim⟩ <;> simp [outcomeRaises, origin, claim]
  · simp only [List.mem_cons, List.not_mem_nil, or_false, not_or] at other
    obtain ⟨survey, cue, call, full⟩ := other
    have quiet : ∀ o claim, outcomeRaises o claim n = false := by
      intro o claim
      cases o <;> simp [outcomeRaises, Ne.symm cue, Ne.symm call]
    rw [notice n full, raised, quiet, quiet]
    simp [Ne.symm survey]
  · rw [← scenes]
    simp [b]

end Sys2Proof.Machine
end

section
/-! The start of a survey (O34). -/

namespace Sys2Proof.Machine

/-! ### The parameters of a SURVEY_START (R117) -/

/-- The clamp note is set exactly if a value of the cue lies outside its range. -/
theorem surveyClamps_iff (body : List Word) :
    surveyClamps body = true ↔
      (present body 1 = true ∧ ¬(-120 ≤ (bodyWord body 24).toInt ∧ (bodyWord body 24).toInt ≤ -12))
      ∨ (∃ p ∈ [(2, 25), (3, 26), (4, 27)], present body p.1 = true
          ∧ ¬(64 ≤ (bodyWord body p.2).toNat ∧ (bodyWord body p.2).toNat ≤ 4096))
      ∨ (present body 5 = true ∧ 8192 < (bodyWord body 28).toNat) := by
  have signed : ∀ v : Int, clampInt (-120) (-12) v ≠ v ↔ ¬(-120 ≤ v ∧ v ≤ -12) := fun v => by
    rw [clampInt_eq _ _ _ (by decide)]
    omega
  have natural : ∀ n : Nat, clampNat 64 4096 n ≠ n ↔ ¬(64 ≤ n ∧ n ≤ 4096) := fun n => by
    rw [clampNat_eq _ _ _ (by decide)]
    omega
  unfold surveyClamps above
  simp only [Bool.or_eq_true, Bool.and_eq_true, List.any_eq_true, bne_iff_ne, decide_eq_true_eq, signed, natural,
    or_assoc]

theorem surveyZone_of {body : List Word} (named : present body 0 = true) (inside : (bodyWord body 23).toNat ≤ 23) :
    ∃ zone, surveyZone body = some zone ∧ zone.val = (bodyWord body 23).toNat := by
  have small : (bodyWord body 23).toNat < 24 := by omega
  refine ⟨Fin.ofNat 24 (bodyWord body 23).toNat, ?_, Nat.mod_eq_of_lt small⟩
  simp [surveyZone, named, small]

/-! ### The change itself (R118) -/

/-- The words that a starting survey writes: the header, the records UNMEASURED, and RUNNING last (R118). -/
def Survey.startCells (v : Survey) (block : BlockNo) : List (Nat × Word) :=
  v.runningHeader block ++ unmeasuredRecords ++ [(surveyBase, 1)]

/-- The state with the survey unit, words of the result area and the mark of a survey begun, before the targets. -/
def State.surveyBegun (s : State) (v : Survey) (cells : List (Nat × Word)) : State :=
  { (s.withSurvey v).storeAll cells with marks := { s.marks with surveyBegan := true } }

theorem State.beginSurvey_eq (s : State) (b : Bank) (item : CueItem) (body : List Word) (zone : Fin 24) :
    s.beginSurvey b item body zone
      = (s.surveyBegun (s.survey.started b item body zone)
          ((s.survey.started b item body zone).startCells s.block)).compose := rfl

/-- The words as a survey starts: the state, the records, the header. -/
theorem Survey.startCells_word (v : Survey) (block : BlockNo) (m : Memory) (canonical : m.wf) (w : Nat) :
    (m.writeAll (v.startCells block)).read w = if w = surveyBase then 1
      else ((m.writeAll (v.runningHeader block)).writeAll unmeasuredRecords).read w := by
  rw [Survey.startCells, Memory.read_writeAll_last _ _ _ w canonical (by decide), Memory.writeAll_append]

/-- The words of the header that a starting survey writes (R118, section 9.5). -/
theorem Survey.runningHeader_word (v : Survey) (block : BlockNo) (m : Memory) (canonical : m.wf) (w : Nat) :
    (m.writeAll (v.runningHeader block)).read w
      = if w = 0x2801 then natWord v.zone.val else if w = 0x2802 then signedWord v.probeCode
        else if w = 0x2803 then natWord v.quiet else if w = 0x2804 then natWord v.settle
        else if w = 0x2805 then natWord v.measure else if w = 0x2806 then natWord v.tail
        else if w = 0x2807 then blockLow block else if w = 0x2808 then blockHigh block else m.read w := by
  unfold Survey.runningHeader
  iterate 8 rw [Memory.read_writeAll_cons _ _ _ _ canonical]
  · rfl
  all_goals simp [surveyBase, Config.memoryWords]

/-- The words of the header and around the result area, as a survey starts. -/
theorem Survey.startCells_header (v : Survey) (block : BlockNo) (m : Memory) (canonical : m.wf) (w : Nat)
    (away : w < 0x2810 ∨ 0x2850 ≤ w) (apart : w ≠ 0x2800) :
    (m.writeAll (v.startCells block)).read w
      = if w = 0x2801 then natWord v.zone.val else if w = 0x2802 then signedWord v.probeCode
        else if w = 0x2803 then natWord v.quiet else if w = 0x2804 then natWord v.settle
        else if w = 0x2805 then natWord v.measure else if w = 0x2806 then natWord v.tail
        else if w = 0x2807 then blockLow block else if w = 0x2808 then blockHigh block else m.read w := by
  rw [v.startCells_word block m canonical, if_neg (show w ≠ surveyBase from apart),
    ← v.runningHeader_word block m canonical]
  exact surveyRecords_away _ _ _ _ _ away

/-- The records are UNMEASURED as a survey starts. -/
theorem Survey.startCells_record (v : Survey) (block : BlockNo) (m : Memory) (canonical : m.wf) (i : Fin 16) :
    let n := m.writeAll (v.startCells block)
    n.read (0x2810 + 4 * i.val) = 0 ∧ n.read (0x2811 + 4 * i.val) = 0x8000
    ∧ n.read (0x2812 + 4 * i.val) = 0x8000 ∧ n.read (0x2813 + 4 * i.val) = 0x7FFF := by
  have written : ∀ w, 0x2810 ≤ w → (m.writeAll (v.startCells block)).read w
      = ((m.writeAll (v.runningHeader block)).writeAll
          (surveyRecords (fun _ => 0) (fun _ => 0x8000) (fun _ => 0x8000) (fun _ => 0x7FFF))).read w := by
    intro w above
    rw [v.startCells_word block m canonical, if_neg (by unfold surveyBase; omega)]
    rfl
  intro n
  simp only [n, written _ (Nat.le_add_right_of_le (by decide : 0x2810 ≤ 0x2810)),
    written _ (Nat.le_add_right_of_le (by decide : 0x2810 ≤ 0x2811)),
    written _ (Nat.le_add_right_of_le (by decide : 0x2810 ≤ 0x2812)),
    written _ (Nat.le_add_right_of_le (by decide : 0x2810 ≤ 0x2813))]
  exact surveyRecords_word _ (fun _ => 0) (fun _ => 0x8000) (fun _ => 0x8000) (fun _ => 0x7FFF)
    (Memory.writeAll_wf _ _ canonical) i

theorem State.running_of_adopted {s : State} {b : Bank} (adopted : s.adopted = some b) : s.running = true := by
  unfold State.running State.adopted at *
  cases live : s.live with
  | none => simp [live] at adopted
  | some _ => rfl

/-- A survey begins: MUTING, the RUNNING header, UNMEASURED records (R118), and the settling of the change. -/
theorem execSurveyStart_of {s : State} {item : CueItem} {body : List Word} {b : Bank} {zone : Fin 24}
    (running : s.adopted = some b) (read : item.body = some body) (named : surveyZone body = some zone)
    (idle : s.surveying = false) (unadopting : s.adoption = none) (unended : s.marks.adoptionEnded = false) :
    exec (.surveyStart item) s = .next (s.beginSurvey b item body zone).settle := by
  have live := State.running_of_adopted running
  have passed : s.surveyStartFault item = none :=
    (checkedBody_none _ _).2 ⟨body, read, by simp [live, named, idle, State.adoptionBusy, unadopting, unended]⟩
  have carried : s.carrySurveyStart item = s.beginSurvey b item body zone := by
    unfold State.carrySurveyStart cueBody
    rw [running, read]
    simp only [Option.getD_some, named]
  show execSurveyStart item s = _
  unfold execSurveyStart
  rw [passed, carried]

/-! ### A settling that a survey keeps from rebuilding -/

/-- A settling that carries out no rebuild changes the gates, NOM, the hold decision and the target gains. -/
theorem State.settle_of_waits (u : State) (waits : u.rebuild = .none ∨ (u.rebuild = .requested ∧ u.surveying = true)) :
    ∃ sources nom hold, u.settle = { u with sources := sources, nom := nom, hold := hold,
                                            routes := u.routes.map u.counted.composeEntry } := by
  obtain ⟨routes, _, _, request, _, _, survey, _⟩ := u.counted_members
  have unserved := u.counted.serveRebuild_waits (by rw [request, State.surveying, survey]; exact waits)
  rw [u.settle_eq, unserved]
  unfold State.counted State.releaseLast
  split <;> exact ⟨_, _, _, rfl⟩

/-- An entry under the survey override: its target OFF and its flags clear (R93). -/
def Entry.targetOff (e : Entry) : Entry := { e with targetGain := .off, ceilingLimited := false, ducked := false }

theorem State.composeEntry_surveyed {s : State} (surveying : s.surveying = true) (e : Entry) :
    s.composeEntry e = e.targetOff := by
  unfold State.composeEntry
  rw [surveying]
  cases s.adopted <;> cases life : e.lifecycle <;> simp [Entry.targetOff, life]

/-- A survey that starts, settled: the targets OFF, and no rebuild carried out (R50, R93). -/
theorem State.settle_surveyBegun (s : State) (v : Survey) (cells : List (Nat × Word)) (surveyed : v.phase ≠ .idle)
    (unforced : s.rebuild ≠ .forced) :
    ∃ sources nom hold, (s.surveyBegun v cells).compose.settle
      = { s with survey := v, marks := { s.marks with surveyBegan := true }, mem := s.mem.writeAll cells,
                 sources := sources, nom := nom, hold := hold, routes := s.routes.map Entry.targetOff } := by
  let w := s.surveyBegun v cells
  have surveying : w.surveying = true := bne_iff_ne.2 surveyed
  have waits : w.compose.rebuild = .none ∨ (w.compose.rebuild = .requested ∧ w.compose.surveying = true) := by
    show s.rebuild = .none ∨ (s.rebuild = .requested ∧ w.surveying = true)
    cases asked : s.rebuild with
    | none => exact .inl rfl
    | requested => exact .inr ⟨rfl, surveying⟩
    | forced => exact absurd asked unforced
  obtain ⟨sources, nom, hold, settled⟩ := w.compose.settle_of_waits waits
  obtain ⟨_, _, _, _, _, _, survey, _⟩ := w.compose.counted_members
  have counted : w.compose.counted.surveying = true := by
    rw [State.surveying, survey]
    exact surveying
  have routes : w.compose.routes.map w.compose.counted.composeEntry = s.routes.map Entry.targetOff := by
    rw [show w.compose.routes = s.routes.map w.composeEntry from rfl, List.map_map]
    refine List.map_congr_left (fun e _ => ?_)
    rw [Function.comp_apply, State.composeEntry_surveyed surveying, State.composeEntry_surveyed counted]
    rfl
  refine ⟨sources, nom, hold, settled.trans ?_⟩
  rw [routes]
  rfl

/-- What a survey that starts leaves to the settling: it asks for no rebuild (R50). -/
theorem asksFrom_surveyBegun {s : State} (v : Survey) (cells : List (Nat × Word)) (running : s.running = true) :
    AsksFrom s (s.surveyBegun v cells).compose false where
  admitted := rfl
  unserved := rfl
  listed := by
    show (s.routes.map (s.surveyBegun v cells).composeEntry).map _ = s.routes.map _
    rw [List.map_map]
    refine List.map_congr_left (fun e _ => ?_)
    obtain ⟨_, _, _, composed⟩ := (s.surveyBegun v cells).composeEntry_rest e
    rw [Function.comp_apply, composed]
  full := rfl
  request := rfl
  hold := rfl
  running := running

/-- Settles O34: MUTING with its parameters, the result area, the targets OFF, and a rebuild that waits. -/
theorem surveyStartEntersMuting : Obligations.SurveyStartEntersMuting := by
  intro item body b s canonical adopted read named inside idle unadopting unended unforced
  obtain ⟨zone, isZone, number⟩ := surveyZone_of named inside
  let v := s.survey.started b item body zone
  have surveyed : v.phase ≠ .idle := SurveyPhase.noConfusion
  have run := execSurveyStart_of adopted read isZone idle unadopting unended
  rw [s.beginSurvey_eq] at run
  have state := v.startCells_word s.block s.mem canonical surveyBase
  have header := v.startCells_header s.block s.mem canonical
  have records := v.startCells_record s.block s.mem canonical
  generalize v.startCells s.block = cells at run state header records
  let u := (s.surveyBegun v cells).compose
  have composed := settledFrom_settle (asksFrom_surveyBegun v cells (State.running_of_adopted adopted))
  have gates := u.source_settle
  obtain ⟨sources, nom, hold, settled⟩ := s.settle_surveyBegun v cells surveyed unforced
  have signed : ∀ (lo hi : Int) (n w : Nat) (d : Int), lo ≤ hi → signedParam body n w lo hi d
      = if present body n then max lo (min hi (bodyWord body w).toInt) else d := fun lo hi n w d range => by
    rw [signedParam, clampInt_eq _ _ _ range]
  have natural : ∀ (lo hi n w d : Nat), lo ≤ hi → natParam body n w lo hi d
      = if present body n then max lo (min hi (bodyWord body w).toNat) else d := fun lo hi n w d range => by
    rw [natParam, clampNat_eq _ _ _ range]
  refine ⟨_, run, ?_⟩
  rw [settled] at composed gates ⊢
  refine ⟨rfl, rfl, number, rfl, rfl, signed _ _ _ _ _ (by decide), natural _ _ _ _ _ (by decide),
    natural _ _ _ _ _ (by decide), natural _ _ _ _ _ (by decide), ?_, surveyClamps_iff body,
    state.trans (if_pos rfl), ?_, header _ (.inl (by decide)) (by decide), header _ (.inl (by decide)) (by decide),
    header _ (.inl (by decide)) (by decide), header _ (.inl (by decide)) (by decide),
    header _ (.inl (by decide)) (by decide), header _ (.inl (by decide)) (by decide),
    header _ (.inl (by decide)) (by decide), records, fun a away => ?_, fun e here => ?_, ?_, rfl, rfl, rfl, rfl,
    composed, fun e here => ⟨_, List.mem_map_of_mem here, rfl⟩, fun whole i => ?_, rfl, rfl⟩
  · refine (natural _ _ _ _ _ (by decide)).trans ?_
    rw [Nat.zero_max]
  · refine (header _ (.inl (by decide)) (by decide)).trans ?_
    show natWord zone.val = bodyWord body 23
    rw [number, natWord, BitVec.ofNat_toNat, BitVec.setWidth_eq]
  · refine (header a (by omega) (by omega)).trans ?_
    rw [if_neg (by omega), if_neg (by omega), if_neg (by omega), if_neg (by omega), if_neg (by omega),
      if_neg (by omega), if_neg (by omega), if_neg (by omega)]
    rfl
  · obtain ⟨f, _, rfl⟩ := List.mem_map.1 here
    exact ⟨rfl, rfl, rfl⟩
  · exact (List.map_map ..).trans rfl
  · refine (gates whole i).trans ?_
    show (if (s.source i).gate = .last ∧ ∃ j, (s.source j).gate = .forcedOpen then { s.source i with gate := .closed }
      else s.source i) = _
    split <;> rfl

end Sys2Proof.Machine
end

section
/-! The list of a block start with no engine reset and no cue, up to its rebuild (O10, O23). -/

namespace Sys2Proof.Machine

/-! ### The request for a rebuild, through the works before it (R42, R50, R51) -/

/-- Works that keep the admitted set, the unserved list and ROUTE_FULL, and ask for a rebuild where `asks` says so or
where they end a survey. -/
structure ListWorks (asks : Bool) (s t : State) : Prop where
  admitted : t.admitted = s.admitted
  unserved : t.unserved = s.unserved
  full : t.noticed .routeFull = s.noticed .routeFull
  request : (t.surveying = s.surveying ∧ t.rebuild = askedRebuild asks s.rebuild)
    ∨ (s.surveying = true ∧ t.surveying = false ∧ t.rebuild = askedRebuild true s.rebuild)

theorem askedRebuild_again (a b : Bool) (before : RebuildRequest) :
    askedRebuild b (askedRebuild a before) = askedRebuild (a || b) before := by
  cases a <;> cases b <;> cases before <;> rfl

theorem ListWorks.trans {a b : Bool} {s t u : State} (h : ListWorks a s t) (k : ListWorks b t u) :
    ListWorks (a || b) s u where
  admitted := k.admitted.trans h.admitted
  unserved := k.unserved.trans h.unserved
  full := k.full.trans h.full
  request := by
    rcases h.request with ⟨still, before⟩ | ⟨ran, ended, before⟩
    · rw [← askedRebuild_again, ← before, ← still]
      refine k.request.imp_right (fun ⟨ran, ended, after⟩ => ⟨ran, ended, ?_⟩)
      rw [after, before, askedRebuild_again, Bool.or_true]
    · rcases k.request with ⟨still, after⟩ | ⟨runs, _⟩
      · refine .inr ⟨ran, still.trans ended, ?_⟩
        rw [after, before, askedRebuild_again, Bool.true_or]
      · rw [ended] at runs
        cases runs

/-- Works that touch neither the lists, the survey's phase nor the request. -/
theorem ListWorks.of_members {s t : State} (admitted : t.admitted = s.admitted) (unserved : t.unserved = s.unserved)
    (full : t.noticed .routeFull = s.noticed .routeFull) (surveying : t.surveying = s.surveying)
    (rebuild : t.rebuild = s.rebuild) : ListWorks false s t := ⟨admitted, unserved, full, .inl ⟨surveying, rebuild⟩⟩

theorem ListWorks.refl (s : State) : ListWorks false s s := .of_members rfl rfl rfl rfl rfl

/-- The end of a block keeps the lists, and a survey in its phase (R163). -/
theorem State.listWorks_ended (s : State) (swept : s.sweepPos = 33) : ListWorks false s s.ended := by
  have done : s.finishSweep = s := by
    unfold State.finishSweep
    rw [swept]
    exact rfl
  have zones : s.measureLevels.endZones.noticed .routeFull = s.measureLevels.noticed .routeFull := by
    unfold State.endZones
    dsimp only
    rw [State.raiseIf_noticed]
    simp only [reduceCtorEq, decide_false, Bool.and_false, Bool.false_or]
    split <;> rfl
  refine .of_members ?_ ?_ ?_ ?_ ?_
  · simp [State.ended, State.nextBlock, State.endBlock, done, State.measureLevels]
  · simp [State.ended, State.nextBlock, State.endBlock, done, State.measureLevels]
  · rw [State.noticed_congr s.ended_port, done, zones]
    rfl
  · rw [State.surveying, s.ended_survey.1, State.surveying]
  · simp [State.ended, State.nextBlock, State.endBlock, done, State.measureLevels]

/-- A completion ends the survey and asks for a rebuild (R51, R125). -/
theorem State.listWorks_completeSurvey (s : State) (runs : s.surveying = true) :
    ListWorks false s s.completeSurvey := by
  obtain ⟨survey, _, admitted, unserved, rebuild, _, _, full, _⟩ := s.completeSurvey_rest
  exact ⟨admitted, unserved, full, .inr ⟨runs, by rw [State.surveying, survey]; rfl, rebuild⟩⟩

/-- A phase that goes on keeps the survey in progress. -/
theorem State.listWorks_withSurvey {s : State} {v : Survey} (runs : s.surveying = true) (on : v.phase ≠ .idle) :
    ListWorks false s (s.withSurvey v) :=
  .of_members (by simp) (by simp) (State.noticed_congr (by simp) _)
    (by rw [runs, State.surveying]; exact bne_iff_ne.2 on) (by simp)

theorem State.listWorks_advanceSurvey (s : State) : ListWorks false s s.advanceSurvey := by
  have runs : ∀ {p}, s.survey.phase = p → p ≠ .idle → s.surveying = true := fun phase on =>
    bne_iff_ne.2 (by rw [phase]; exact on)
  unfold State.advanceSurvey
  cases phase : s.survey.phase with
  | idle | muting => exact .refl s
  | quiet =>
    dsimp only
    unfold State.quietEnd
    split
    · exact State.listWorks_withSurvey (runs phase nofun) nofun
    · exact .refl s
  | probeSettle =>
    dsimp only
    unfold State.settleEnd
    split
    · exact State.listWorks_withSurvey (runs phase nofun) nofun
    · exact .refl s
  | probeMeasure =>
    dsimp only
    unfold State.measureEnd
    (repeat' split)
    · exact s.listWorks_completeSurvey (runs phase nofun)
    · exact State.listWorks_withSurvey (runs phase nofun) nofun
    · exact .refl s
  | tail =>
    dsimp only
    unfold State.tailEnd
    split
    · exact s.listWorks_completeSurvey (runs phase nofun)
    · exact .refl s

theorem State.listWorks_advanced (s : State) (r : BlockRaces) : ListWorks false s (s.advanced r) := by
  unfold State.advanced
  split
  · exact .refl s
  · exact s.listWorks_advanceSurvey

theorem State.listWorks_lateCompletion (s : State) : ListWorks false s s.lateCompletion := by
  unfold State.lateCompletion
  split
  · exact s.listWorks_advanceSurvey
  · exact .refl s

theorem State.listWorks_installDue (s : State) : ListWorks false s s.installDue := by
  refine .of_members (by simp) (by simp) ?_ (by simp [State.surveying]) (by simp)
  unfold State.installDue
  (repeat' split) <;> first | rfl | exact s.installBank_noticed_else _ _ (by decide) (by decide) (by decide)

theorem State.listWorks_bankReject (s : State) : ListWorks false s s.bankReject := by
  refine .of_members (by simp) (by simp) ?_ (by simp [State.surveying]) (by simp)
  unfold State.bankReject
  (repeat' split)
  · rfl
  · rfl
  · unfold State.rejectBank
    rw [State.raise_noticed, State.outcome_noticed _ _ _ _ _ _ (by decide) (by decide)]
    rfl

theorem State.listWorks_evaluating (s : State) (r : BlockRaces) : ListWorks false s.ended (s.evaluating r) := by
  have advanced := s.ended.listWorks_advanced r
  unfold State.evaluating
  split
  · exact advanced.trans (State.listWorks_installDue _)
  · exact advanced.trans (State.listWorks_bankReject _)

theorem State.listWorks_evaluateGates (s : State) : ListWorks false s s.evaluateGates := by
  refine .of_members (by simp) (by simp) ?_ (by simp [State.surveying]) (by simp)
  rw [State.noticed_congr s.evaluateGates_port, State.raiseIf_noticed]
  simp

/-- A switch-over that is due has its bank LIVE where the gates are evaluated (R16, R140). -/
theorem State.evaluating_switched {s : State} {r : BlockRaces} (due : (s.ended.advanced r).switchDue = true) :
    ∃ b, (s.evaluating r).evaluateGates.adopted = some b := by
  unfold State.evaluating
  rw [if_pos due]
  cases adopting : (s.ended.advanced r).adoption with
  | none => simp [State.switchDue, adopting] at due
  | some a =>
    refine ⟨_, Eq.trans ?_ (State.installDue_of_due adopting due).1⟩
    simp [State.adopted]

/-- A switch-over asks for a rebuild (R42). -/
theorem State.listWorks_reloadMix {s : State} {b : Bank} (live : s.adopted = some b) :
    ListWorks true s s.reloadMix := by
  obtain ⟨_, _, _, rebuild⟩ := s.reloadMix_parts b live
  refine ⟨by simp, by simp, State.noticed_congr (by simp) _, .inl ⟨by simp [State.surveying], rebuild⟩⟩

/-! ### The list that the rebuild finds (R61, R62, R94) -/

/-- The state whose rebuild a block start serves. -/
def State.serving (s : State) (r : BlockRaces) : State := (s.followed r).countNom

/-- An entry before the rebuild: a new target at a switch-over, then the glide step towards the ended block's target. -/
def State.glided (s : State) (r : BlockRaces) (e : Entry) : Entry :=
  { (if s.switchesAt r then e.placeTarget ((s.blockStart r).targetDelayOf e.pair) else e) with
    gain := glideStep (s.blockStart r).gainSlope e.gain e.targetGain }

theorem State.glided_pair (s : State) (r : BlockRaces) (e : Entry) :
    (s.glided r e).pair = e.pair ∧ (s.glided r e).lifecycle = e.lifecycle := by
  unfold State.glided
  split <;> exact ⟨rfl, rfl⟩

section Uncued

variable {s : State} {r : BlockRaces} (swept : s.sweepPos = 33) (uncued : s.takeList = [])

include swept uncued

/-- With no cue the works from the glide to the force modes are a completion that has waited for the cues. -/
theorem State.cued_uncued :
    s.cued r = { (s.boundary r).glide with takeList := [] }
    ∨ s.cued r = { (s.boundary r).glide with takeList := [] }.lateCompletion := by
  have list : (s.boundary r).glide.takeList = [] := by simp [s.boundary_takeList r swept, uncued]
  have applied : (s.boundary r).glide.applyTaken = { (s.boundary r).glide with takeList := [] } := by
    unfold State.applyTaken
    rw [list]
    rfl
  unfold State.cued
  rw [applied]
  split
  · exact .inl rfl
  · exact .inr rfl

/-- With no cue the block that begins has the boundary's positions, bank and gliding list. -/
theorem State.cued_uncued_members :
    (s.cued r).sources = (s.boundary r).sources ∧ (s.cued r).live = (s.boundary r).live
    ∧ (s.cued r).routes = (s.boundary r).glide.routes := by
  have late : ∀ u : State, u.lateCompletion.sources = u.sources ∧ u.lateCompletion.live = u.live
      ∧ u.lateCompletion.routes = u.routes := by
    intro u
    unfold State.lateCompletion
    split <;> simp
  rcases State.cued_uncued (r := r) swept uncued with cued | cued <;> rw [cued]
  · exact ⟨rfl, rfl, rfl⟩
  · exact late _

theorem State.samePlan_serving : (s.boundary r).samePlan (s.serving r) := by
  obtain ⟨sources, live, _⟩ := State.cued_uncued_members (r := r) swept uncued
  have followed : (s.cued r).samePlan ((s.cued r).followForces (s.ended.evaluatedForces (s.boundary r))) :=
    ⟨rfl, fun i => by rw [State.source_followForces]; exact (Source.followForce_spec _ _).2.1⟩
  exact (State.samePlan_of_sources live sources).trans (followed.trans (State.samePlan_releaseLast _))

/-- The works of a boundary and of no cue: what they leave of the lists and of the request (R42, R50, R51). -/
theorem State.listWorks_serving (plain : s.port.resetRequest = false) (runs : s.adoptionRuns) :
    ListWorks (s.switchesAt r) s (s.serving r) := by
  have evaluated := (s.listWorks_ended swept).trans
    ((s.listWorks_evaluating r).trans (s.evaluating r).listWorks_evaluateGates)
  have bounded : ListWorks (s.switchesAt r) s (s.boundary r) := by
    rw [s.boundary_evaluated r plain, s.switchDue_advanced r plain runs]
    cases switches : s.switchesAt r with
    | false => exact evaluated
    | true =>
      have due := (s.switchDue_advanced r plain runs).trans switches
      obtain ⟨b, live⟩ := State.evaluating_switched due
      exact evaluated.trans (State.listWorks_reloadMix live)
  have glided : ListWorks false (s.boundary r) { (s.boundary r).glide with takeList := [] } :=
    .of_members rfl rfl rfl rfl rfl
  have cued : ListWorks false (s.boundary r) (s.cued r) := by
    rcases State.cued_uncued (r := r) swept uncued with cued | cued <;> rw [cued]
    · exact glided
    · exact glided.trans (State.listWorks_lateCompletion _)
  have followed : ListWorks false (s.cued r) (s.serving r) :=
    .of_members (by simp [State.serving, State.followed]) (by simp [State.serving, State.followed])
      (State.noticed_congr (by simp [State.serving, State.followed]) _)
      (by simp [State.serving, State.followed, State.surveying]) (by simp [State.serving, State.followed])
  have all := bounded.trans (cued.trans followed)
  simpa using all

end Uncued

/-- The block start leaves the plan, the survey and the rest of the lists as its rebuild and its removals have left
them. -/
theorem State.samePlan_blockStart (s : State) (r : BlockRaces) : (s.serving r).samePlan (s.blockStart r) := by
  obtain ⟨sources, _, _, _, live, _⟩ := s.blockStart_of_mixed r
  exact State.samePlan_of_sources (live.trans (by simp [State.mixed, State.serving]))
    (sources.trans (by simp [State.mixed, State.serving]))

theorem State.mutingEnd_surveying (s : State) : s.mutingEnd.surveying = s.surveying := by
  unfold State.mutingEnd
  split
  · rename_i due
    simp only [State.atMutingEnd, Bool.and_eq_true, beq_iff_eq] at due
    obtain ⟨⟨phase, _⟩, _⟩ := due
    rw [State.surveying, State.surveying, phase]
    rfl
  · rfl

theorem State.blockStart_surveying (s : State) (r : BlockRaces) :
    (s.blockStart r).surveying = (s.mixed r).surveying := by
  have last : (s.blockStart r).survey = (s.mixed r).motionSteps.grantFades.mutingEnd.survey := by
    simp [State.blockStart_eq]
  have muted := (s.mixed r).motionSteps.grantFades.mutingEnd_surveying
  rw [State.surveying, last]
  exact muted.trans (by simp [State.surveying])

theorem State.blockStart_surveying_serving (s : State) (r : BlockRaces) :
    (s.blockStart r).surveying = (s.serving r).surveying := by
  rw [s.blockStart_surveying r]
  simp [State.surveying, State.mixed, State.serving]

/-- The list that the rebuild finds: the ended block's, retargeted at a switch-over, after its glide step. -/
theorem State.serving_routes {s : State} {r : BlockRaces} (plain : s.port.resetRequest = false) (runs : s.adoptionRuns)
    (swept : s.sweepPos = 33) (uncued : s.takeList = []) : (s.serving r).routes = s.routes.map (s.glided r) := by
  obtain ⟨_, _, glides⟩ := State.cued_uncued_members (r := r) swept uncued
  have plan := (State.samePlan_serving (r := r) swept uncued).trans (s.samePlan_blockStart r)
  have slope : (s.boundary r).gainSlope = (s.blockStart r).gainSlope := by
    rw [State.gainSlope, State.gainSlope, State.adopted, State.adopted, plan.1]
  have list : (s.evaluating r).evaluateGates.routes = s.routes := by
    have advanced : (s.ended.advanced r).routes = s.routes := by
      unfold State.advanced
      split <;> simp [State.ended, State.nextBlock, State.endBlock, State.finishSweep]
    unfold State.evaluating
    split <;> simp [advanced]
  have bounded : (s.boundary r).routes = s.routes.map (fun e =>
      if s.switchesAt r then e.placeTarget ((s.blockStart r).targetDelayOf e.pair) else e) := by
    have evaluated := s.boundary_evaluated r plain
    rw [s.switchDue_advanced r plain runs] at evaluated
    cases switches : s.switchesAt r with
    | false =>
      rw [evaluated, switches]
      exact list.trans (List.map_id _).symm
    | true =>
      obtain ⟨b, live⟩ := State.evaluating_switched ((s.switchDue_advanced r plain runs).trans switches)
      obtain ⟨_, _, placed, _⟩ := (s.evaluating r).evaluateGates.reloadMix_parts b live
      have here : s.boundary r = (s.evaluating r).evaluateGates.reloadMix := by
        rw [evaluated, switches]
        rfl
      rw [here, placed, list, ← here]
      refine List.map_congr_left (fun e _ => ?_)
      rw [plan.targetDelayOf]
      rfl
  have glided : (s.serving r).routes = (s.boundary r).glide.routes := by
    rw [← glides]
    simp [State.serving, State.followed]
  rw [glided]
  show (s.boundary r).routes.map _ = _
  rw [bounded, List.map_map, slope]
  refine List.map_congr_left (fun e _ => ?_)
  simp only [Function.comp_apply, State.glided]
  split <;> rfl

end Sys2Proof.Machine
end

section
/-! The removals with their admissions, and the list of a block start (O23). -/

namespace Sys2Proof.Machine

/-! ### Removals and admissions (R48, R49) -/

theorem insertEntry_perm (e : Entry) (l : List Entry) : (insertEntry e l).Perm (e :: l) := by
  induction l with
  | nil => exact .refl _
  | cons x l ih =>
    unfold insertEntry
    split
    · exact .refl _
    · exact (ih.cons x).trans (.swap e x l)

/-- The list with new entries holds the entries of the list and the new ones, in some order. -/
theorem State.insertPairs_perm (s : State) (ps : List Pair) :
    (s.insertPairs ps).routes.Perm (s.routes ++ ps.map s.newEntry) := by
  unfold State.insertPairs
  rw [State.withRoutes_routes]
  generalize s.routes = l
  induction ps generalizing l with
  | nil => rw [List.map_nil, List.append_nil]; exact .refl _
  | cons p ps ih =>
    refine (ih _).trans (((insertEntry_perm (s.newEntry p) l).append_right _).trans ?_)
    exact List.perm_middle.symm

/-- No new entry leaves: it is LIVE (R44, R48). -/
theorem State.retired_insertPairs (s : State) (ps : List Pair) : (s.insertPairs ps).retired = s.retired := by
  have live : (ps.map s.newEntry).countP (fun e => e.removable) = 0 := by
    rw [List.countP_eq_zero]
    intro e he
    obtain ⟨p, _, rfl⟩ := List.mem_map.1 he
    exact Bool.false_ne_true
  unfold State.retired
  rw [← List.countP_eq_length_filter, ← List.countP_eq_length_filter, (s.insertPairs_perm ps).countP_eq,
    List.countP_append, live, Nat.add_zero]

theorem State.mem_removeRetired (s : State) (e : Entry) : e ∈ s.removeRetired.routes
    ↔ (e ∈ s.routes ∧ e.removable = false) ∨ ∃ p ∈ s.unserved.take s.retired, e = s.newEntry p := by
  rw [s.removeRetired_lists.1, State.mem_insertPairs]
  refine or_congr ?_ Iff.rfl
  simp [State.unretired]

theorem Entry.removable_iff (e : Entry) : e.removable = true ↔ e.lifecycle = .retiring ∧ e.gain = .off := by
  simp [Entry.removable]

theorem State.removeRetired_length (s : State) :
    s.removeRetired.routes.length = s.routes.length - s.retired + min s.retired s.unserved.length := by
  have removed := s.unretired_length
  rw [s.removeRetired_lists.1, State.insertPairs_length, List.length_take]
  omega

/-- A removal changes the two lists alone. -/
theorem State.removeRetired_shape (s : State) :
    ∃ routes, s.removeRetired = { s with routes := routes, unserved := s.unserved.drop s.retired } := by
  unfold State.removeRetired State.insertPairs
  exact ⟨_, rfl⟩

theorem State.samePlan_compose_removeRetired (s : State) : s.samePlan s.removeRetired.compose :=
  State.samePlan_of_sources (by simp) (by simp)

/-- A removal and its composition change the two lists alone. -/
theorem State.removal_rest (s : State) :
    { s.removeRetired.compose with routes := s.routes, unserved := s.unserved } = s := by
  obtain ⟨routes, shape⟩ := s.removeRetired_shape
  rw [shape]
  rfl

/-- ROUTE_REMOVAL where an entry leaves. -/
theorem execRouteRemoval_of {s : State} (due : ∃ e ∈ s.routes, e.lifecycle = .retiring ∧ e.gain = .off) :
    exec .routeRemoval s = .next s.removeRetired.compose := by
  obtain ⟨e, he, leaves⟩ := due
  have some : s.routes.any (fun e => e.removable) = true := List.any_eq_true.2 ⟨e, he, e.removable_iff.2 leaves⟩
  show execRouteRemoval s = _
  unfold execRouteRemoval
  rw [if_pos some]

theorem State.retired_eq (s : State) :
    s.retired = (s.routes.filter (fun e => e.lifecycle = .retiring ∧ e.gain = .off)).length := by
  unfold State.retired
  congr 1
  refine List.filter_congr (fun e _ => ?_)
  rw [Bool.eq_iff_iff, decide_eq_true_iff, e.removable_iff]

/-- No entry of a removal's list leaves at once: the old ones stay, and the new ones are LIVE. -/
theorem State.removeRetired_stays (s : State) : ∀ e ∈ s.removeRetired.routes, e.removable = false := by
  intro e he
  rcases (s.mem_removeRetired e).1 he with ⟨_, stays⟩ | ⟨p, _, rfl⟩
  · exact stays
  · rfl

/-! ### The removals after a rebuild, carried out or not (R42 to R52) -/

/-- The list after a rebuild that is carried out or not: the entries with their lifecycles, a first part of the pairs
that want an entry in their places, and the rest unserved. -/
structure ServedBy (v w : State) (relife : Entry → Entry) (wanting : List Pair) (room : Nat) : Prop where
  stands : ∀ e, entryStands e (relife e)
  routes : w.routes = ((v.mapRoutes relife).insertPairs (wanting.take room)).routes
  unserved : w.unserved = wanting.drop room
  plan : v.samePlan w

theorem State.samePlan.newEntry {s t : State} (h : s.samePlan t) (p : Pair) : t.newEntry p = s.newEntry p := by
  unfold State.newEntry
  rw [h.targetDelayOf]

section Served

variable {v w : State} {relife : Entry → Entry} {wanting : List Pair} {room : Nat}
  (h : ServedBy v w relife wanting room)

include h

/-- The entries that leave are among those that stood before. -/
theorem ServedBy.retired : w.retired = (v.routes.filter (fun e => (relife e).removable)).length := by
  have same : w.retired = (v.mapRoutes relife).retired := by
    rw [← (v.mapRoutes relife).retired_insertPairs (wanting.take room), State.retired, State.retired, h.routes]
  rw [same, State.retired, State.mapRoutes, State.withRoutes_routes, List.filter_map, List.length_map]
  rfl

/-- Every place that is left is a place for a pair (R48, R49). -/
theorem ServedBy.removed_unserved : w.removeRetired.unserved = wanting.drop (room + w.retired) := by
  rw [w.removeRetired_lists.2, h.unserved, List.drop_drop]

theorem ServedBy.mem_removed (e : Entry) : e ∈ w.removeRetired.routes
    ↔ (∃ f ∈ v.routes, e = relife f ∧ (relife f).removable = false)
      ∨ ∃ p ∈ wanting.take (room + w.retired), e = v.newEntry p := by
  have member : e ∈ w.routes ↔ (∃ f ∈ v.routes, e = relife f) ∨ ∃ p ∈ wanting.take room, e = v.newEntry p := by
    rw [h.routes, State.mem_insertPairs]
    refine or_congr ?_ Iff.rfl
    simp only [State.mapRoutes, State.withRoutes_routes, List.mem_map, eq_comm]
  rw [State.mem_removeRetired, member, List.take_add, h.unserved]
  simp only [List.mem_append, h.plan.newEntry]
  constructor
  · rintro (⟨⟨f, hf, rfl⟩ | ⟨p, hp, rfl⟩, stays⟩ | ⟨p, hp, rfl⟩)
    · exact .inl ⟨f, hf, rfl, stays⟩
    · exact .inr ⟨p, .inl hp, rfl⟩
    · exact .inr ⟨p, .inr hp, rfl⟩
  · rintro (⟨f, hf, rfl, stays⟩ | ⟨p, hp | hp, rfl⟩)
    · exact .inl ⟨.inl ⟨f, hf, rfl⟩, stays⟩
    · exact .inl ⟨.inr ⟨p, hp, rfl⟩, rfl⟩
    · exact .inr ⟨p, hp, rfl⟩

end Served

theorem servedBy_rebuilt (v : State) : ServedBy v v.rebuildRoutes (fun e => e.rebuilt (v.admittedNow.contains e.pair))
    v.wanting (160 - v.routes.length) where
  stands e := e.rebuilt_rest _
  routes := v.rebuildRoutes_routes
  unserved := by
    obtain ⟨_, _, unserved, _⟩ := v.rebuildRoutes_lists
    exact unserved
  plan := State.samePlan_of_sources (by simp) (by simp)

theorem servedBy_kept (v : State) : ServedBy v v id v.unserved 0 where
  stands := entryStands_refl
  routes := (List.map_id _).symm
  unserved := rfl
  plan := ⟨rfl, fun _ => rfl⟩

/-! ### The motion of the list that a block start leaves -/

theorem Entry.motionStep_lifecycle (e : Entry) (slip : Nat) : (e.motionStep slip).lifecycle = e.lifecycle := by
  unfold Entry.motionStep Entry.rest Entry.endFade Entry.freeStep
  dsimp only
  (repeat' split) <;> rfl

theorem State.blockStart_routes (s : State) (r : BlockRaces) :
    (s.blockStart r).routes = (s.mixed r).motionSteps.grantFades.routes := by
  rw [s.blockStart_eq]
  simp

/-- The entry that a block start's composition has made of an entry of the list, and its motion then: the same pair and
lifecycle, and silent at its target if it has just entered. -/
theorem State.blockStart_stems (s : State) (r : BlockRaces) : ∀ e' ∈ (s.blockStart r).routes,
    ∃ e ∈ (s.mixed r).routes, e'.pair = e.pair ∧ e'.lifecycle = e.lifecycle
      ∧ (entersSilent (s.blockStart r) e → entersSilent (s.blockStart r) e') := by
  rw [s.blockStart_routes r]
  refine grantUnits_forall _ (fun e' stems waits => ?_) _ _ (fun e' he => ?_)
  · obtain ⟨e, he, pair, life, enters⟩ := stems
    refine ⟨e, he, pair, life, fun silent => ?_⟩
    obtain ⟨_, _, steady, _⟩ := enters silent
    rw [waits] at steady
    cases steady
  · obtain ⟨e, here, rfl⟩ := List.mem_map.1 he
    refine ⟨e, here, e.motionStep_pair _, e.motionStep_lifecycle _, fun silent => ?_⟩
    have ⟨_, gain, motion, _, there, _⟩ := silent
    rw [e.motionStep_rest _ gain motion there]
    exact silent

/-- A block start's list has the pairs that its removals leave. -/
theorem State.blockStart_pairs (s : State) (r : BlockRaces) :
    (s.blockStart r).routes.map (·.pair) = (s.serving r).serveRebuild.removeRetired.routes.map (·.pair) := by
  have moved : (s.mixed r).motionSteps.routes.map (·.pair) = (s.mixed r).routes.map (·.pair) := by
    rw [State.motionSteps, State.mapRoutes, State.withRoutes_routes, List.map_map]
    exact List.map_congr_left (fun e _ => e.motionStep_pair _)
  have composed : (s.mixed r).routes.map (·.pair) = (s.serving r).serveRebuild.removeRetired.routes.map (·.pair) := by
    refine (List.map_map ..).trans (List.map_congr_left (fun e _ => ?_))
    exact (State.composeEntry_pair _ e).1
  rw [s.blockStart_routes r, ← composed, ← moved]
  exact grantUnits_pairs _ _ _

/-- After the composition a block start raises METER alone. -/
theorem State.blockStart_full (s : State) (r : BlockRaces) :
    (s.blockStart r).noticed .routeFull = (s.serving r).serveRebuild.noticed .routeFull := by
  have metered := (State.meterStep_reads (s.mixed r).motionSteps.grantFades.mutingEnd).notices .routeFull (by decide)
  have opened : (s.blockStart r).noticed .routeFull
      = (s.mixed r).motionSteps.grantFades.mutingEnd.meterStep.noticed .routeFull :=
    State.noticed_congr (by simp [State.blockStart_eq]) _
  rw [opened, metered]
  exact State.noticed_congr (by simp [State.mixed, State.serving]) _

/-! ### The list of a block start with no reset and no cue (R42 to R52) -/

/-- In pair order a pair has one entry. -/
theorem entry_of_pair {l : List Entry} (ascend : pairsAscend (l.map (·.pair))) {e f : Entry} (he : e ∈ l) (hf : f ∈ l)
    (same : e.pair = f.pair) : e = f := by
  have nodup : (l.map (·.pair)).Nodup := ascend.imp (fun lower same => absurd lower (by rw [same]; exact lt_irrefl _))
  exact List.inj_on_of_nodup_map nodup he hf same

section Uncued

variable {s : State} {r : BlockRaces} (plain : s.port.resetRequest = false) (runs : s.adoptionRuns)
  (swept : s.sweepPos = 33) (uncued : s.takeList = [])

include plain runs swept uncued

/-- A rebuild is carried out where one is asked for or a survey has ended, and no survey runs on; else the request waits
(R42, R50, R51). -/
theorem State.serving_served (unforced : s.rebuild ≠ .forced) (running : (s.serving r).running = true) :
    let asked := s.switchesAt r || s.rebuild == .requested
    let rebuilt := !(s.blockStart r).surveying && (asked || s.surveying)
    let v := s.serving r
    (rebuilt = true → v.serveRebuild = v.rebuildRoutes)
    ∧ (rebuilt = false → v.serveRebuild = v ∧ v.rebuild = if asked then .requested else .none) := by
  intro asked rebuilt v
  have works := State.listWorks_serving (r := r) swept uncued plain runs
  have request : askedRebuild (s.switchesAt r) s.rebuild = if asked then .requested else .none := by
    unfold askedRebuild asked
    cases s.switchesAt r <;> cases before : s.rebuild <;> simp_all
  have always : askedRebuild true s.rebuild = .requested := by
    unfold askedRebuild
    rw [if_pos rfl, if_neg unforced]
  simp only [rebuilt, s.blockStart_surveying_serving r]
  rcases works.request with ⟨still, rebuild⟩ | ⟨ran, ended, rebuild⟩
  · rw [request] at rebuild
    rw [← still]
    cases surveying : v.surveying with
    | true =>
      refine ⟨fun h => absurd h (by simp), fun _ => ⟨v.serveRebuild_waits ?_, rebuild⟩⟩
      cases due : asked with
      | true => exact .inr ⟨by rw [rebuild, due]; rfl, surveying⟩
      | false => exact .inl (by rw [rebuild, due]; rfl)
    | false =>
      cases due : asked with
      | true =>
        have requested : v.rebuild = .requested := by rw [rebuild, due]; rfl
        refine ⟨fun _ => v.serveRebuild_rebuilds running (.inr ⟨requested, surveying⟩), fun h => ?_⟩
        simp at h
      | false =>
        have none : v.rebuild = .none := by rw [rebuild, due]; rfl
        refine ⟨fun h => ?_, fun _ => ⟨v.serveRebuild_waits (.inl none), none⟩⟩
        simp at h
  · rw [always] at rebuild
    refine ⟨fun _ => v.serveRebuild_rebuilds running (.inr ⟨rebuild, ended⟩), fun h => ?_⟩
    simp [ran, ended] at h

/-- The list of a block start, from the list that its rebuild leaves: who stays, who enters and who waits
(R43 to R49). -/
theorem State.blockStart_list {relife : Entry → Entry} {wanting : List Pair} {room : Nat} {live : Entry → Prop}
    (h : ServedBy (s.serving r) (s.serving r).serveRebuild relife wanting room) (ordered : s.listsOrdered)
    (apart : ∀ p ∈ wanting, ∀ e ∈ s.routes, e.pair ≠ p)
    (lives : ∀ e ∈ s.routes, ((relife (s.glided r e)).lifecycle = .live ↔ live e)) :
    let t := s.blockStart r
    let places := room + (s.serving r).serveRebuild.retired
    let stays := fun e => live e ∨ (s.glided r e).gain ≠ .off
    (∀ q : Entry → Bool, (∀ e ∈ s.routes, q e = true ↔ ¬stays e) →
      (s.routes.filter q).length = (s.serving r).serveRebuild.retired)
    ∧ pairsAscend (t.routes.map (·.pair)) ∧ t.unserved = wanting.drop places
    ∧ (∀ p, (∃ e ∈ t.routes, e.pair = p) ↔ (∃ e ∈ s.routes, e.pair = p ∧ stays e) ∨ p ∈ wanting.take places)
    ∧ (∀ e ∈ s.routes, ∀ e' ∈ t.routes, e'.pair = e.pair → (e'.lifecycle = .live ↔ live e))
    ∧ (∀ e' ∈ t.routes, (∀ e ∈ s.routes, e.pair ≠ e'.pair) → entersSilent t e') := by
  intro t places stays
  let v := s.serving r
  let x := v.serveRebuild.removeRetired
  have list : v.routes = s.routes.map (s.glided r) := State.serving_routes plain runs swept uncued
  have stands : ∀ e, (relife (s.glided r e)).pair = e.pair ∧ (relife (s.glided r e)).gain = (s.glided r e).gain := by
    intro e
    refine ⟨(h.stands _).pair.trans (s.glided_pair r e).1, ?_⟩
    rw [h.stands (s.glided r e)]
  have leaves : ∀ e ∈ s.routes, ((relife (s.glided r e)).removable = true ↔ ¬stays e) := by
    intro e he
    rw [Entry.removable_iff, (stands e).2, not_or, not_not, ← lives e he]
    refine and_congr_left (fun _ => ?_)
    cases (relife (s.glided r e)).lifecycle <;> simp
  have member : ∀ e', e' ∈ x.routes ↔ (∃ e ∈ s.routes, e' = relife (s.glided r e) ∧ stays e)
      ∨ ∃ p ∈ wanting.take places, e' = v.newEntry p := by
    intro e'
    refine (h.mem_removed e').trans (or_congr ?_ Iff.rfl)
    rw [show (s.serving r).routes = _ from list]
    constructor
    · rintro ⟨f, hf, rfl, still⟩
      obtain ⟨e, he, rfl⟩ := List.mem_map.1 hf
      exact ⟨e, he, rfl, not_not.1 (fun gone => by rw [(leaves e he).2 gone] at still; cases still)⟩
    · rintro ⟨e, he, rfl, still⟩
      exact ⟨_, List.mem_map_of_mem he, rfl, Bool.eq_false_iff.2 (fun gone => (leaves e he).1 gone still)⟩
  have stems : ∀ e' ∈ t.routes, ∃ f ∈ x.routes, e'.pair = f.pair ∧ e'.lifecycle = f.lifecycle
      ∧ (∀ p, f = v.newEntry p → entersSilent t e') := by
    intro e' he'
    obtain ⟨g, hg, pair, life, enters⟩ := s.blockStart_stems r e' he'
    obtain ⟨f, hf, rfl⟩ := (x.mem_compose g).1 hg
    obtain ⟨samePair, sameLife⟩ := x.composeEntry_pair f
    refine ⟨f, hf, pair.trans samePair, life.trans sameLife, fun p new => enters ?_⟩
    rw [new]
    exact (entersSilent_compose (s.samePlan_blockStart r) p).2
  refine ⟨fun q gone => ?_, ?_, ?_, fun p => ?_, fun e he e' he' same => ?_, fun e' he' new => ?_⟩
  · rw [h.retired, show (s.serving r).routes = _ from list, List.filter_map, List.length_map]
    congr 1
    refine List.filter_congr (fun e he => ?_)
    rw [Function.comp_apply, Bool.eq_iff_iff, gone e he, leaves e he]
  · exact (keptLists_listsOrdered.kept.blockStart s r ordered).1
  · obtain ⟨_, _, _, _, _, _, _, _, unserved, _⟩ := s.blockStart_of_mixed r
    exact unserved.trans h.removed_unserved
  · have same : (∃ e ∈ t.routes, e.pair = p) ↔ ∃ f ∈ x.routes, f.pair = p := by
      rw [← List.mem_map, ← List.mem_map, ← s.blockStart_pairs r]
    rw [same]
    constructor
    · rintro ⟨f, hf, rfl⟩
      rcases (member f).1 hf with ⟨e, he, rfl, still⟩ | ⟨p, hp, rfl⟩
      · exact .inl ⟨e, he, (stands e).1.symm, still⟩
      · exact .inr hp
    · rintro (⟨e, he, rfl, still⟩ | hp)
      · exact ⟨_, (member _).2 (.inl ⟨e, he, rfl, still⟩), (stands e).1⟩
      · exact ⟨_, (member _).2 (.inr ⟨p, hp, rfl⟩), rfl⟩
  · obtain ⟨f, hf, pair, life, _⟩ := stems e' he'
    rw [life]
    rcases (member f).1 hf with ⟨g, hg, rfl, _⟩ | ⟨p, hp, rfl⟩
    · have one : g = e := entry_of_pair ordered.1 hg he ((stands g).1.symm.trans (pair.symm.trans same))
      rw [one]
      exact lives e he
    · exact absurd (same.symm.trans pair) (apart p (List.mem_of_mem_take hp) e he)
  · obtain ⟨f, hf, pair, _, enters⟩ := stems e' he'
    rcases (member f).1 hf with ⟨g, hg, rfl, _⟩ | ⟨p, _, fresh⟩
    · exact absurd ((stands g).1.symm.trans pair.symm) (new g hg)
    · exact enters p fresh

end Uncued

/-- Settles O23: the removals with their admissions, alone and in a block start after its rebuild. -/
theorem routeRemovalAdmitsUnserved : Obligations.RouteRemovalAdmitsUnserved := by
  refine ⟨fun s due => ?_, fun r b s plain runs swept uncued unforced ordered copy => ⟨_, rfl, ?_⟩⟩
  · let w := s.removeRetired
    refine ⟨_, execRouteRemoval_of due, ?_, w.compose_targetsComposed, s.removal_rest⟩
    dsimp only
    rw [← s.retired_eq]
    refine ⟨s.removeRetired_lists.2, (List.length_map _).trans s.removeRetired_length, fun e he => ?_,
      fun e he stays => ?_, fun p hp => ?_⟩
    · obtain ⟨f, hf, rfl⟩ := (w.mem_compose e).1 he
      obtain ⟨_, _, _, composed⟩ := w.composeEntry_rest f
      rw [composed, ← f.removable_iff, s.removeRetired_stays f hf]
      exact Bool.false_ne_true
    · have here : e ∈ w.routes :=
        (s.mem_removeRetired e).2 (.inl ⟨he, Bool.eq_false_iff.2 (fun leaves => stays (e.removable_iff.1 leaves))⟩)
      obtain ⟨_, _, _, composed⟩ := w.composeEntry_rest e
      refine ⟨_, (w.mem_compose _).2 ⟨e, here, rfl⟩, ?_⟩
      rw [composed]
    · have here : s.newEntry p ∈ w.routes := (s.mem_removeRetired _).2 (.inr ⟨p, hp, rfl⟩)
      exact ⟨_, (w.mem_compose _).2 ⟨_, here, rfl⟩, entersSilent_compose s.samePlan_compose_removeRetired p⟩
  let t := s.blockStart r
  let v := s.serving r
  have adopted : t.adopted = some b := (s.blockStart_adopted_copy r runs).trans copy
  have plan := s.samePlan_blockStart r
  have running : v.running = true := by
    rw [State.running, ← plan.1]
    exact State.running_of_adopted adopted
  have slope : t.gainSlope = b.globals.gainSlope := by
    rw [State.gainSlope, adopted]
    rfl
  have gain : ∀ e, (s.glided r e).gain = glideStep b.globals.gainSlope e.gain e.targetGain := fun e => by
    rw [← slope]
    rfl
  have list : v.routes = s.routes.map (s.glided r) := State.serving_routes plain runs swept uncued
  have works := State.listWorks_serving (r := r) swept uncued plain runs
  obtain ⟨carried, waits⟩ := State.serving_served (r := r) plain runs swept uncued unforced running
  obtain ⟨_, _, _, request, _, _, _, admitted, _⟩ := s.blockStart_of_mixed r
  have full := s.blockStart_full r
  have admitted : t.admitted = v.serveRebuild.admitted := admitted.trans (by simp [State.mixed, v, State.serving])
  have asks : t.rebuild = v.serveRebuild.rebuild := request.trans (by simp [State.mixed, v, State.serving])
  dsimp only at carried waits ⊢
  generalize (!(s.blockStart r).surveying && (s.switchesAt r || s.rebuild == .requested || s.surveying)) = rebuilt at *
  cases rebuilt with
  | true =>
    have served := carried rfl
    obtain ⟨nowAdmitted, request, left, _⟩ := v.rebuildRoutes_lists
    have admits : t.admitted = v.admittedNow := by rw [admitted, served, nowAdmitted]
    have wanted : t.admitted.filter (fun p => s.routes.all (fun e => e.pair != p)) = v.wanting := by
      simp only [admits, State.wanting, list, List.all_map, Function.comp_def, (s.glided_pair r _).1]
    have h := servedBy_rebuilt v
    rw [← served, show v.routes.length = s.routes.length by rw [list, List.length_map]] at h
    obtain ⟨count, ascend, waits, pairs, lives, enters⟩ := State.blockStart_list plain runs swept uncued
      (live := fun e => e.pair ∈ t.admitted) h ordered
      (fun p hp e he => by
        rw [← (s.glided_pair r e).1]
        exact ((v.mem_wanting p).1 hp).2 _ (by rw [list]; exact List.mem_map_of_mem he))
      (fun e he => by
        rw [Entry.rebuilt_live, (s.glided_pair r e).1, admits]
        exact List.contains_iff_mem)
    simp only [if_true, ← gain]
    rw [wanted, count _ (fun e _ => decide_eq_true_iff)]
    refine ⟨admits.trans plan.admittedNow.symm, asks.trans (by rw [served]; exact request), ascend, waits, pairs, lives,
      enters, ?_⟩
    rw [full, served, State.rebuildRoutes_noticed, left, works.unserved, works.full, list, List.length_map]
    simp [or_comm]
  | false =>
    obtain ⟨served, before⟩ := waits rfl
    have ⟨_, _, _, waiting, _⟩ := ordered
    have h : ServedBy (s.serving r) (s.serving r).serveRebuild id s.unserved 0 := by
      rw [served, ← works.unserved]
      exact servedBy_kept v
    obtain ⟨count, ascend, waits, pairs, lives, enters⟩ := State.blockStart_list plain runs swept uncued
      (live := fun e => e.lifecycle = .live) h ordered
      (fun p hp e he same => waiting e he (by rw [same]; exact hp))
      (fun e he => by rw [id_eq, (s.glided_pair r e).2])
    simp only [Bool.false_eq_true, if_false, ← gain]
    rw [count _ (fun e _ => decide_eq_true_iff)]
    refine ⟨admitted.trans (by rw [served, works.admitted]), asks.trans (by rw [served]; exact before), ascend, waits,
      pairs, lives, enters, ?_⟩
    rw [full, served, works.full]
    simp

end Sys2Proof.Machine
end

section
/-! The targets and the motion that a block start leaves (O10). -/

namespace Sys2Proof.Machine

/-! ### The targets after the motion (R40, R82, R93) -/

/-- A duck decision goes by the sources, the zones and the entries' pairs and lifecycles (R90, R91). -/
theorem State.ducks_congr {s t : State} (sources : t.sources = s.sources) (zones : t.zones = s.zones)
    (listed : t.listed = s.listed) (b : Bank) (p : Pair) : t.ducks b p = s.ducks b p := by
  have entries : ∀ (u : State) (q : Pair), u.routes.any (fun e => e.pair == q && e.lifecycle == .live)
      = u.listed.any (fun x => x.1 == q && x.2 == .live) := by
    intro u q
    rw [State.listed, List.any_map]
    rfl
  have qualifiers : t.qualifies b p.zone = s.qualifies b p.zone := by
    funext i
    unfold State.qualifies
    rw [entries, entries, listed, State.source_congr sources, State.zone_congr zones]
  have source : t.source = s.source := funext (State.source_congr sources)
  unfold State.ducks State.pStar
  rw [qualifiers, source]

theorem State.composed_congr {s t : State} (sources : t.sources = s.sources) (zones : t.zones = s.zones)
    (nom : t.nom = s.nom) (listed : t.listed = s.listed) (b : Bank) (p : Pair) : t.composed b p = s.composed b p := by
  unfold State.composed
  rw [State.ducks_congr sources zones listed, State.source_congr sources, State.zone_congr zones, nom]

/-- What a composition says of an entry (R82). -/
def Entry.targets (e : Entry) : (Pair × Lifecycle) × Gain × Bool × Bool :=
  ((e.pair, e.lifecycle), e.targetGain, e.ceilingLimited, e.ducked)

/-- The targets stay those composed while what they are composed from stays. -/
theorem targetsComposed_congr {s t : State} (sources : t.sources = s.sources) (zones : t.zones = s.zones)
    (nom : t.nom = s.nom) (live : t.live = s.live) (surveying : t.surveying = s.surveying)
    (targets : t.routes.map Entry.targets = s.routes.map Entry.targets) (composed : targetsComposed s) :
    targetsComposed t := by
  have listed : t.listed = s.listed := by
    have firsts := congrArg (List.map Prod.fst) targets
    rw [List.map_map, List.map_map] at firsts
    exact firsts
  intro e' he' b adopted
  have here : e'.targets ∈ s.routes.map Entry.targets := by
    rw [← targets]
    exact List.mem_map_of_mem he'
  obtain ⟨e, he, same⟩ := List.mem_map.1 here
  simp only [Entry.targets, Prod.mk.injEq] at same
  obtain ⟨⟨pair, life⟩, gain, limited, ducked⟩ := same
  rw [State.composed_congr sources zones nom listed, State.ducks_congr sources zones listed, surveying, ← pair, ← life,
    ← gain, ← limited, ← ducked]
  exact composed e he b (by rw [← adopted, State.adopted, State.adopted, live])

/-- Grants keep whatever does not go by the motion. -/
theorem grantUnits_map {α : Type} (f : Entry → α) (fadeLength : Nat)
    (same : ∀ e : Entry, f (e.grant fadeLength) = f e) :
    ∀ (l : List Entry) (free : Nat), (grantUnits fadeLength free l).map f = l.map f
  | [], free => by cases free <;> rfl
  | e :: l, 0 => rfl
  | e :: l, free + 1 => by
    unfold grantUnits
    split
    · rw [List.map_cons, List.map_cons, same, grantUnits_map f fadeLength same l free]
    · rw [List.map_cons, List.map_cons, grantUnits_map f fadeLength same l (free + 1)]

theorem Entry.freeStep_targets (e : Entry) (slip : Nat) : (e.freeStep slip).targets = e.targets := by
  unfold Entry.freeStep
  dsimp only
  (repeat' split) <;> rfl

theorem Entry.motionStep_targets (e : Entry) (slip : Nat) : (e.motionStep slip).targets = e.targets := by
  have ended : e.endFade.targets = e.targets := by
    unfold Entry.endFade
    split <;> rfl
  unfold Entry.motionStep
  (repeat' split)
  · rfl
  · rw [Entry.freeStep_targets, ended]
  · rfl
  · exact e.freeStep_targets slip

/-- The targets of a block start are composed from the state it leaves. -/
theorem State.blockStart_targetsComposed (s : State) (r : BlockRaces) : targetsComposed (s.blockStart r) := by
  obtain ⟨sources, zones, nom, _, live, _⟩ := s.blockStart_of_mixed r
  refine targetsComposed_congr (s := s.mixed r) sources zones nom live (s.blockStart_surveying r) ?_
    (State.compose_targetsComposed _)
  rw [s.blockStart_routes r]
  refine (grantUnits_map _ _ (fun _ => rfl) _ _).trans ?_
  rw [State.motionSteps, State.mapRoutes, State.withRoutes_routes, List.map_map]
  exact List.map_congr_left (fun e _ => e.motionStep_targets _)

/-! ### The grants (R69, R75) -/

/-- The free units go to the waiting entries in list order. -/
theorem grantUnits_getElem? (fadeLength : Nat) : ∀ (l : List Entry) (free n : Nat) (e : Entry), l[n]? = some e →
    (grantUnits fadeLength free l)[n]? = some
      (if e.motion = .awaitingFade ∧ ((l.take n).filter (fun x => x.motion = .awaitingFade)).length < free
        then e.grant fadeLength else e)
  | x :: l, 0, n, e, here => by
    rw [grantUnits, here, if_neg (fun h => Nat.not_lt_zero _ h.2)]
  | x :: l, free + 1, 0, e, here => by
    obtain rfl : x = e := by simpa using here
    unfold grantUnits
    by_cases waits : x.motion = .awaitingFade <;> simp [waits]
  | x :: l, free + 1, n + 1, e, here => by
    have later : l[n]? = some e := by simpa using here
    unfold grantUnits
    by_cases waits : x.motion = .awaitingFade
    · simp [waits, grantUnits_getElem? fadeLength l free n e later]
    · simp [waits, grantUnits_getElem? fadeLength l (free + 1) n e later]

theorem State.grantFades_granted (s : State) : fadesGranted s.fadeLength s.routes s.grantFades.routes := by
  refine ⟨grantUnits_length _ _ _, fun n e here => ?_⟩
  exact grantUnits_getElem? _ _ _ n e here

/-! ### The motion step (R63 to R67, R71, R72) -/

/-- A free step of an entry from a delay towards a target (R65 to R67). -/
def freeSteps (slip : Nat) (e' : Entry) (delay target : Nat) : Prop :=
  e'.targetDelay = target
  ∧ (delay = target → e'.motion = .steady ∧ e'.delay = target)
  ∧ (delay ≠ target → ((target : Int) - delay).natAbs ≤ slip →
      e'.motion = .slipping ∧ (e'.delay : Int) = delay + (if delay < target then 1 else -1))
  ∧ (slip < ((target : Int) - delay).natAbs → e'.delay = delay ∧ e'.motion = .awaitingFade)

theorem Entry.freeStep_steps (e : Entry) (slip : Nat) : freeSteps slip (e.freeStep slip) e.delay e.targetDelay := by
  unfold freeSteps Entry.freeStep
  dsimp only
  split
  · rename_i there
    have same : e.delay = e.targetDelay := by omega
    exact ⟨rfl, fun _ => ⟨rfl, same⟩, fun apart => absurd same apart, fun far => by omega⟩
  · split
    · refine ⟨rfl, fun same => by omega, fun apart _ => ⟨rfl, ?_⟩, fun far => by omega⟩
      show ((stepTowards e.delay e.targetDelay : Nat) : Int) = _
      unfold stepTowards
      by_cases lower : e.delay < e.targetDelay
      · rw [if_pos lower, if_pos lower]
        omega
      · rw [if_neg lower, if_neg lower]
        omega
    · exact ⟨rfl, fun same => by omega, fun _ near => by omega, fun _ => ⟨rfl, rfl⟩⟩

/-- A silent entry comes to rest at its latest target (R64). -/
theorem Entry.motionStep_silent (e : Entry) (slip : Nat) (silent : e.gain = .off) : e.motionStep slip = e.rest :=
  if_pos silent

/-- A heard entry that is not FADING takes a free step (R65 to R67). -/
theorem Entry.motionStep_free (e : Entry) (slip : Nat) (heard : e.gain ≠ .off) (free : e.motion.isFading = false) :
    e.motionStep slip = e.freeStep slip := by
  unfold Entry.motionStep
  rw [if_neg heard]
  split
  · rename_i fading
    rw [fading] at free
    cases free
  · rfl

/-- A heard FADING entry fades for one more block, or ends its fade with a free step (R71, R72). -/
theorem Entry.motionStep_fading (e : Entry) (slip : Nat) (heard : e.gain ≠ .off) {destination k n : Nat}
    {waiting : Option Nat} (fading : e.motion = .fading destination k n waiting) :
    e.motionStep slip = if n ≤ k + 1
      then Entry.freeStep
        { e with motion := .steady, delay := destination, targetDelay := waiting.getD destination } slip
      else { e with motion := .fading destination (k + 1) n waiting } := by
  unfold Entry.motionStep Entry.endFade
  rw [if_neg heard, fading]
  simp [Motion.fadeOver]

theorem Entry.motionStep_gain (e : Entry) (slip : Nat) : (e.motionStep slip).gain = e.gain := by
  unfold Entry.motionStep Entry.rest Entry.endFade Entry.freeStep
  dsimp only
  (repeat' split) <;> rfl

/-! ### The entries of a block start with no reset and no cue -/

/-- The rebuild of a block start, carried out or not, leaves every entry in its place, and its new entries have pairs
that no entry had. -/
theorem State.servedBy_serveRebuild (v : State) (apart : ∀ p ∈ v.unserved, ∀ e ∈ v.routes, e.pair ≠ p) :
    ∃ relife wanting room, ServedBy v v.serveRebuild relife wanting room
      ∧ ∀ p ∈ wanting, ∀ e ∈ v.routes, e.pair ≠ p := by
  have rebuilt := And.intro (servedBy_rebuilt v) (fun p hp => ((v.mem_wanting p).1 hp).2)
  have kept := And.intro (servedBy_kept v) apart
  have dropped : ServedBy v { v with rebuild := .none } id v.unserved 0 :=
    ⟨entryStands_refl, (List.map_id _).symm, rfl, rfl, fun _ => rfl⟩
  unfold State.serveRebuild
  (repeat' split)
  · exact ⟨_, _, _, kept⟩
  · exact ⟨_, _, _, kept⟩
  · exact ⟨_, _, _, rebuilt⟩
  · exact ⟨_, _, _, dropped, apart⟩
  · exact ⟨_, _, _, rebuilt⟩
  · exact ⟨_, _, _, dropped, apart⟩

/-- An entry before the motion steps of a block start stands where its glide step, and a switch-over's new target, have
left the entry of its pair. -/
theorem State.mixed_stands {s : State} {r : BlockRaces} (plain : s.port.resetRequest = false) (runs : s.adoptionRuns)
    (swept : s.sweepPos = 33) (uncued : s.takeList = []) (ordered : s.listsOrdered) {e g : Entry} (he : e ∈ s.routes)
    (hg : g ∈ (s.mixed r).routes) (same : g.pair = e.pair) : entryStands (s.glided r e) g := by
  let v := s.serving r
  have list : v.routes = s.routes.map (s.glided r) := State.serving_routes plain runs swept uncued
  have unserved : v.unserved = s.unserved := (State.listWorks_serving (r := r) swept uncued plain runs).unserved
  have old : ∀ e ∈ s.routes, s.glided r e ∈ v.routes := fun e he => by
    rw [list]
    exact List.mem_map_of_mem he
  have ⟨ascend, _, _, waiting, _⟩ := ordered
  obtain ⟨relife, wanting, room, served, new⟩ := v.servedBy_serveRebuild (fun p hp f hf => by
    rw [list] at hf
    obtain ⟨e, he, rfl⟩ := List.mem_map.1 hf
    rw [(s.glided_pair r e).1]
    rintro rfl
    exact waiting e he (by rw [← unserved]; exact hp))
  obtain ⟨f, hf, rfl⟩ := (v.serveRebuild.removeRetired.mem_compose g).1 hg
  have stands := v.serveRebuild.removeRetired.composeEntry_stands f
  rw [stands.pair] at same
  rcases (served.mem_removed f).1 hf with ⟨a, ha, rfl, _⟩ | ⟨p, hp, rfl⟩
  · rw [list] at ha
    obtain ⟨d, hd, rfl⟩ := List.mem_map.1 ha
    rw [(served.stands _).pair, (s.glided_pair r d).1] at same
    rw [← entry_of_pair ascend hd he same]
    exact entryStands_trans (served.stands _) stands
  · exact absurd ((s.glided_pair r e).1.trans same.symm) (new p (List.mem_of_mem_take hp) _ (old e he))

/-- The motion of an entry before its motion step: a new target at a switch-over, pending behind a running fade
(R61, R62). -/
theorem State.glided_motion (s : State) (r : BlockRaces) (e : Entry) :
    let a := s.glided r e
    let renewed := ((s.blockStart r).targetDelayOf e.pair).delay
    (e.motion.isFading = false → a.motion.isFading = false ∧ a.delay = e.delay
      ∧ a.targetDelay = if s.switchesAt r then renewed else e.targetDelay)
    ∧ (∀ destination k n waiting, e.motion = .fading destination k n waiting →
        a.motion = .fading destination k n
          (if s.switchesAt r then (if renewed = destination then none else some renewed) else waiting)
        ∧ a.delay = e.delay ∧ a.targetDelay = e.targetDelay)
    ∧ a.latestTarget = if s.switchesAt r then renewed else e.latestTarget := by
  intro a renewed
  cases switches : s.switchesAt r with
  | false =>
    have same : a = { e with gain := a.gain } := by
      simp only [a, State.glided, switches]
      rfl
    rw [same]
    exact ⟨fun free => ⟨free, rfl, rfl⟩, fun _ _ _ _ fading => ⟨fading, rfl, rfl⟩, rfl⟩
  | true =>
    have placed : a = { e.placeTarget ((s.blockStart r).targetDelayOf e.pair) with gain := a.gain } := by
      simp only [a, State.glided, switches]
      rfl
    rw [placed]
    unfold Entry.placeTarget Entry.latestTarget
    cases motion : e.motion with
    | fading destination k n waiting =>
      refine ⟨fun free => (by cases free), fun _ _ _ _ fading => ?_, ?_⟩
      · cases fading
        exact ⟨rfl, rfl, rfl⟩
      · show Option.getD (if renewed = destination then none else some renewed) destination = renewed
        split
        · rename_i there
          exact there.symm
        · rfl
    | steady | slipping | awaitingFade => exact ⟨fun _ => ⟨rfl, rfl, rfl⟩, fun _ _ _ _ fading => (by cases fading), rfl⟩

/-- Settles O10: the targets composed, the motion steps, and the grants in list order. -/
theorem blockStartComposesTargets : Obligations.BlockStartComposesTargets := by
  refine ⟨fun r s => ⟨_, rfl, s.blockStart_targetsComposed r⟩, fun r s plain runs swept uncued ordered => ⟨_, rfl, ?_⟩⟩
  let t := s.blockStart r
  obtain ⟨_, _, _, _, live, _⟩ := s.blockStart_of_mixed r
  have adopted : t.adopted = (s.mixed r).adopted := by rw [State.adopted, live]; rfl
  have slip : t.slipLimit = (s.mixed r).slipLimit := by rw [State.slipLimit, State.slipLimit, adopted]
  have fade : t.fadeLength = (s.mixed r).motionSteps.fadeLength := by
    rw [State.fadeLength, adopted]
    rfl
  refine ⟨(s.mixed r).motionSteps.routes, ?_, fun e he e' he' same => ?_⟩
  · rw [fade, s.blockStart_routes r]
    exact State.grantFades_granted _
  obtain ⟨g, hg, rfl⟩ := List.mem_map.1 he'
  have stands : entryStands (s.glided r e) g :=
    State.mixed_stands plain runs swept uncued ordered he hg ((g.motionStep_pair _).symm.trans same)
  obtain ⟨free, fades, latest⟩ := s.glided_motion r e
  have motion : g.motion = (s.glided r e).motion ∧ g.delay = (s.glided r e).delay
      ∧ g.targetDelay = (s.glided r e).targetDelay ∧ g.latestTarget = (s.glided r e).latestTarget := by
    rw [stands]
    exact ⟨rfl, rfl, rfl, rfl⟩
  obtain ⟨motion, delay, target, latestTarget⟩ := motion
  rw [Entry.motionStep_gain]
  refine ⟨fun silent => ?_, fun heard unfading => ?_, fun destination k n waiting fading heard => ?_⟩
  · rw [g.motionStep_silent _ silent]
    exact ⟨rfl, rfl, latestTarget.trans latest⟩
  · obtain ⟨still, place, aim⟩ := free unfading
    rw [g.motionStep_free _ heard (by rw [motion]; exact still), ← aim, ← place, ← target, ← delay, slip]
    exact g.freeStep_steps _
  · obtain ⟨runs, place, aim⟩ := fades destination k n waiting fading
    rw [g.motionStep_fading _ heard (motion.trans runs)]
    refine ⟨fun on => ?_, fun ended => ?_⟩
    · rw [if_neg (by omega)]
      exact ⟨rfl, delay.trans place, target.trans aim⟩
    · rw [if_pos ended, slip]
      exact Entry.freeStep_steps _ _

end Sys2Proof.Machine
end

section
/-! Invariants of each route by itself, and the ranges of delays, fades and gains through every step (O52). -/

namespace Sys2Proof.Machine

/-! ### Invariants of every entry -/

/-- A property of entries that new entries have and that every operation on an entry keeps. -/
structure KeptEntries (Q : Entry → Prop) : Prop where
  new : ∀ (s : State) p, Q (s.newEntry p)
  placed : ∀ (s : State) e, Q e → Q (e.placeTarget (s.targetDelayOf e.pair))
  rebuilt : ∀ e admitted, Q e → Q (e.rebuilt admitted)
  composed : ∀ (s : State) e, Q e → Q (s.composeEntry e)
  glided : ∀ slope e, Q e → Q { e with gain := glideStep slope e.gain e.targetGain }
  stepped : ∀ e slip, Q e → Q (e.motionStep slip)
  ended : ∀ e slip, Q e → Q (e.endFade.freeStep slip)
  granted : ∀ e fadeLength, Q e → Q (e.grant fadeLength)

/-- An invariant of every entry passes through the operations on the lists. -/
theorem KeptEntries.keptLists {Q : Entry → Prop} (k : KeptEntries Q) : KeptLists (fun s => ∀ e ∈ s.routes, Q e) where
  same s t routes _ h := by
    rw [routes]
    exact h
  empty t routes _ := by
    rw [routes]
    exact nofun
  retarget s chosen h := s.retarget_forall chosen h (k.placed s)
  serve s h := s.serveRebuild_forall h k.rebuilt k.new
  remove s h := s.removeRetired_forall h k.new
  compose s h := State.mapRoutes_forall s _ h (k.composed s)
  glide s h := State.mapRoutes_forall s _ h (k.glided s.gainSlope)
  motion s h := State.mapRoutes_forall s _ h (fun e => k.stepped e s.slipLimit)
  fadeEnd s pair h := State.mapRoutes_forall s _ h (fun e he => by
    split
    · exact k.ended e _ he
    · exact he)
  grant s h := grantUnits_forall _ (fun e he _ => k.granted e _ he) _ _ h

theorem KeptEntries.keptByStep {Q : Entry → Prop} (k : KeptEntries Q) : KeptByStep (fun s => ∀ e ∈ s.routes, Q e) :=
  k.keptLists.kept.keptByStep

/-! ### Delays (R60) -/

theorem Entry.grant_delays (e : Entry) (fadeLength : Nat) (h : e.delaysLegal) : (e.grant fadeLength).delaysLegal := by
  obtain ⟨delay, target, _⟩ := h
  refine ⟨delay, target, fun _ _ _ _ m => ?_⟩
  cases m
  exact ⟨target, nofun⟩

theorem keptEntries_delaysLegal : KeptEntries Entry.delaysLegal where
  new s p := s.newEntry_delays p
  placed s e h := e.placeTarget_delays _ h (s.targetDelayOf_legal e.pair)
  rebuilt e admitted := Entry.delaysLegal_congr (e.rebuilt_motion admitted)
  composed s e := Entry.delaysLegal_congr (s.composeEntry_motion e)
  glided _ _ h := h
  stepped e slip := e.motionStep_delays slip
  ended e slip h := Entry.freeStep_delays _ slip (e.endFade_delays h)
  granted e fadeLength := e.grant_delays fadeLength

/-! ### The aim of a fade (R62) -/

/-- What `fadesAimed` states of one entry. -/
abbrev Entry.fadeAimed (e : Entry) : Prop :=
  ∀ destination progress unitLength pendingTarget,
    e.motion = .fading destination progress unitLength pendingTarget → e.targetDelay = destination

theorem Entry.fadeAimed_of_still {e : Entry} (still : e.motion.isFading = false) : e.fadeAimed := by
  intro _ _ _ _ m
  rw [m] at still
  cases still

theorem Entry.fadeAimed_congr {e e' : Entry}
    (same : e'.motion = e.motion ∧ e'.delay = e.delay ∧ e'.targetDelay = e.targetDelay) (h : e.fadeAimed) :
    e'.fadeAimed := by
  obtain ⟨motion, _, target⟩ := same
  rw [Entry.fadeAimed, motion, target]
  exact h

/-- A new target behind a running fade waits, and leaves the fade its destination (R62). -/
theorem Entry.placeTarget_fadeAimed (e : Entry) (t : TargetDelay) (h : e.fadeAimed) : (e.placeTarget t).fadeAimed := by
  cases m : e.motion with
  | fading destination progress unitLength pendingTarget =>
    intro _ _ _ _ m'
    simp only [Entry.placeTarget, m, Motion.withTarget, Motion.targetAfter, Motion.fading.injEq] at m' ⊢
    obtain ⟨rfl, _⟩ := m'
    exact h _ _ _ _ m
  | steady | slipping | awaitingFade =>
    exact Entry.fadeAimed_of_still (by rw [Entry.placeTarget_isFading, m]; rfl)

theorem Entry.motionStep_fadeAimed (e : Entry) (slip : Nat) (h : e.fadeAimed) : (e.motionStep slip).fadeAimed := by
  by_cases silent : e.gain = .off
  · rw [e.motionStep_silent slip silent]
    exact Entry.fadeAimed_of_still rfl
  cases m : e.motion with
  | fading destination progress unitLength pendingTarget =>
    rw [e.motionStep_fading slip silent m]
    split
    · exact Entry.fadeAimed_of_still (Entry.freeStep_unfading _ slip)
    · intro _ _ _ _ m'
      obtain ⟨rfl, _⟩ := Motion.fading.inj m'
      exact h _ _ _ _ m
  | steady | slipping | awaitingFade =>
    rw [e.motionStep_free slip silent (by rw [m]; rfl)]
    exact Entry.fadeAimed_of_still (e.freeStep_unfading slip)

theorem keptEntries_fadeAimed : KeptEntries Entry.fadeAimed where
  new _ _ := Entry.fadeAimed_of_still rfl
  placed _ e := e.placeTarget_fadeAimed _
  rebuilt e admitted := Entry.fadeAimed_congr (e.rebuilt_motion admitted)
  composed s e := Entry.fadeAimed_congr (s.composeEntry_motion e)
  glided _ _ h := h
  stepped e slip := e.motionStep_fadeAimed slip
  ended e slip _ := Entry.fadeAimed_of_still (e.endFade.freeStep_unfading slip)
  granted _ _ _ := fun _ _ _ _ m => by
    obtain ⟨rfl, _⟩ := Motion.fading.inj m
    rfl

/-! ### Gains (R86 to R88, R94) -/

/-- What `gainsLegal` states of one entry. -/
abbrev Entry.gainsLegal (e : Entry) : Prop := e.gain.legal ∧ e.targetGain.legal

theorem Gain.off_legal : Gain.off.legal := nofun

/-- A composed gain is OFF or lies in -192..+24 (R83 to R88). -/
theorem State.composed_legal (s : State) (b : Bank) (p : Pair) : (s.composed b p).gain.legal := by
  unfold State.composed
  dsimp only
  split
  · exact Gain.off_legal
  · split
    · exact limitSum_range _ _ _
    · exact Gain.off_legal

theorem State.composeEntry_gainsLegal (s : State) (e : Entry) (h : e.gainsLegal) : (s.composeEntry e).gainsLegal := by
  unfold State.composeEntry
  split
  · exact ⟨h.1, s.composed_legal _ e.pair⟩
  · exact ⟨h.1, Gain.off_legal⟩

/-- The first step of a rebuild turns the target gain of an entry that retires OFF and leaves every other gain (R43, R46). -/
theorem Entry.rebuilt_gainsLegal (e : Entry) (admitted : Bool) (h : e.gainsLegal) : (e.rebuilt admitted).gainsLegal := by
  unfold Entry.rebuilt
  split
  · exact h
  · exact h
  · exact ⟨h.1, Gain.off_legal⟩
  · exact h

theorem Entry.motionStep_targetGain (e : Entry) (slip : Nat) : (e.motionStep slip).targetGain = e.targetGain := by
  have targets := e.motionStep_targets slip
  simp only [Entry.targets, Prod.mk.injEq] at targets
  obtain ⟨_, gain, _⟩ := targets
  exact gain

/-- A free step changes an entry's motion and its delay alone (R65 to R67). -/
theorem Entry.freeStep_rest (e : Entry) (slip : Nat) :
    e.freeStep slip = { e with motion := (e.freeStep slip).motion, delay := (e.freeStep slip).delay } := by
  unfold Entry.freeStep
  dsimp only
  (repeat' split) <;> rfl

/-- The end of a fade changes an entry's motion and its two delays alone (R71, R72). -/
theorem Entry.endFade_rest (e : Entry) :
    e.endFade = { e with motion := e.endFade.motion, delay := e.endFade.delay, targetDelay := e.endFade.targetDelay } := by
  unfold Entry.endFade
  split <;> rfl

theorem keptEntries_gainsLegal : KeptEntries Entry.gainsLegal where
  new _ _ := ⟨Gain.off_legal, Gain.off_legal⟩
  placed _ _ h := h
  rebuilt e admitted := e.rebuilt_gainsLegal admitted
  composed s e := s.composeEntry_gainsLegal e
  glided slope e h := ⟨glideStep_range slope e.gain e.targetGain h.1 h.2, h.2⟩
  stepped e slip h := by
    rw [Entry.gainsLegal, e.motionStep_gain, e.motionStep_targetGain]
    exact h
  ended e slip h := by
    rw [Entry.freeStep_rest, Entry.endFade_rest]
    exact h
  granted _ _ h := h

/-- Settles O52: delays, the aims of fades and gains, each entry by entry through every operation. -/
theorem routeValuesStayInRange : Obligations.RouteValuesStayInRange :=
  ⟨⟨keptEntries_delaysLegal.keptByStep, keptEntries_fadeAimed.keptByStep⟩, keptEntries_gainsLegal.keptByStep⟩

end Sys2Proof.Machine
end

section
/-! Target delays and the end of a fade (O14, O16). -/

namespace Sys2Proof.Machine

/-! ### The plan distance and the flight (R58, R59) -/

/-- The sum of squares that the plan distance is the root of. -/
def planSquare (p q : Position) : Nat := (((q.x : Int) - p.x) ^ 2 + ((q.y : Int) - p.y) ^ 2).toNat

theorem planDistance_eq (p q : Position) : planDistance p q = floorSqrt (planSquare p q) := by
  simp only [planDistance, planSquare, sq]

theorem planSquare_cast (p q : Position) :
    (planSquare p q : Int) = ((q.x : Int) - p.x) ^ 2 + ((q.y : Int) - p.y) ^ 2 := Int.toNat_of_nonneg (by positivity)

/-- The diagonal of the plan is the greatest distance of two positions. -/
theorem planSquare_le {p q : Position} (hp : p.legal) (hq : q.legal) : planSquare p q ≤ 2047 ^ 2 + 1023 ^ 2 := by
  obtain ⟨px, py⟩ := hp
  obtain ⟨qx, qy⟩ := hq
  have dx : ((q.x : Int) - p.x) ^ 2 ≤ 2047 ^ 2 := sq_le_sq' (by omega) (by omega)
  have dy : ((q.y : Int) - p.y) ^ 2 ≤ 1023 ^ 2 := sq_le_sq' (by omega) (by omega)
  have sum := planSquare_cast p q
  omega

theorem planDistance_spec {p q : Position} (hp : p.legal) (hq : q.legal) :
    planDistance p q ^ 2 ≤ planSquare p q ∧ planSquare p q < (planDistance p q + 1) ^ 2 := by
  rw [planDistance_eq]
  exact floorSqrt_spec _ ((planSquare_le hp hq).trans_lt (by norm_num))

theorem planDistance_le {p q : Position} (hp : p.legal) (hq : q.legal) : planDistance p q ≤ 2288 := by
  have root : planDistance p q ^ 2 < 2289 ^ 2 :=
    ((planDistance_spec hp hq).1.trans (planSquare_le hp hq)).trans_lt (by norm_num)
  exact Nat.lt_succ_iff.1 (lt_of_pow_lt_pow_left₀ 2 (by norm_num) root)

theorem planDistance_self (p : Position) : planDistance p p = 0 := by
  have none : planSquare p p = 0 := by simp [planSquare]
  rw [planDistance_eq, none]
  decide +kernel

theorem flightSamples_le {distance f : Nat} (hd : distance ≤ 2288) (hf : f ≤ 61000) :
    flightSamples distance f ≤ 34074 := by
  have product : distance * f ≤ 2288 * 61000 := Nat.mul_le_mul hd hf
  unfold flightSamples
  omega

/-! ### The target delay (R60) -/

theorem State.targetDelayOf_live {s : State} {b : Bank} (live : s.adopted = some b) (pair : Pair) :
    s.targetDelayOf pair = clampRaw (rawDelay b pair (s.source pair.source).pos) := by
  unfold State.targetDelayOf
  rw [live]

theorem clampRaw_below {raw : Int} (below : raw < 0) :
    clampRaw raw = { delay := 0, floorFlag := true, ceilFlag := false } := if_pos below

theorem clampRaw_above {raw : Int} (above : 16383 < raw) :
    clampRaw raw = { delay := 16383, floorFlag := false, ceilFlag := true } := by
  rw [clampRaw, if_neg (by omega), if_pos above]

theorem clampRaw_within {raw : Int} (low : 0 ≤ raw) (high : raw ≤ 16383) :
    clampRaw raw = { delay := raw.toNat, floorFlag := false, ceilFlag := false } := by
  rw [clampRaw, if_neg (by omega), if_neg (by omega)]

/-- Settles O14: the root of the sum of squares, the rounded flight, and the clamp of the raw delay. -/
theorem targetDelayIsExact : Obligations.TargetDelayIsExact := by
  refine ⟨⟨fun p q hp hq => ?_, by decide +kernel, fun p _ => planDistance_self p, fun _ _ => rfl, fun f => ?_,
    fun _ _ => flightSamples_le⟩, fun s b pair live => ?_⟩
  · obtain ⟨below, above⟩ := planDistance_spec hp hq
    dsimp only
    rw [← planSquare_cast]
    exact ⟨by exact_mod_cast below, by exact_mod_cast above, planDistance_le hp hq⟩
  · simp [flightSamples]
  · dsimp only
    rw [State.targetDelayOf_live live]
    refine ⟨fun below => ?_, fun low high => ?_, fun above => ?_⟩
    · rw [rawDelay, clampRaw_below below]
      exact ⟨rfl, rfl, rfl⟩
    · rw [rawDelay, clampRaw_within low high]
      exact ⟨Int.toNat_of_nonneg low, rfl, rfl⟩
    · rw [rawDelay, clampRaw_above above]
      exact ⟨rfl, rfl, rfl⟩

/-! ### The end of a fade (R69, R71, R72) -/

/-- What FADE_END for a pair makes of an entry. -/
def Entry.afterFadeEnd (e : Entry) (pair : Pair) (slip : Nat) : Entry :=
  if e.pair = pair ∧ e.atFadeEnd then e.endFade.freeStep slip else e

theorem exec_fadeEnd (pair : Pair) (s : State) :
    exec (.fadeEnd pair) s = .next (s.mapRoutes (fun e => e.afterFadeEnd pair s.slipLimit)) := rfl

theorem Motion.fadeOver_of_still {m : Motion} (still : m.isFading = false) : m.fadeOver = false := by
  cases m with
  | fading => cases still
  | steady | slipping | awaitingFade => rfl

theorem Entry.afterFadeEnd_none {e : Entry} {pair : Pair} (slip : Nat)
    (undue : e.pair ≠ pair ∨ e.motion.isFading = false ∨ e.gain = .off) : e.afterFadeEnd pair slip = e := by
  refine if_neg fun ⟨same, due⟩ => ?_
  rcases undue with other | still | silent
  · exact other same
  · simp [Entry.atFadeEnd, Motion.fadeOver_of_still still] at due
  · simp [Entry.atFadeEnd, silent] at due

theorem Entry.atFadeEnd_fading {e : Entry} {destination progress unitLength : Nat} {pendingTarget : Option Nat}
    (fading : e.motion = .fading destination progress unitLength pendingTarget) (heard : e.gain ≠ .off) :
    e.atFadeEnd = true ↔ unitLength ≤ progress + 1 := by
  simp [Entry.atFadeEnd, fading, heard, Motion.fadeOver]

theorem Entry.endFade_fading {e : Entry} {destination progress unitLength : Nat} {pendingTarget : Option Nat}
    (fading : e.motion = .fading destination progress unitLength pendingTarget) :
    e.endFade = { e with motion := .steady, delay := destination, targetDelay := pendingTarget.getD destination } := by
  rw [Entry.endFade, fading]

/-- Before its last fade block a fade runs on (R71; log 3). -/
theorem Entry.afterFadeEnd_early {e : Entry} {destination progress unitLength : Nat} {pendingTarget : Option Nat}
    (pair : Pair) (slip : Nat) (fading : e.motion = .fading destination progress unitLength pendingTarget)
    (heard : e.gain ≠ .off) (early : progress + 1 < unitLength) : e.afterFadeEnd pair slip = e := by
  refine if_neg fun ⟨_, due⟩ => ?_
  have ended := (Entry.atFadeEnd_fading fading heard).1 due
  omega

/-- After its last fade block an entry stands at its fade destination and takes a free step towards the pending target,
if one is held; nothing but its motion and its delays changes (R71, R72). -/
theorem Entry.afterFadeEnd_due {e e' : Entry} {destination progress unitLength slip : Nat} {pendingTarget : Option Nat}
    (fading : e.motion = .fading destination progress unitLength pendingTarget) (heard : e.gain ≠ .off)
    (ended : progress + 1 = unitLength) (after : e.afterFadeEnd e.pair slip = e') :
    freeSteps slip e' destination (pendingTarget.getD destination)
    ∧ e' = { e with motion := e'.motion, delay := e'.delay, targetDelay := pendingTarget.getD destination } := by
  have due : e.pair = e.pair ∧ e.atFadeEnd := ⟨rfl, (Entry.atFadeEnd_fading fading heard).2 ended.ge⟩
  rw [Entry.afterFadeEnd, if_pos due, Entry.endFade_fading fading] at after
  subst after
  exact ⟨Entry.freeStep_steps _ _, Entry.freeStep_rest _ _⟩

theorem State.limits_noBank {s : State} (idle : s.adopted = none) : s.slipLimit = 0 ∧ s.fadeLength = 0 := by
  rw [State.slipLimit, State.fadeLength, idle]
  exact ⟨rfl, rfl⟩

theorem State.limits_live {s : State} {b : Bank} (live : s.adopted = some b) :
    s.slipLimit = b.globals.slipLimit ∧ s.fadeLength = b.globals.fadeLength := by
  rw [State.slipLimit, State.fadeLength, live]
  exact ⟨rfl, rfl⟩

/-- Settles O16: the grants in list order, and a free step from the destination of a fade that has ended. -/
theorem fadesAreGrantedAndEnd : Obligations.FadesAreGrantedAndEnd := by
  refine ⟨fun s => ⟨s.grantFades, rfl, rfl, s.grantFades_granted⟩, fun _ => State.limits_noBank,
    fun _ _ => State.limits_live, fun pair s => ⟨_, exec_fadeEnd pair s, rfl, fun n e here => ?_⟩⟩
  refine ⟨e.afterFadeEnd pair s.slipLimit, by simp [here], Entry.afterFadeEnd_none s.slipLimit, ?_⟩
  rintro destination progress unitLength pendingTarget fading rfl heard
  refine ⟨e.afterFadeEnd_early _ _ fading heard, fun ended => ?_⟩
  obtain ⟨⟨_, there, near, far⟩, rest⟩ := Entry.afterFadeEnd_due fading heard ended rfl
  refine ⟨rest, fun same => ?_, fun apart => near apart.symm, fun beyond => (far beyond).symm⟩
  obtain ⟨steady, delay⟩ := there same.symm
  exact ⟨steady, delay.trans same⟩

end Sys2Proof.Machine
end

section
/-! The load (O24). -/

namespace Sys2Proof.Machine

/-- The load, item by item of the cost table (R77). -/
theorem State.load_eq (s : State) :
    s.load = 4 * (s.sources.filter (fun x => x.gate ≠ .lost)).length + 8 * 24 + 10 * s.routes.length
      + 24 * (s.routes.filter (fun e => e.motion.isFading)).length + (if s.survey.phase = .idle then 0 else 16) := by
  have lost : s.sources.filter (fun x => x.gate != .lost) = s.sources.filter (fun x => x.gate ≠ .lost) :=
    List.filter_congr (fun x _ => by by_cases gate : x.gate = .lost <;> simp [gate])
  have survey : (if s.surveying then 16 else 0) = if s.survey.phase = .idle then 0 else 16 := by
    by_cases idle : s.survey.phase = .idle <;> simp [State.surveying, idle]
  rw [State.load, lost, survey]
  rfl

/-- Settles O24: the cost table with sixteen sources, 160 entries and sixteen fades at the most. -/
theorem loadWithinBudget : Obligations.LoadWithinBudget := by
  intro s
  have table := s.load_eq
  refine ⟨table, by omega, fun sixteen ⟨_, room, _⟩ pool => ?_⟩
  have heard := List.length_filter_le (fun x : Source => decide (x.gate ≠ .lost)) s.sources
  have fades : (s.routes.filter (fun e => e.motion.isFading)).length ≤ 16 := pool
  have survey : (if s.survey.phase = .idle then 0 else 16) ≤ 16 := by split <;> omega
  omega

end Sys2Proof.Machine
end

section
/-! Ducking and the composition of a target gain (O17, O18). -/

namespace Sys2Proof.Machine

/-! ### Ducking (R89 to R91) -/

theorem Bank.priorityOf_of_entry {b : Bank} {x : Source} {n : Nat}
    (entry : b.priorityNumbers[x.mix.priority]? = some n) : b.priorityOf x = n := by
  rw [Bank.priorityOf, List.getD_eq_getElem?_getD, entry]
  rfl

/-- What each duck mode asks of a source (R90). -/
theorem meetsDuckMode_iff (mode : DuckMode) (duckNumber number : Nat) (marker : Bool) :
    meetsDuckMode mode duckNumber number marker = true
      ↔ (mode = .atOrAbove ∧ duckNumber ≤ number) ∨ (mode = .equal ∧ duckNumber = number)
        ∨ (mode = .marked ∧ marker = true) := by
  cases mode with
  | none | atOrAbove | marked => simp [meetsDuckMode]
  | equal => simp [meetsDuckMode, eq_comm (a := number)]

theorem State.qualifies_iff (s : State) (b : Bank) (z : Fin 24) (j : Fin 16) :
    s.qualifies b z j = true
      ↔ (∃ e ∈ s.routes, e.pair = { source := j, zone := z } ∧ e.lifecycle = .live)
        ∧ (s.source j).mix.mute = false ∧ (s.source j).gate.counted = true
        ∧ meetsDuckMode (s.zone z).mix.duckMode (s.zone z).mix.duckNumber (b.priorityOf (s.source j))
          (s.source j).mix.marker = true := by
  simp [State.qualifies, and_assoc]

/-- P* stands above a number exactly when some qualifier does (R91). -/
theorem State.ducks_iff (s : State) (b : Bank) (pair : Pair) :
    s.ducks b pair = true
      ↔ ∃ j, s.qualifies b pair.zone j = true ∧ b.priorityOf (s.source pair.source) < b.priorityOf (s.source j) := by
  have qualifier : ∀ n, n ∈ (allSources.filter (s.qualifies b pair.zone)).map (fun i => b.priorityOf (s.source i))
      ↔ ∃ j, s.qualifies b pair.zone j = true ∧ b.priorityOf (s.source j) = n := by
    simp [allSources]
  unfold State.ducks
  cases highest : s.pStar b pair.zone with
  | none =>
    rw [State.pStar, List.max?_eq_none_iff] at highest
    rw [highest] at qualifier
    refine ⟨fun h => absurd h Bool.false_ne_true, fun ⟨j, qualifies, _⟩ => ?_⟩
    exact absurd ((qualifier _).2 ⟨j, qualifies, rfl⟩) List.not_mem_nil
  | some p =>
    rw [State.pStar, List.max?_eq_some_iff] at highest
    obtain ⟨attained, top⟩ := highest
    rw [decide_eq_true_iff]
    constructor
    · intro below
      obtain ⟨j, qualifies, rfl⟩ := (qualifier p).1 attained
      exact ⟨j, qualifies, below⟩
    · rintro ⟨j, qualifies, below⟩
      exact below.trans_le (top _ ((qualifier _).2 ⟨j, qualifies, rfl⟩))

/-- Settles O18: P* is the greatest number among the qualifiers. -/
theorem duckedBelowHighestQualifier : Obligations.DuckedBelowHighestQualifier := by
  intro s b pair
  refine ⟨fun x n => Bank.priorityOf_of_entry, s.ducks_iff b pair, fun j => ?_⟩
  rw [s.qualifies_iff, meetsDuckMode_iff]

/-! ### Composition (R83 to R88) -/

/-- The silence of the first step (R83). -/
theorem State.composed_silent (s : State) (b : Bank) (pair : Pair)
    (silent : (s.source pair.source).mix.mute = true ∨ (s.zone pair.zone).mix.mute = true
      ∨ (s.source pair.source).mix.fader = .off ∨ (s.zone pair.zone).mix.level = .off
      ∨ ((s.source pair.source).gate.counted = false ∧ b.globals.offAttenuation = 192)) :
    s.composed b pair = { gain := .off, ceilingLimited := false } := by
  unfold State.composed
  dsimp only
  split
  · rfl
  · rename_i heard
    simp only [Bool.or_eq_true, Bool.and_eq_true, Bool.not_eq_true', beq_iff_eq, not_or, Bool.not_eq_true] at heard
    obtain ⟨⟨unmuted, sounding⟩, gated⟩ := heard
    rcases silent with muted | muted | off | off | off
    · exact absurd (muted.symm.trans unmuted) nofun
    · exact absurd (muted.symm.trans sounding) nofun
    · rw [off]
    · rw [off]
      split
      · rename_i level
        exact nomatch level
      · rfl
    · exact absurd off gated

/-- The other steps, where the first finds no silence (R84 to R88). -/
theorem State.composed_heard (s : State) (b : Bank) (pair : Pair) {fader level : Int}
    (source : (s.source pair.source).mix.mute = false) (zone : (s.zone pair.zone).mix.mute = false)
    (faded : (s.source pair.source).mix.fader = .code fader) (levelled : (s.zone pair.zone).mix.level = .code level)
    (gated : (s.source pair.source).gate.counted = true ∨ b.globals.offAttenuation ≠ 192) :
    s.composed b pair = limitSum
      (gainSum fader level (s.source pair.source).gate b.globals.offAttenuation s.nom
        (b.duckDepths.getD (s.source pair.source).mix.ratio 0) (s.ducks b pair))
      (b.couplingOf pair) b.globals.stabilityMargin := by
  have passes : (!(s.source pair.source).gate.counted && b.globals.offAttenuation == 192) = false := by
    rcases gated with counted | short
    · simp [counted]
    · simp [short]
  unfold State.composed
  dsimp only
  rw [source, zone, passes, faded, levelled]
  rfl

/-- The sum of the five terms, with the NOM table written out (R84, R85). -/
theorem gainSum_eq (fader level : Int) (g : GateState) (offAttenuation nom duckDepth : Nat) (ducked : Bool) :
    gainSum fader level g offAttenuation nom duckDepth ducked
      = fader + level + (if g.counted then 0 else -(offAttenuation : Int))
        + (if g.counted then
            ([0, 0, -6, -10, -12, -14, -16, -17, -18, -19, -20, -21, -22, -22, -23, -24, -24] : List Int).getD nom (-24)
          else 0)
        + (if ducked then -(duckDepth : Int) else 0) := rfl

/-- The bottom of the range (R86). -/
theorem limitSum_below {sum : Int} (coupling : Option Int) (margin : Nat) (below : sum < -192) :
    limitSum sum coupling margin = { gain := .off, ceilingLimited := false } := if_pos below

/-- The top of the range, with no coupling measured (R88). -/
theorem limitSum_uncoupled {sum : Int} (margin : Nat) (within : -192 ≤ sum) :
    limitSum sum none margin = { gain := .code (min sum 24), ceilingLimited := false } := if_neg (not_lt.2 within)

/-- The coupling ceiling, and the top of the range (R87, R88). -/
theorem limitSum_coupled {sum : Int} (coupling : Int) (margin : Nat) (within : -192 ≤ sum) :
    limitSum sum (some coupling) margin =
      if -coupling - margin < -192 then { gain := .off, ceilingLimited := true }
      else if -coupling - margin < sum then { gain := .code (min (-coupling - margin) 24), ceilingLimited := true }
      else { gain := .code (min sum 24), ceilingLimited := false } := if_neg (not_lt.2 within)

/-- Settles O17: the silence, and the limits on the sum. -/
theorem compositionFollowsSteps : Obligations.CompositionFollowsSteps := by
  intro s b pair
  refine ⟨fun silent => ?_, fun fader level source zone faded levelled gated => ?_⟩
  · rw [s.composed_silent b pair silent]
    exact ⟨rfl, rfl⟩
  · dsimp only
    rw [s.composed_heard b pair source zone faded levelled gated, ← gainSum_eq]
    generalize gainSum .. = sum
    refine ⟨fun below => ?_, fun within uncoupled => ?_, fun coupling within coupled => ?_⟩
    · rw [limitSum_below _ _ below]
      exact ⟨rfl, rfl⟩
    · rw [uncoupled, limitSum_uncoupled _ within]
      exact ⟨rfl, rfl⟩
    · rw [coupled, limitSum_coupled coupling _ within]
      refine ⟨fun silenced => ?_, fun heard under => ?_, fun heard beyond => ?_⟩
      · rw [if_pos silenced]
        exact ⟨rfl, rfl⟩
      · rw [if_neg (not_lt.2 heard), if_neg (not_lt.2 under)]
        exact ⟨rfl, rfl⟩
      · rw [if_neg (not_lt.2 heard), if_pos beyond]
        exact ⟨rfl, rfl⟩

end Sys2Proof.Machine
end

section
/-! The linear gain (O20). -/

namespace Sys2Proof.Machine

/-! ### The exact gain (R97) -/

/-- The exact value that a linear gain rounds: 4096 × 10^(c/40). -/
noncomputable def exactGain (c : Int) : ℝ := 4096 * (10 : ℝ) ^ ((c : ℝ) / 40)

theorem exactGain_pos (c : Int) : 0 < exactGain c := by
  unfold exactGain
  positivity

theorem exactGain_mono {c d : Int} (below : c ≤ d) : exactGain c ≤ exactGain d := by
  have exponent : (c : ℝ) / 40 ≤ (d : ℝ) / 40 := by
    have cast : (c : ℝ) ≤ d := by exact_mod_cast below
    linarith
  exact mul_le_mul_of_nonneg_left (Real.rpow_le_rpow_of_exponent_le (by norm_num) exponent) (by norm_num)

/-- Its 40th power, doubled, in whole numbers. -/
theorem exactGain_pow (c : Int) :
    (2 * exactGain c) ^ 40 * 10 ^ (-c).toNat = (((2 * 4096) ^ 40 * 10 ^ c.toNat : Nat) : ℝ) := by
  have root : ((10 : ℝ) ^ ((c : ℝ) / 40)) ^ 40 = (10 : ℝ) ^ c := by
    rw [← Real.rpow_natCast, ← Real.rpow_mul (by norm_num), ← Real.rpow_intCast]
    norm_num
  have balance : (10 : ℝ) ^ c * 10 ^ (-c).toNat = 10 ^ c.toNat := by
    rw [← zpow_natCast, ← zpow_natCast, ← zpow_add₀ (by norm_num)]
    congr 1
    omega
  calc (2 * exactGain c) ^ 40 * 10 ^ (-c).toNat
      = (2 * 4096) ^ 40 * (((10 : ℝ) ^ ((c : ℝ) / 40)) ^ 40 * 10 ^ (-c).toNat) := by
        unfold exactGain
        ring
    _ = (2 * 4096) ^ 40 * 10 ^ c.toNat := by rw [root, balance]
    _ = _ := by simp only [Nat.cast_mul, Nat.cast_pow, Nat.cast_ofNat]

/-- The test of the search compares with the exact gain. -/
theorem exactGain_admits (n : Nat) (c : Int) :
    n ^ 40 * 10 ^ (-c).toNat ≤ (2 * 4096) ^ 40 * 10 ^ c.toNat ↔ (n : ℝ) ≤ 2 * exactGain c := by
  rw [← Nat.cast_le (α := ℝ), ← exactGain_pow, Nat.cast_mul, Nat.cast_pow, Nat.cast_pow, Nat.cast_ofNat,
    mul_le_mul_iff_left₀ (by positivity)]
  exact pow_le_pow_iff_left₀ (Nat.cast_nonneg n) (by linarith [exactGain_pos c]) (by norm_num)

/-- No odd number is twice an exact gain of the range: no code is half-way between two integers. -/
theorem exactGain_ne_half {n : Nat} {c : Int} (low : -192 ≤ c) (odd : n % 2 = 1) : (n : ℝ) ≠ 2 * exactGain c := by
  intro half
  have powers : n ^ 40 * 10 ^ (-c).toNat = (2 * 4096) ^ 40 * 10 ^ c.toNat := by
    have real := exactGain_pow c
    rw [← half] at real
    exact_mod_cast real
  have split : n ^ 40 * 5 ^ (-c).toNat * 2 ^ (-c).toNat
      = 2 ^ (520 - (-c).toNat) * 10 ^ c.toNat * 2 ^ (-c).toNat := by
    have whole : (2 * 4096) ^ 40 = 2 ^ (520 - (-c).toNat) * 2 ^ (-c).toNat := by
      rw [← pow_add, Nat.sub_add_cancel (by omega), show 2 * 4096 = 2 ^ 13 from rfl, ← pow_mul]
    rw [mul_assoc, ← mul_pow, mul_right_comm, ← whole, ← powers, show 5 * 2 = 10 from rfl]
  have halved := Nat.eq_of_mul_eq_mul_right (by positivity) split
  have oddLeft : Odd (n ^ 40 * 5 ^ (-c).toNat) := (Nat.odd_iff.2 odd).pow.mul (Odd.pow (by decide))
  have evenRight : Even (2 ^ (520 - (-c).toNat) * 10 ^ c.toNat) :=
    (even_two.pow_of_ne_zero (by omega)).mul_right _
  rw [halved] at oddLeft
  exact Nat.not_even_iff_odd.2 oddLeft evenRight

/-! ### The rounding (R97) -/

/-- The linear gain of a code is the greatest m whose 2m - 1 does not exceed twice the exact gain. -/
theorem linearGain_greatest (c : Int) :
    ((2 * linearGain (.code c) - 1 : Nat) : ℝ) ≤ 2 * exactGain c
    ∧ ∀ m < 2 ^ 24, ((2 * m - 1 : Nat) : ℝ) ≤ 2 * exactGain c → m ≤ linearGain (.code c) := by
  have down : ∀ a b, a ≤ b →
      decide ((2 * b - 1) ^ 40 * 10 ^ (-c).toNat ≤ (2 * 4096) ^ 40 * 10 ^ c.toNat) = true →
      decide ((2 * a - 1) ^ 40 * 10 ^ (-c).toNat ≤ (2 * 4096) ^ 40 * 10 ^ c.toNat) = true := by
    simp only [decide_eq_true_iff, exactGain_admits]
    exact fun a b below admitted => (Nat.cast_le.2 (by omega)).trans admitted
  obtain ⟨admitted, _, _, greatest⟩ := bitSearch_greatest
    (fun m => (2 * m - 1) ^ 40 * 10 ^ (-c).toNat ≤ (2 * 4096) ^ 40 * 10 ^ c.toNat) down 24 0 (by simp)
  refine ⟨(exactGain_admits _ c).1 (of_decide_eq_true admitted), fun m small below => ?_⟩
  exact greatest m (by simpa using small) (decide_eq_true ((exactGain_admits _ c).2 below))

theorem linearGain_rounds {c : Int} (low : -192 ≤ c) (high : c ≤ 24) :
    |(linearGain (.code c) : ℝ) - exactGain c| < 1 / 2 := by
  obtain ⟨admitted, greatest⟩ := linearGain_greatest c
  have range := linearGain_le (.code c) (by rintro d ⟨⟩; exact ⟨low, high⟩)
  generalize linearGain (.code c) = m at *
  have above : 2 * exactGain c < 2 * m + 1 := by
    by_contra far
    have next := greatest (m + 1) (by omega) (by push_cast [show 2 * (m + 1) - 1 = 2 * m + 1 by omega]; linarith)
    omega
  have below : 2 * (m : ℝ) - 1 < 2 * exactGain c := by
    rcases Nat.eq_zero_or_pos m with rfl | pos
    · have positive := exactGain_pos c
      push_cast
      linarith
    · have strict := lt_of_le_of_ne admitted (exactGain_ne_half low (by omega))
      rwa [Nat.cast_sub (by omega), Nat.cast_mul, Nat.cast_ofNat, Nat.cast_one] at strict
  rw [abs_lt]
  constructor <;> linarith

theorem linearGain_mono {c d : Int} (low : -192 ≤ c) (below : c ≤ d) (high : d ≤ 24) :
    linearGain (.code c) ≤ linearGain (.code d) := by
  have range := linearGain_le (.code c) (by rintro e ⟨⟩; exact ⟨low, below.trans high⟩)
  exact (linearGain_greatest d).2 _ (by omega) ((linearGain_greatest c).1.trans
    (mul_le_mul_of_nonneg_left (exactGain_mono below) (by norm_num)))

/-- Settles O20: the search's greatest number is the nearest one, since no code is half-way. -/
theorem linearGainIsRounded : Obligations.LinearGainIsRounded := by
  refine ⟨rfl, fun c low high => ⟨linearGain_rounds low high, linearGain_le _ ?_⟩,
    fun c d low below high => linearGain_mono low below high⟩
  rintro d ⟨⟩
  exact ⟨low, high⟩

end Sys2Proof.Machine
end

section
/-! The glide (O19). -/

namespace Sys2Proof.Machine

/-! ### The glide step (R94) -/

theorem glideStep_fall (slope : Nat) {c : Int} (above : -192 < c) :
    glideStep slope (.code c) .off = .code (max (c - slope) (-192)) := if_neg (not_le.2 above)

theorem glideStep_up (slope : Nat) {c t : Int} (below : c < t) :
    glideStep slope (.code c) (.code t) = .code (min (c + slope) t) := if_pos below

theorem glideStep_down (slope : Nat) {c t : Int} (above : t ≤ c) :
    glideStep slope (.code c) (.code t) = .code (max (c - slope) t) := if_neg (not_lt.2 above)

/-! ### The gains of a list -/

/-- The pairs of the list with their current gains. -/
def State.gains (s : State) : List (Pair × Gain) := s.routes.map (fun e => (e.pair, e.gain))

/-- The pairs of the list with the gains of one glide step by a slope. -/
def State.stepped (s : State) (slope : Nat) : List (Pair × Gain) :=
  s.routes.map (fun e => (e.pair, glideStep slope e.gain e.targetGain))

theorem State.gains_glide (s : State) : s.glide.gains = s.stepped s.gainSlope := List.map_map

theorem State.gains_congr {s t : State} (routes : t.routes = s.routes) : t.gains = s.gains := by
  rw [State.gains, routes, State.gains]

theorem State.gains_compose (s : State) : s.compose.gains = s.gains := by
  refine (List.map_map ..).trans (List.map_congr_left (fun e _ => ?_))
  rw [Function.comp_apply, s.composeEntry_stands e]

/-- A new target delay leaves what it does not enter (R61, R62). -/
theorem State.map_placed {α : Type} (f : Entry → α) (same : ∀ e target, f (Entry.placeTarget e target) = f e)
    (u : State) (moved : Fin 16 → Bool) (l : List Entry) : (l.map (u.placed moved)).map f = l.map f := by
  rw [List.map_map]
  refine List.map_congr_left (fun e _ => ?_)
  rw [Function.comp_apply, State.placed]
  split
  · exact same e _
  · rfl

theorem State.gains_placed {s t u : State} {moved : Fin 16 → Bool}
    (routes : t.routes = s.routes.map (u.placed moved)) : t.gains = s.gains := by
  rw [State.gains, routes]
  exact State.map_placed _ (fun _ _ => rfl) ..

theorem State.stepped_placed {s t u : State} {moved : Fin 16 → Bool} (slope : Nat)
    (routes : t.routes = s.routes.map (u.placed moved)) : t.stepped slope = s.stepped slope := by
  rw [State.stepped, routes]
  exact State.map_placed _ (fun _ _ => rfl) ..

theorem State.mem_gains {s : State} {p : Pair} {g : Gain} :
    (p, g) ∈ s.gains ↔ ∃ e ∈ s.routes, e.pair = p ∧ e.gain = g := by
  simp [State.gains]

/-! ### The cues and the works of a boundary leave the gains (R61, R62, R118, R141) -/

theorem State.gains_applyItem (s : State) (item : CueItem) : (s.applyItem item).gains = s.gains := by
  have faulted : ∀ f, (s.faulted item f).gains = s.gains := fun f => State.gains_congr (by simp)
  unfold State.applyItem
  split
  · unfold State.applySourceSet
    split
    · exact faulted _
    · exact (State.gains_congr (by simp [State.carrySourceSet])).trans
        (State.gains_placed (s.takesSources_setSources (cueBody item) (bodyWord (cueBody item) 7)).routes)
  · exact State.gains_congr (by simp)
  · unfold State.applyScenePush
    split
    · exact faulted _
    · exact (State.gains_congr (by simp [State.carryScenePush])).trans
        (State.gains_placed (s.takesSources_pushScene (cueBody item)).routes)
  · exact State.gains_congr (by simp)
  · exact State.gains_congr (by simp)
  · exact State.gains_congr (by simp)
  · unfold State.applySurveyStart
    split
    · exact faulted _
    · unfold State.carrySurveyStart
      split
      · exact (State.gains_compose _).trans (State.gains_congr (by simp))
      · rfl
  · exact State.gains_congr (by simp)
  · exact State.gains_congr (by simp [State.applyBadKind])

/-- What the cues of a block start leave of the gains and of the pairs that wait. -/
theorem State.gains_cued (s : State) (r : BlockRaces) :
    (s.cued r).gains = (s.boundary r).stepped (s.boundary r).gainSlope
    ∧ (s.cued r).unserved = (s.boundary r).unserved := by
  have taken : (s.boundary r).glide.applyTaken.gains = (s.boundary r).glide.gains :=
    State.applyTaken_keeps (P := fun u => u.gains = (s.boundary r).glide.gains) _ rfl
      (fun u item h => (u.gains_applyItem item).trans h)
  have late : (s.cued r).gains = (s.boundary r).glide.applyTaken.gains := by
    unfold State.cued
    split
    · rfl
    · exact State.gains_congr (by simp)
  refine ⟨late.trans (taken.trans (State.gains_glide _)), ?_⟩
  unfold State.cued
  split <;> simp

theorem State.routes_evaluating (s : State) (r : BlockRaces) :
    (s.evaluating r).evaluateGates.routes = s.routes ∧ (s.evaluating r).evaluateGates.unserved = s.unserved := by
  have advanced : (s.ended.advanced r).routes = s.routes ∧ (s.ended.advanced r).unserved = s.unserved := by
    unfold State.advanced
    split <;> simp [State.ended]
  unfold State.evaluating
  split <;> simpa using advanced

/-- A boundary without an engine reset places targets alone (R141). -/
theorem State.stepped_boundary (s : State) (r : BlockRaces) (plain : s.port.resetRequest = false) (slope : Nat) :
    (s.boundary r).stepped slope = s.stepped slope ∧ (s.boundary r).unserved = s.unserved := by
  obtain ⟨routes, unserved⟩ := s.routes_evaluating r
  have found : (s.evaluating r).evaluateGates.stepped slope = s.stepped slope := by
    rw [State.stepped, routes, State.stepped]
  rw [s.boundary_evaluated r plain]
  split
  · rename_i due
    obtain ⟨b, live⟩ := State.evaluating_switched due
    obtain ⟨_, _, placed, _⟩ := State.reloadMix_parts _ b live
    exact ⟨(State.stepped_placed slope placed).trans found, by simpa using unserved⟩
  · exact ⟨found, unserved⟩

/-- The list that the rebuild of a block start finds has taken one glide step by the slope in force (R94 to R96). -/
theorem State.gains_serving (s : State) (r : BlockRaces) (plain : s.port.resetRequest = false) :
    (s.serving r).gains = s.stepped (s.blockStart r).gainSlope ∧ (s.serving r).unserved = s.unserved := by
  obtain ⟨gains, unserved⟩ := s.gains_cued r
  obtain ⟨stepped, waiting⟩ := s.stepped_boundary r plain (s.boundary r).gainSlope
  have slope : (s.boundary r).gainSlope = (s.blockStart r).gainSlope := by
    rw [State.gainSlope, State.gainSlope, State.adopted, State.adopted, s.blockStart_live]
  rw [← slope, ← stepped, ← gains, ← waiting, ← unserved]
  exact ⟨State.gains_congr (by simp [State.serving, State.followed]), by simp [State.serving, State.followed]⟩

/-! ### The list that a block start leaves -/

/-- After the removals a block start changes no gain. -/
theorem State.gains_blockStart (s : State) (r : BlockRaces) :
    (s.blockStart r).gains = (s.serving r).serveRebuild.removeRetired.gains := by
  have granted : (s.blockStart r).gains = (s.mixed r).motionSteps.gains := by
    rw [State.gains, s.blockStart_routes r]
    exact grantUnits_map _ _ (fun _ => rfl) _ _
  have moved : (s.mixed r).motionSteps.gains = (s.mixed r).gains := by
    refine (List.map_map ..).trans (List.map_congr_left (fun e _ => ?_))
    rw [Function.comp_apply, e.motionStep_pair, e.motionStep_gain]
  exact granted.trans (moved.trans (State.gains_compose _))

/-- Every entry that a block start keeps has taken its glide step; an entry that enters has a pair that no entry had. -/
theorem State.glided_of_blockStart {s : State} {r : BlockRaces} (plain : s.port.resetRequest = false)
    (ordered : s.listsOrdered) {e e' : Entry} (he : e ∈ s.routes) (he' : e' ∈ (s.blockStart r).routes)
    (same : e'.pair = e.pair) : e'.gain = glideStep (s.blockStart r).gainSlope e.gain e.targetGain := by
  let v := s.serving r
  obtain ⟨gains, unserved⟩ := s.gains_serving r plain
  have ⟨ascend, _, _, waiting, _⟩ := ordered
  have old : ∀ f ∈ v.routes, ∃ d ∈ s.routes, d.pair = f.pair
      ∧ f.gain = glideStep (s.blockStart r).gainSlope d.gain d.targetGain := by
    intro f hf
    have member : (f.pair, f.gain) ∈ s.stepped (s.blockStart r).gainSlope := by
      rw [← gains]
      exact List.mem_map_of_mem hf
    obtain ⟨d, hd, stepped⟩ := List.mem_map.1 member
    obtain ⟨pair, gain⟩ := Prod.mk.inj stepped
    exact ⟨d, hd, pair, gain.symm⟩
  obtain ⟨relife, wanting, room, served, new⟩ := v.servedBy_serveRebuild (fun p hp f hf => by
    obtain ⟨d, hd, pair, _⟩ := old f hf
    rw [← pair]
    rintro rfl
    exact waiting d hd (by rw [← unserved]; exact hp))
  have left : (e.pair, e'.gain) ∈ v.serveRebuild.removeRetired.gains := by
    rw [← s.gains_blockStart r]
    exact State.mem_gains.2 ⟨e', he', same, rfl⟩
  obtain ⟨f, hf, pair, gain⟩ := State.mem_gains.1 left
  rcases (served.mem_removed f).1 hf with ⟨a, ha, rfl, _⟩ | ⟨p, hp, rfl⟩
  · obtain ⟨d, hd, samePair, glided⟩ := old a ha
    have one : d = e := entry_of_pair ascend hd he (samePair.trans ((served.stands a).pair.symm.trans pair))
    rw [← gain, served.stands a, ← one]
    exact glided
  · have here : (e.pair, glideStep (s.blockStart r).gainSlope e.gain e.targetGain) ∈ v.gains := by
      rw [gains]
      exact List.mem_map_of_mem he
    obtain ⟨f, hf, found, _⟩ := State.mem_gains.1 here
    exact absurd (found.trans pair.symm) (new p (List.mem_of_mem_take hp) f hf)

/-- With no adoption in progress a block start keeps the bank in force (R140). -/
theorem State.blockStart_adopted_idle (s : State) (r : BlockRaces) (idle : s.adoption = none) :
    (s.blockStart r).adopted = s.adopted := by
  have runs : s.adoptionRuns := by
    intro a adopting
    rw [idle] at adopting
    exact nomatch adopting
  rw [s.blockStart_adopted_copy r runs, State.copyInForce, idle]

/-- Settles O19: the glide step case by case, and the gains of the list through a block start. -/
theorem glideStepsOnceABlock : Obligations.GlideStepsOnceABlock := by
  refine ⟨fun slope => ⟨rfl, fun _ => rfl, rfl, fun c => glideStep_fall slope, fun c t => glideStep_up slope,
    fun c t above => glideStep_down slope above.le, fun c => ?_⟩,
    fun r s plain ordered => ⟨_, rfl, s.blockStart_adopted_idle r, fun b live e he e' he' same => ?_⟩⟩
  · rw [glideStep_down slope le_rfl, max_eq_right (by omega)]
  · have slope : (s.blockStart r).gainSlope = b.globals.gainSlope := by
      rw [State.gainSlope, live]
      rfl
    rw [← slope]
    exact State.glided_of_blockStart plain ordered he he' same

end Sys2Proof.Machine
end

section
/-! ZONE_SET sent alone (O29). -/

namespace Sys2Proof.Machine

/-- A zone after the zone part of a body (R169). -/
theorem State.zone_setZones (s : State) (body : List Word) (low high : Word) (z : Fin 24) :
    (s.setZones body low high).zone z = { s.zone z with
      mix := if namesZone low high z then applyZoneFields body (s.zone z).mix else (s.zone z).mix } := by
  unfold State.setZones
  rw [State.zone_mapZones]
  split <;> rfl

/-- The state after a ZONE_SET with its outcome, before it is settled. -/
def State.zonesSet (s : State) (item : CueItem) (body : List Word) (clamps : Nat) : State :=
  (s.setZones body (bodyWord body 7) (bodyWord body 8)).outcome item.origin item.claim (clampCode clamps) clamps

theorem execZoneSet_of {s : State} {item : CueItem} {body : List Word} (running : s.running = true)
    (read : item.body = some body) (legal : present body 9 = true → (bodyWord body 19).toNat ≤ 3)
    (named : bodyWord body 7 ≠ 0 ∨ (bodyWord body 8).toNat % 256 ≠ 0) :
    exec (.zoneSet item) s = .next (s.zonesSet item body
      ((namedZones (bodyWord body 7) (bodyWord body 8)).length * zoneClamps body)).settle := by
  have passed : s.zoneSetFault item = none :=
    (checkedBody_none _ _).2 ⟨body, read, by simp [running, badDuck_eq_false legal, namedZones_nonempty named]⟩
  have whole : cueBody item = body := by
    unfold cueBody
    rw [read]
    rfl
  show execZoneSet item s = _
  unfold execZoneSet State.carryZoneSet
  rw [passed, whole]
  dsimp only
  rw [State.doneClamped_eq]
  rfl

/-- Where LAST stands alone a settling leaves every source (R15, R17). -/
theorem State.source_settle_lastAlone {u : State} (len : u.sources.length = 16) (alone : u.lastAlone) (i : Fin 16) :
    u.settle.source i = u.source i := by
  rw [u.source_settle len]
  refine if_neg ?_
  rintro ⟨last, j, forced⟩
  by_cases same : i = j
  · subst same
    exact absurd (last.symm.trans forced) nofun
  · have uncounted := alone i j same last
    rw [forced] at uncounted
    exact nomatch uncounted

/-- NOM is counted from the gates alone (R19). -/
theorem State.countedGates_of_source {s t : State} (lenS : s.sources.length = 16) (lenT : t.sources.length = 16)
    (same : ∀ i, t.source i = s.source i) : t.countedGates = s.countedGates := by
  refine State.countedGates_congr (List.ext_getElem (lenT.trans lenS.symm) (fun n insideT insideS => ?_))
  have read := same ⟨n, by omega⟩
  rwa [State.source, State.source, List.getD_eq_getElem _ _ insideT, List.getD_eq_getElem _ _ insideS] at read

/-- A cue that sets the mix and leaves the stack. -/
theorem State.cueSets.rest_of_scenes {s t : State} (h : s.cueSets t) (scenes : t.scenes = s.scenes) :
    { t with zones := s.zones, sources := s.sources, nom := s.nom, routes := s.routes, admitted := s.admitted,
             unserved := s.unserved, rebuild := s.rebuild, hold := s.hold, mem := s.mem, port := s.port } = s := by
  obtain ⟨_, _, _, _, _, _, _, _, _, _, _, _, settled⟩ := h
  rw [settled] at scenes ⊢
  dsimp only at scenes
  rw [scenes]

section Settled

variable (s : State) (item : CueItem) (body : List Word) (clamps : Nat)

theorem State.zonesSet_members :
    (s.zonesSet item body clamps).sources = s.sources ∧ (s.zonesSet item body clamps).routes = s.routes
    ∧ (s.zonesSet item body clamps).rebuild = s.rebuild ∧ (s.zonesSet item body clamps).scenes = s.scenes := by
  simp [State.zonesSet]

/-- A ZONE_SET asks for no rebuild (R42). -/
theorem State.asksFrom_zonesSet (running : s.running = true) : AsksFrom s (s.zonesSet item body clamps) false where
  admitted := by simp [State.zonesSet]
  unserved := by simp [State.zonesSet]
  listed := by simp [State.zonesSet, State.listed]
  full := (State.outcome_routeFull _ item _ _).trans (State.noticed_congr (by simp) _)
  request := by simp [State.zonesSet, askedRebuild]
  hold := by simp [State.zonesSet]
  running := by simpa [State.running, State.zonesSet] using running

theorem State.cueSets_zonesSet : s.cueSets (s.zonesSet item body clamps).settle :=
  State.cueSets_trans (t := s.setZones body (bodyWord body 7) (bodyWord body 8))
    ⟨_, _, _, _, _, _, _, _, _, _, _, _, rfl⟩
    (State.cueSets_trans (State.cueSets_outcome ..) (State.cueSets_of_settlesTo (State.settlesTo_settle _)))

theorem State.zone_zonesSet (z : Fin 24) : (s.zonesSet item body clamps).settle.zone z = { s.zone z with
    mix := if namesZone (bodyWord body 7) (bodyWord body 8) z then applyZoneFields body (s.zone z).mix
      else (s.zone z).mix } :=
  (State.zone_congr (by simp [State.settle, State.zonesSet]) z).trans (s.zone_setZones body _ _ z)

theorem State.source_zonesSet (len : s.sources.length = 16) (alone : s.lastAlone) (i : Fin 16) :
    (s.zonesSet item body clamps).settle.source i = s.source i := by
  obtain ⟨sources, _⟩ := s.zonesSet_members item body clamps
  have stands : (s.zonesSet item body clamps).lastAlone := by
    simpa only [State.lastAlone, State.source_congr sources] using alone
  exact (State.source_settle_lastAlone (by rw [sources]; exact len) stands i).trans (State.source_congr sources i)

/-- NOM stands, since no gate changes (R19). -/
theorem State.nom_zonesSet (counts : s.nomCounts) (alone : s.lastAlone) :
    (s.zonesSet item body clamps).settle.nom = s.nom := by
  obtain ⟨len, nom⟩ := counts
  obtain ⟨sources, _⟩ := s.zonesSet_members item body clamps
  obtain ⟨settled, counted⟩ := State.settle_nomCounts (s.zonesSet item body clamps) (by rw [sources]; exact len)
  rw [counted, nom]
  exact State.countedGates_of_source len settled (s.source_zonesSet item body clamps len alone)

theorem State.outcomeShown_zonesSet (canonical : s.mem.wf) :
    outcomeShown s (s.zonesSet item body clamps).settle item (clampCode clamps) clamps [.routeFull] :=
  outcomeShown_settle (s' := s.setZones body (bodyWord body 7) (bodyWord body 8)) (by simp) (by simp) rfl rfl rfl
    (State.outcome_shown _ item _ _ (by simpa using canonical))

end Settled

/-- Settles O29: the named zones set, and the settling of the change, which finds the gates as they stood. -/
theorem zoneSetAppliesFields : Obligations.ZoneSetAppliesFields := by
  refine ⟨zoneFields_byTable, fun item body s canonical running read legal named counts alone => ?_⟩
  have ran := execZoneSet_of running read legal named
  have clamped : (allZones.filter (fun z => namesZone (bodyWord body 7) (bodyWord body 8) z)).length * zoneClamps body
      = (namedZones (bodyWord body 7) (bodyWord body 8)).length * zoneClamps body := rfl
  dsimp only
  rw [clamped]
  generalize (namedZones (bodyWord body 7) (bodyWord body 8)).length * zoneClamps body = clamps at ran ⊢
  obtain ⟨_, routes, request, scenes⟩ := s.zonesSet_members item body clamps
  have change := s.cueSets_zonesSet item body clamps
  have ⟨len, _⟩ := counts
  refine ⟨_, ran, s.zone_zonesSet item body clamps, s.outcomeShown_zonesSet item body clamps canonical,
    s.source_zonesSet item body clamps len alone, s.nom_zonesSet item body clamps counts alone,
    settledFrom_settle (s.asksFrom_zonesSet item body clamps running), fun unasked => ?_, fun e he => ?_,
    change.portElse, change.rest_of_scenes (Eq.trans (by simp [State.settle]) scenes)⟩
  · rw [State.settle_routes_kept _ (request.trans unasked), routes]
  · exact State.settle_stands _ e (by rw [routes]; exact he)

end Sys2Proof.Machine
end

section
/-! SCENE_CLEAR sent alone (O32). -/

namespace Sys2Proof.Machine

/-! ### The outcome of a cue changes memory and port alone (R170, R174) -/

theorem State.outcome_rest (s : State) (o : Origin) (claim : Bool) (code : ResultCode) (detail : Nat) :
    { s.outcome o claim code detail with mem := s.mem, port := s.port } = s := by
  unfold State.outcome
  (repeat' split) <;> rfl

/-! ### SCENE_CLEAR (R110) -/

theorem execSceneClear_of {s : State} {item : CueItem} {body : List Word} (read : item.body = some body) :
    exec (.sceneClear item) s = .next (if s.running
      then State.outcome { s with scenes := [] } item.origin item.claim .ok 0
      else s.outcome item.origin item.claim .noBank 0) := by
  show execSceneClear item s = _
  unfold execSceneClear State.applySceneClear State.sceneClearFault checkedBody
  rw [read]
  cases running : s.running <;> rfl

/-- Settles O32: the fault of NO_BANK, or the emptied stack, and the outcome of either. -/
theorem sceneClearEmptiesStack : Obligations.SceneClearEmptiesStack := by
  intro item body s canonical read
  have reread : ∀ body', exec (.sceneClear { item with body := some body' }) s = exec (.sceneClear item) s := by
    intro body'
    rw [execSceneClear_of read, execSceneClear_of (item := { item with body := some body' }) rfl]
  refine ⟨_, execSceneClear_of read, ?_⟩
  cases running : s.running with
  | false =>
    let t := s.outcome item.origin item.claim .noBank 0
    have rest : { t with mem := s.mem, port := s.port } = s := s.outcome_rest ..
    have scenes : t.scenes = s.scenes := by simp [t]
    exact ⟨fun _ => ⟨scenes, s.outcome_shown item .noBank 0 canonical⟩, nofun, reread,
      (s.cueSets_outcome ..).portElse, congrArg (fun u : State => { u with scenes := s.scenes }) rest⟩
  | true =>
    let cleared : State := { s with scenes := [] }
    let t := cleared.outcome item.origin item.claim .ok 0
    have rest : { t with mem := s.mem, port := s.port } = cleared := cleared.outcome_rest ..
    have scenes : t.scenes = [] := by simp [t, cleared]
    have shown : outcomeShown s t item .ok 0 [] :=
      outcomeShown_after (s' := cleared) rfl rfl rfl rfl rfl (fun _ _ => rfl) (by decide)
        (cleared.outcome_shown item .ok 0 canonical)
    exact ⟨nofun, fun _ => ⟨scenes, shown⟩, reread, (cleared.cueSets_outcome ..).portElse,
      congrArg (fun u : State => { u with scenes := s.scenes }) rest⟩

end Sys2Proof.Machine
end

section
/-! The cues that fail a check (O26). -/

namespace Sys2Proof.Machine

/-! ### The checks by the words of a body (R106, R116, R135, R167) -/

theorem forceOfCode_isNone (n : Nat) : (forceOfCode n).isNone = decide (2 < n) :=
  match n with
  | 0 | 1 | 2 => rfl
  | n + 3 => (decide_eq_true (by omega : 2 < n + 3)).symm

theorem duckOfCode_isNone (n : Nat) : (duckOfCode n).isNone = decide (3 < n) :=
  match n with
  | 0 | 1 | 2 | 3 => rfl
  | n + 4 => (decide_eq_true (by omega : 3 < n + 4)).symm

theorem bankOfCode_isNone (n : Nat) : (bankOfCode n).isNone = decide (1 < n) :=
  match n with
  | 0 | 1 => rfl
  | n + 2 => (decide_eq_true (by omega : 1 < n + 2)).symm

theorem badForce_eq (body : List Word) : badForce body = (present body 2 && decide (2 < (bodyWord body 11).toNat)) := by
  rw [badForce, forceOfCode_isNone]

theorem badDuck_eq (body : List Word) : badDuck body = (present body 9 && decide (3 < (bodyWord body 19).toNat)) := by
  rw [badDuck, duckOfCode_isNone]

/-- The bank that a body names, by its word (section 9.5). -/
theorem namedBank_eq (body : List Word) :
    namedBank body = if bodyWord body 22 = 0 then some .bankA else if bodyWord body 22 = 1 then some .bankB else none := by
  have zero : (bodyWord body 22).toNat = 0 ↔ bodyWord body 22 = 0 := toNat_eq_code _ 0 (by decide)
  have one : (bodyWord body 22).toNat = 1 ↔ bodyWord body 22 = 1 := toNat_eq_code _ 1 (by decide)
  unfold namedBank bankOfCode
  split
  · rename_i code
    rw [if_pos (zero.1 code)]
  · rename_i code
    rw [if_neg (fun h => by rw [zero.2 h] at code; cases code), if_pos (one.1 code)]
  · rename_i notA notB
    rw [if_neg (fun h => notA (zero.2 h)), if_neg (fun h => notB (one.2 h))]

/-- A source mask of zero names no source. -/
theorem namedSources_isEmpty (mask : Word) : (namedSources mask).isEmpty = decide (mask = 0) := by
  by_cases zero : mask = 0
  · subst zero
    rw [decide_eq_true rfl]
    decide
  · rw [namedSources_nonempty zero, decide_eq_false zero]

/-- A zone mask names no zone where its first word and the low byte of its second are zero (R159). -/
theorem namedZones_isEmpty (low high : Word) :
    (namedZones low high).isEmpty = decide (low = 0 ∧ high.toNat % 256 = 0) := by
  by_cases zero : low = 0 ∧ high.toNat % 256 = 0
  · rw [decide_eq_true zero]
    obtain ⟨first, second⟩ := zero
    refine List.isEmpty_iff.2 (List.filter_eq_nil_iff.2 (fun z _ => ?_))
    unfold namesZone
    split
    · simp [first]
    · have inside : z.val - 16 < 8 := by omega
      have clear : (high.toNat % 2 ^ 8).testBit (z.val - 16) = false := by
        rw [show (2 : Nat) ^ 8 = 256 from rfl, second, Nat.zero_testBit]
      rw [Nat.testBit_mod_two_pow, decide_eq_true inside, Bool.true_and] at clear
      rw [BitVec.getLsbD, clear]
      exact Bool.false_ne_true
  · rw [decide_eq_false zero]
    exact namedZones_nonempty (by tauto)

theorem surveyZone_isNone (body : List Word) :
    (surveyZone body).isNone = (!present body 0 || decide (23 < (bodyWord body 23).toNat)) := by
  unfold surveyZone
  cases present body 0 with
  | false => rfl
  | true =>
    by_cases inside : (bodyWord body 23).toNat < 24
    · simp [inside]
      omega
    · simp [inside]
      omega

/-- A part of a SCENE_PUSH that is present and names no member (R106). -/
theorem pushTargetsFail_iff (body : List Word) :
    pushTargetsFail body = true ↔ ((∃ b, b < 7 ∧ present body b = true) ∧ bodyWord body 21 = 0)
      ∨ ((∃ b, 7 ≤ b ∧ b ≤ 10 ∧ present body b = true) ∧ bodyWord body 7 = 0 ∧ (bodyWord body 8).toNat % 256 = 0) := by
  have sources : sourcePartPresent body = true ↔ ∃ b, b < 7 ∧ present body b = true := by
    simp only [sourcePartPresent, List.any_eq_true, List.mem_range]
  have zones : zonePartPresent body = true ↔ ∃ b, 7 ≤ b ∧ b ≤ 10 ∧ present body b = true := by
    simp only [zonePartPresent, List.any_eq_true, ← and_assoc]
    refine exists_congr (fun b => and_congr_left (fun _ => ?_))
    simp only [List.mem_cons, List.not_mem_nil, or_false]
    omega
  unfold pushTargetsFail pushSourceMask
  rw [Bool.or_eq_true, Bool.and_eq_true, Bool.and_eq_true, sources, zones, namedSources_isEmpty, namedZones_isEmpty,
    decide_eq_true_iff, decide_eq_true_iff]

theorem badFieldOffset_force {body : List Word} (bad : badForce body = true) : badFieldOffset body = some 11 := if_pos bad

theorem badFieldOffset_duck {body : List Word} (force : badForce body = false) (bad : badDuck body = true) :
    badFieldOffset body = some 19 := by
  rw [badFieldOffset, force, bad]
  rfl

theorem badFieldOffset_none {body : List Word} (force : badForce body = false) (duck : badDuck body = false) :
    badFieldOffset body = none := by
  rw [badFieldOffset, force, duck]
  rfl

/-! ### A cue that fails a check (R166, R173) -/

/-- A call taken with no bank LIVE fails every check (R173). -/
theorem checkedBody_unread {item : CueItem} (unread : item.body = none)
    (checks : List Word → List (Bool × ResultCode × Nat)) : checkedBody item checks = some (.noBank, 0) := by
  rw [checkedBody, unread]

theorem checkedBody_read {item : CueItem} {body : List Word} (read : item.body = some body)
    (checks : List Word → List (Bool × ResultCode × Nat)) : checkedBody item checks = firstFault (checks body) := by
  rw [checkedBody, read]

/-- A cue command of an item, with what its checks decide. -/
inductive CueCheck (s : State) (item : CueItem) : Instr → CueFault → Prop where
  | sourceSet : CueCheck s item (.sourceSet item) (s.sourceSetFault item)
  | zoneSet : CueCheck s item (.zoneSet item) (s.zoneSetFault item)
  | scenePush : CueCheck s item (.scenePush item) (s.scenePushFault item)
  | scenePop : CueCheck s item (.scenePop item) (s.scenePopFault item)
  | sceneClear : CueCheck s item (.sceneClear item) (s.sceneClearFault item)
  | bankAdopt : CueCheck s item (.bankAdopt item) (s.bankAdoptFault item)
  | surveyStart : CueCheck s item (.surveyStart item) (s.surveyStartFault item)
  | surveyAbort : CueCheck s item (.surveyAbort item) (s.surveyAbortFault item)
  | badKind : CueCheck s item (.badKind item) (some (s.badKindFault item))

section Faults

variable {s : State} {item : CueItem} {c : Instr} {fault : CueFault}

theorem CueCheck.of_mem (member : c ∈ [Instr.sourceSet item, .zoneSet item, .scenePush item, .scenePop item,
    .sceneClear item, .bankAdopt item, .surveyStart item, .surveyAbort item, .badKind item]) :
    ∃ fault, CueCheck s item c fault := by
  simp only [List.mem_cons, List.not_mem_nil, or_false] at member
  rcases member with rfl | rfl | rfl | rfl | rfl | rfl | rfl | rfl | rfl <;> exact ⟨_, by constructor⟩

/-- A cue that a check faults has its outcome as its only effect (R166). -/
theorem CueCheck.faults (h : CueCheck s item c fault) {code : ResultCode} {detail : Nat}
    (fails : fault = some (code, detail)) : exec c s = .next (s.outcome item.origin item.claim code detail) := by
  cases h <;> simp_all [exec, execSourceSet, execZoneSet, execScenePush, execScenePop, execSceneClear, execBankAdopt,
    execSurveyStart, execSurveyAbort, execBadKind, State.applySceneClear, State.applyBankAdopt, State.applyBadKind,
    State.faulted]

/-- A call taken with no bank LIVE is FAULTED NO_BANK, whatever its kind (R173). -/
theorem CueCheck.unread (h : CueCheck s item c fault) (unread : item.body = none) : fault = some (.noBank, 0) := by
  cases h with
  | badKind => rw [State.badKindFault, checkedBody_unread unread, Option.getD_some]
  | _ => exact checkedBody_unread unread _

/-- In NO_BANK every cue but BANK_ADOPT and SURVEY_ABORT is FAULTED NO_BANK (R106, R127, R135, R167). -/
theorem CueCheck.noBank (h : CueCheck s item c fault) {body : List Word} (read : item.body = some body)
    (stopped : s.running = false) (kind : c ≠ .bankAdopt item ∧ c ≠ .surveyAbort item) :
    fault = some (.noBank, 0) := by
  have first : ∀ rest : List Word → List (Bool × ResultCode × Nat),
      checkedBody item (fun body => (!s.running, .noBank, 0) :: rest body) = some (.noBank, 0) := by
    intro rest
    rw [checkedBody_read read, stopped]
    rfl
  cases h with
  | bankAdopt => exact absurd rfl kind.1
  | surveyAbort => exact absurd rfl kind.2
  | badKind => rw [State.badKindFault, first (fun _ => []), Option.getD_some]
  | _ => exact first _

end Faults

/-! ### The first check that fails, cue by cue (R106, R108, R116, R127, R135, R167) -/

section Checks

variable {s : State} {item : CueItem} {body : List Word} (read : item.body = some body)

include read

section Running

variable (running : s.running = true)

include running

/-- The checks of a cue of a RUNNING engine, after that of NO_BANK. -/
theorem checkedBody_running (rest : List Word → List (Bool × ResultCode × Nat)) :
    checkedBody item (fun body => (!s.running, .noBank, 0) :: rest body) = firstFault (rest body) := by
  rw [checkedBody_read read, running]
  rfl

theorem State.sourceSetFault_field (marked : present body 2 = true) (illegal : 2 < (bodyWord body 11).toNat) :
    s.sourceSetFault item = some (.badField, 11) := by
  rw [State.sourceSetFault, checkedBody_running read running]
  simp [firstFault, badForce_eq, marked, illegal]

theorem State.sourceSetFault_target (legal : present body 2 = true → (bodyWord body 11).toNat ≤ 2)
    (unnamed : bodyWord body 7 = 0) : s.sourceSetFault item = some (.badTarget, 0) := by
  rw [State.sourceSetFault, checkedBody_running read running]
  simp [firstFault, badForce_eq_false legal, namedSources_isEmpty, unnamed]

theorem State.zoneSetFault_field (marked : present body 9 = true) (illegal : 3 < (bodyWord body 19).toNat) :
    s.zoneSetFault item = some (.badField, 19) := by
  rw [State.zoneSetFault, checkedBody_running read running]
  simp [firstFault, badDuck_eq, marked, illegal]

theorem State.zoneSetFault_target (legal : present body 9 = true → (bodyWord body 19).toNat ≤ 3)
    (low : bodyWord body 7 = 0) (high : (bodyWord body 8).toNat % 256 = 0) :
    s.zoneSetFault item = some (.badTarget, 0) := by
  rw [State.zoneSetFault, checkedBody_running read running]
  simp [firstFault, badDuck_eq_false legal, namedZones_isEmpty, low, high]

theorem State.scenePushFault_force (marked : present body 2 = true) (illegal : 2 < (bodyWord body 11).toNat) :
    s.scenePushFault item = some (.badField, 11) := by
  have bad : badForce body = true := by simp [badForce_eq, marked, illegal]
  rw [State.scenePushFault, checkedBody_running read running, badFieldOffset_force bad]
  rfl

theorem State.scenePushFault_duck (legal : present body 2 = true → (bodyWord body 11).toNat ≤ 2)
    (marked : present body 9 = true) (illegal : 3 < (bodyWord body 19).toNat) :
    s.scenePushFault item = some (.badField, 19) := by
  have bad : badDuck body = true := by simp [badDuck_eq, marked, illegal]
  rw [State.scenePushFault, checkedBody_running read running, badFieldOffset_duck (badForce_eq_false legal) bad]
  rfl

/-- With both enumerations legal a SCENE_PUSH is checked for its members, then for room (R106). -/
theorem State.scenePushFault_legal (legal : present body 2 = true → (bodyWord body 11).toNat ≤ 2)
    (legalDuck : present body 9 = true → (bodyWord body 19).toNat ≤ 3) :
    s.scenePushFault item = firstFault [(pushTargetsFail body, .badTarget, 0),
      (decide (Config.sceneCapacity ≤ s.scenes.length), .stackFull, 0)] := by
  rw [State.scenePushFault, checkedBody_running read running,
    badFieldOffset_none (badForce_eq_false legal) (badDuck_eq_false legalDuck)]
  rfl

theorem State.scenePushFault_target (legal : present body 2 = true → (bodyWord body 11).toNat ≤ 2)
    (legalDuck : present body 9 = true → (bodyWord body 19).toNat ≤ 3) (missed : pushTargetsFail body = true) :
    s.scenePushFault item = some (.badTarget, 0) := by
  rw [State.scenePushFault_legal read running legal legalDuck, missed]
  rfl

theorem State.scenePushFault_full (legal : present body 2 = true → (bodyWord body 11).toNat ≤ 2)
    (legalDuck : present body 9 = true → (bodyWord body 19).toNat ≤ 3) (named : pushTargetsFail body = false)
    (full : 4 ≤ s.scenes.length) : s.scenePushFault item = some (.stackFull, 0) := by
  rw [State.scenePushFault_legal read running legal legalDuck, named,
    decide_eq_true (p := Config.sceneCapacity ≤ s.scenes.length) full]
  rfl

theorem State.scenePopFault_empty (empty : s.scenes = []) : s.scenePopFault item = some (.stackEmpty, 0) := by
  rw [State.scenePopFault, checkedBody_running read running, empty]
  rfl

theorem State.surveyStartFault_target (missed : present body 0 = false ∨ 23 < (bodyWord body 23).toNat) :
    s.surveyStartFault item = some (.badTarget, 0) := by
  have unnamed : (surveyZone body).isNone = true := by
    rw [surveyZone_isNone]
    rcases missed with unmarked | beyond
    · rw [unmarked]
      rfl
    · rw [decide_eq_true beyond, Bool.or_true]
  rw [State.surveyStartFault, checkedBody_running read running]
  simp [firstFault, unnamed]

theorem State.surveyStartFault_busy (marked : present body 0 = true) (inside : (bodyWord body 23).toNat ≤ 23)
    (busy : s.surveying = true ∨ s.adoption ≠ none ∨ s.marks.adoptionEnded = true) :
    s.surveyStartFault item = some (.busy, 0) := by
  have named : (surveyZone body).isNone = false := by
    rw [surveyZone_isNone, marked, decide_eq_false (by omega)]
    rfl
  have either : s.surveying = true ∨ s.adoptionBusy = true := by
    simpa [State.adoptionBusy, Option.isSome_iff_ne_none] using busy
  rw [State.surveyStartFault, checkedBody_running read running]
  rcases either with surveying | adopting
  · simp [firstFault, named, surveying]
  · simp [firstFault, named, adopting]

theorem State.badKindFault_kind : s.badKindFault item = (.badKind, (bodyWord body 1).toNat) := by
  rw [State.badKindFault, checkedBody_running read running (fun _ => []), cueBody, read]
  rfl

end Running

theorem State.bankAdoptFault_field (marked : present body 0 = true) (illegal : 1 < (bodyWord body 22).toNat) :
    s.bankAdoptFault item = some (.badField, 22) := by
  have unnamed : (namedBank body).isNone = true := (bankOfCode_isNone _).trans (decide_eq_true illegal)
  rw [State.bankAdoptFault, checkedBody_read read]
  simp [firstFault, marked, unnamed]

theorem State.bankAdoptFault_unmarked (unmarked : present body 0 = false) :
    s.bankAdoptFault item = some (.badTarget, 0) := by
  rw [State.bankAdoptFault, checkedBody_read read]
  simp [firstFault, unmarked]

theorem State.bankAdoptFault_live {bank : BankId} (marked : present body 0 = true) (named : namedBank body = some bank)
    (live : s.liveBank = some bank) : s.bankAdoptFault item = some (.badTarget, 0) := by
  rw [State.bankAdoptFault, checkedBody_read read]
  simp [firstFault, marked, named, live]

theorem State.bankAdoptFault_busy {bank : BankId} (marked : present body 0 = true) (named : namedBank body = some bank)
    (edit : s.liveBank ≠ some bank)
    (busy : s.adoption ≠ none ∨ (s.marks.adoptionEnded = true ∧ s.marks.resetHere = false) ∨ s.surveying = true) :
    s.bankAdoptFault item = some (.busy, 0) := by
  have apart : (some bank == s.liveBank) = false := beq_eq_false_iff_ne.2 edit.symm
  have either : s.adoptBusy = true ∨ s.surveying = true := by
    simpa [State.adoptBusy, Option.isSome_iff_ne_none, or_assoc] using busy
  rw [State.bankAdoptFault, checkedBody_read read]
  rcases either with adopting | surveying
  · simp [firstFault, marked, named, apart, adopting]
  · simp [firstFault, marked, named, apart, surveying]

theorem State.surveyAbortFault_idle (idle : s.surveying = false) : s.surveyAbortFault item = some (.notRunning, 0) := by
  rw [State.surveyAbortFault, checkedBody_read read, idle]
  rfl

end Checks

/-- Settles O26: each cue's first failing check, and the outcome as its only effect. -/
theorem cueChecksFault : Obligations.CueChecksFault := by
  intro s item faults
  refine ⟨namedBank_eq, fun unread c hc => ?_, fun body read => ⟨fun stopped c hc => ?_, fun running => ?_,
    fun marked illegal => ?_, fun unmarked => ?_, fun bank marked named live => ?_, fun bank marked named edit busy => ?_,
    fun idle => ?_⟩⟩
  · obtain ⟨fault, check⟩ := CueCheck.of_mem (s := s) hc
    exact check.faults (check.unread unread)
  · obtain ⟨fault, check⟩ := CueCheck.of_mem (s := s) (item := item) (c := c) (by
      simp only [List.mem_cons] at hc ⊢
      tauto)
    refine check.faults (check.noBank read stopped ⟨?_, ?_⟩) <;> rintro rfl <;> simp at hc
  · refine ⟨fun marked illegal => ⟨?_, ?_⟩, fun legal unnamed => ?_, fun marked illegal => ⟨?_, fun legal => ?_⟩,
      fun legal low high => ?_, fun legal legalDuck => ⟨fun missed => ?_, fun sources zones full => ?_⟩, fun empty => ?_,
      fun missed => ?_, fun marked inside busy => ?_, ?_⟩
    · exact CueCheck.sourceSet.faults (State.sourceSetFault_field read running marked illegal)
    · exact CueCheck.scenePush.faults (State.scenePushFault_force read running marked illegal)
    · exact CueCheck.sourceSet.faults (State.sourceSetFault_target read running legal unnamed)
    · exact CueCheck.zoneSet.faults (State.zoneSetFault_field read running marked illegal)
    · exact CueCheck.scenePush.faults (State.scenePushFault_duck read running legal marked illegal)
    · exact CueCheck.zoneSet.faults (State.zoneSetFault_target read running legal low high)
    · exact CueCheck.scenePush.faults (State.scenePushFault_target read running legal legalDuck
        ((pushTargetsFail_iff body).2 missed))
    · have named : pushTargetsFail body = false :=
        Bool.eq_false_iff.2 (fun fails => ((pushTargetsFail_iff body).1 fails).elim sources zones)
      exact CueCheck.scenePush.faults (State.scenePushFault_full read running legal legalDuck named full)
    · exact CueCheck.scenePop.faults (State.scenePopFault_empty read running empty)
    · exact CueCheck.surveyStart.faults (State.surveyStartFault_target read running missed)
    · exact CueCheck.surveyStart.faults (State.surveyStartFault_busy read running marked inside busy)
    · exact CueCheck.badKind.faults (congrArg some (State.badKindFault_kind read running))
  · exact CueCheck.bankAdopt.faults (State.bankAdoptFault_field read marked illegal)
  · exact CueCheck.bankAdopt.faults (State.bankAdoptFault_unmarked read unmarked)
  · exact CueCheck.bankAdopt.faults (State.bankAdoptFault_live read marked named live)
  · exact CueCheck.bankAdopt.faults (State.bankAdoptFault_busy read marked named edit busy)
  · exact CueCheck.surveyAbort.faults (State.surveyAbortFault_idle read idle)

end Sys2Proof.Machine
end

section
/-! The cues of a block start, each as its own command applies it (O25). -/

namespace Sys2Proof.Machine

/-! ### What a command sent alone brings with its cue (log 12) -/

theorem Source.followForce_rest (x : Source) (before : ForceMode) :
    ∃ gate count, x.followForce before = { x with gate := gate, holdCount := count } := by
  unfold Source.followForce
  split <;> exact ⟨_, _, rfl⟩

/-- `v` is `u` with what a settling can bring: gates, hold counters, NOM, the lists, the compositions and ROUTE_FULL. -/
structure BringsWith (u v : State) : Prop where
  settles : u.settlesTo v
  sources : ∀ i, ∃ gate count, v.source i = { u.source i with gate := gate, holdCount := count }
  notices : noticesElse u v [.routeFull]
  stands : ∀ e ∈ u.routes, ∃ e' ∈ v.routes, entryStands e e'

theorem BringsWith.refl (u : State) : BringsWith u u where
  settles := ⟨_, _, _, _, _, _, _, _, rfl⟩
  sources _ := ⟨_, _, rfl⟩
  notices _ _ := rfl
  stands e he := ⟨e, he, entryStands_refl e⟩

theorem State.bringsWith_settle (u : State) : BringsWith u u.settle where
  settles := u.settlesTo_settle
  sources i := by
    rw [State.source_congr u.settle_sources]
    unfold State.releaseLast
    split
    · rw [State.source_mapSources]
      split <;> exact ⟨_, _, rfl⟩
    · exact ⟨_, _, rfl⟩
  notices n away := u.settle_noticed n (by simpa using away)
  stands := u.settle_stands

theorem State.bringsWith_followSettle (u : State) (before : Fin 16 → ForceMode) :
    BringsWith u (u.followForces before).settle := by
  have settled := (u.followForces before).bringsWith_settle
  refine ⟨State.settlesTo_trans ⟨_, _, _, _, _, _, _, _, rfl⟩ settled.settles, fun i => ?_, settled.notices,
    settled.stands⟩
  obtain ⟨gate, count, source⟩ := settled.sources i
  obtain ⟨_, _, followed⟩ := (u.source i).followForce_rest (before i)
  rw [source, State.source_followForces, followed]
  exact ⟨_, _, rfl⟩

/-- The command of a taken item applies it as a block start does, and brings a settling with it (R166; log 12). -/
theorem State.exec_cueCommand (s : State) (item : CueItem) :
    ∃ v, exec (cueCommand item) s = .next v ∧ BringsWith (s.applyItem item) v := by
  have bad : ∃ v, exec (.badKind item) s = .next v ∧ BringsWith (s.applyBadKind item) v := ⟨_, rfl, .refl _⟩
  unfold cueCommand State.applyItem kindOf cueBody bodyWord
  cases item.body with
  | none => exact bad
  | some body =>
  simp only [Option.getD_some]
  generalize (body.getD 1 0).toNat = kind
  match kind with
  | 1 =>
    show ∃ v, execSourceSet item s = _ ∧ BringsWith (s.applySourceSet item) v
    unfold execSourceSet State.applySourceSet
    cases s.sourceSetFault item with
    | some f => exact ⟨_, rfl, .refl _⟩
    | none => exact ⟨_, rfl, State.bringsWith_followSettle ..⟩
  | 2 =>
    show ∃ v, execZoneSet item s = _ ∧ BringsWith (s.applyZoneSet item) v
    unfold execZoneSet State.applyZoneSet
    cases s.zoneSetFault item with
    | some f => exact ⟨_, rfl, .refl _⟩
    | none => exact ⟨_, rfl, State.bringsWith_settle ..⟩
  | 3 =>
    show ∃ v, execScenePush item s = _ ∧ BringsWith (s.applyScenePush item) v
    unfold execScenePush State.applyScenePush
    cases s.scenePushFault item with
    | some f => exact ⟨_, rfl, .refl _⟩
    | none => exact ⟨_, rfl, State.bringsWith_followSettle ..⟩
  | 4 =>
    show ∃ v, execScenePop item s = _ ∧ BringsWith (s.applyScenePop item) v
    unfold execScenePop State.applyScenePop
    cases s.scenePopFault item with
    | some f => exact ⟨_, rfl, .refl _⟩
    | none => exact ⟨_, rfl, State.bringsWith_followSettle ..⟩
  | 5 | 6 => exact ⟨_, rfl, .refl _⟩
  | 7 =>
    show ∃ v, execSurveyStart item s = _ ∧ BringsWith (s.applySurveyStart item) v
    unfold execSurveyStart State.applySurveyStart
    cases s.surveyStartFault item with
    | some f => exact ⟨_, rfl, .refl _⟩
    | none => exact ⟨_, rfl, State.bringsWith_settle ..⟩
  | 8 =>
    show ∃ v, execSurveyAbort item s = _ ∧ BringsWith (s.applySurveyAbort item) v
    unfold execSurveyAbort State.applySurveyAbort
    cases s.surveyAbortFault item with
    | some f => exact ⟨_, rfl, .refl _⟩
    | none => exact ⟨_, rfl, State.bringsWith_settle ..⟩
  | 0 | _ + 9 => exact bad

/-! ### What a cue leaves of the list, and the rebuild that it asks for (R42, R51) -/

/-- From `s` to `t` a source has moved or a survey has ended, either of which asks for a rebuild. -/
def State.asksRebuild (s t : State) : Prop :=
  (∃ i, (t.source i).pos ≠ (s.source i).pos) ∨ (s.surveying = true ∧ t.surveying = false)

/-- `t` has the pairs, the lifecycles and ROUTE_FULL of `s`, and a request for a rebuild where one is asked for. -/
structure CueLeaves (s t : State) : Prop where
  listed : t.listed = s.listed
  full : t.noticed .routeFull = s.noticed .routeFull
  asked : s.asksRebuild t → t.rebuild = askedRebuild true s.rebuild
  unasked : ¬s.asksRebuild t → t.rebuild = s.rebuild

section Leaves

variable {s t : State}

/-- A cue that moves no source and ends no survey asks for nothing. -/
theorem CueLeaves.of_still (listed : t.listed = s.listed) (full : t.noticed .routeFull = s.noticed .routeFull)
    (pos : ∀ i, (t.source i).pos = (s.source i).pos) (survey : t.surveying = false → s.surveying = false)
    (rebuild : t.rebuild = s.rebuild) : CueLeaves s t where
  listed := listed
  full := full
  asked asks := by
    rcases asks with ⟨i, moved⟩ | ⟨ran, ended⟩
    · exact absurd (pos i) moved
    · rw [survey ended] at ran
      cases ran
  unasked _ := rebuild

theorem CueLeaves.refl (s : State) : CueLeaves s s := .of_still rfl rfl (fun _ => rfl) id rfl

/-- A cue that takes the source part of a body asks where a source moves (R42). -/
theorem CueLeaves.of_takes {body : List Word} {mask : Word} (takes : TakesSources s t body mask)
    (port : t.port = s.port) (survey : t.survey = s.survey) : CueLeaves s t := by
  have moves : allSources.any (s.moves body mask) = true ↔ s.asksRebuild t := by
    have surveying : t.surveying = s.surveying := by rw [State.surveying, survey, State.surveying]
    rw [askedRebuild_moves]
    simp [State.asksRebuild, allSources, takes.sources, surveying]
  refine ⟨State.listed_of_takesSources takes, State.noticed_congr port _, fun asks => ?_, fun still => ?_⟩
  · rw [takes.request, moves.2 asks]
  · rw [takes.request, Bool.eq_false_iff.2 (fun moved => still (moves.1 moved))]
    rfl

/-- A cue's outcome changes none of it. -/
theorem CueLeaves.outcome (h : CueLeaves s t) (o : Origin) (claim : Bool) (code : ResultCode) (detail : Nat) :
    CueLeaves s (t.outcome o claim code detail) := by
  have asks : s.asksRebuild (t.outcome o claim code detail) ↔ s.asksRebuild t := by
    have source : ∀ i, (t.outcome o claim code detail).source i = t.source i := State.source_congr (by simp)
    simp [State.asksRebuild, source, State.surveying]
  refine ⟨?_, (t.outcome_noticed o claim code detail _ (by decide) (by decide)).trans h.full, fun asked => ?_,
    fun still => ?_⟩
  · simpa [State.listed] using h.listed
  · simpa using h.asked (asks.1 asked)
  · simpa using h.unasked (fun asked => still (asks.2 asked))

theorem CueLeaves.doneClamped (h : CueLeaves s t) (item : CueItem) (clamps : Nat) :
    CueLeaves s (t.doneClamped item clamps) := by
  rw [State.doneClamped_eq]
  exact h.outcome ..

end Leaves

theorem State.cueLeaves_setZones (s : State) (body : List Word) (low high : Word) :
    CueLeaves s (s.setZones body low high) :=
  .of_still rfl rfl (fun _ => rfl) id rfl

theorem State.cueLeaves_scenePop (s : State) (item : CueItem) : CueLeaves s (s.carryScenePop item) := by
  unfold State.carryScenePop
  split
  · exact .refl s
  · rename_i scene rest _
    have popped : CueLeaves s (s.popped scene rest) :=
      .of_still rfl rfl (fun i => by rw [s.source_popped]) id rfl
    exact popped.outcome ..

theorem State.cueLeaves_bankAdopt (s : State) (item : CueItem) : CueLeaves s (s.carryBankAdopt item) := by
  unfold State.carryBankAdopt
  split
  · exact .of_still rfl rfl (fun _ => rfl) id rfl
  · exact .refl s

theorem State.cueLeaves_surveyStart (s : State) (item : CueItem) (idle : s.surveying = false) :
    CueLeaves s (s.carrySurveyStart item) := by
  unfold State.carrySurveyStart
  split
  · refine .of_still ?_ (State.noticed_congr (by simp) _) (fun i => ?_) (fun _ => idle) (by simp)
    · unfold State.beginSurvey
      refine (State.compose_listed _).trans ?_
      simp [State.listed]
    · rw [State.source_congr (s := s) (by simp)]
  · exact .refl s

/-- An abort ends the survey in progress, which asks for a rebuild (R51, R127). -/
theorem State.cueLeaves_surveyAbort (s : State) (item : CueItem) (running : s.surveying = true) :
    CueLeaves s (s.carrySurveyAbort item) := by
  obtain ⟨routes, _, _, _, _, _, _, _, _, rebuild⟩ := s.carrySurveyAbort_members item
  have ended : (s.carrySurveyAbort item).surveying = false := by
    simp [State.surveying, State.carrySurveyAbort, State.abandonSurvey, Survey.discarded]
  have full : s.surveyAborted.noticed .routeFull = s.noticed .routeFull := by
    refine (State.raise_noticed _ .survey .routeFull).trans ?_
    rw [State.outcome_noticed _ _ _ _ _ _ (by decide) (by decide)]
    exact State.noticed_congr (s := s) (by simp) _
  refine ⟨?_, ?_, fun _ => rebuild, fun still => absurd (Or.inr ⟨running, ended⟩) still⟩
  · rw [State.listed, routes, State.listed]
  · rw [s.carrySurveyAbort_eq, State.outcome_noticed _ _ _ _ _ _ (by decide) (by decide), full]

/-- What the cues of a block start leave of the list, and the rebuild that each asks for. -/
theorem State.cueLeaves_applyItem (s : State) (item : CueItem) : CueLeaves s (s.applyItem item) := by
  have faulted : ∀ f, CueLeaves s (s.faulted item f) := fun f => (CueLeaves.refl s).outcome ..
  unfold State.applyItem
  split
  · unfold State.applySourceSet
    split
    · exact faulted _
    · exact (CueLeaves.of_takes (s.takesSources_setSources _ _) (by simp) (by simp)).doneClamped _ _
  · unfold State.applyZoneSet
    split
    · exact faulted _
    · exact (s.cueLeaves_setZones ..).doneClamped _ _
  · unfold State.applyScenePush
    split
    · exact faulted _
    · exact (CueLeaves.of_takes (s.takesSources_pushScene _) (by simp) (by simp)).doneClamped _ _
  · unfold State.applyScenePop
    split
    · exact faulted _
    · exact s.cueLeaves_scenePop item
  · unfold State.applySceneClear
    split
    · exact faulted _
    · exact (CueLeaves.of_still (s := s) (t := { s with scenes := [] }) rfl rfl (fun _ => rfl) id rfl).outcome ..
  · unfold State.applyBankAdopt
    split
    · exact faulted _
    · exact s.cueLeaves_bankAdopt item
  · unfold State.applySurveyStart
    split
    · exact faulted _
    · rename_i passed
      exact s.cueLeaves_surveyStart item (State.free_of_surveyStart passed).2.1
  · unfold State.applySurveyAbort
    split
    · exact faulted _
    · rename_i passed
      exact s.cueLeaves_surveyAbort item (State.surveying_of_surveyAbort passed)
  · exact faulted _

/-! ### The items of a take list (R166) -/

/-- A block start applies an item as the item's own command does, without the settling (R166; log 12). -/
theorem State.cueApplied_applyItem (u : State) (item : CueItem) : cueApplied item u (u.applyItem item) := by
  obtain ⟨v, ran, brings⟩ := u.exec_cueCommand item
  have leaves := u.cueLeaves_applyItem item
  have settled := brings.settles
  refine ⟨v, ran, fun i => ?_, ?_, fun n away => (brings.notices n away).symm, leaves.full, leaves.listed, brings.stands,
    ⟨leaves.asked, leaves.unasked⟩, ?_⟩
  · obtain ⟨_, _, set⟩ := u.applyItem_sameBeyondMix item i
    obtain ⟨_, _, source⟩ := brings.sources i
    rw [source, set]
  · obtain ⟨_, _, _, _, _, _, _, _, same⟩ := settled
    rw [same]
  · obtain ⟨_, _, _, _, _, _, _, _, same⟩ := settled
    obtain ⟨_, _, _, _, nom, _, _, _, unserved, admitted, _, _, _, hold, _⟩ := u.applyItem_frame item
    rw [same, ← nom, ← unserved, ← admitted, ← hold]

theorem State.cuesApplied_foldl (items : List CueItem) :
    ∀ u : State, cuesApplied items u (items.foldl State.applyItem u) := by
  induction items with
  | nil => exact fun _ => rfl
  | cons item rest ih => exact fun u => ⟨_, u.cueApplied_applyItem item, ih _⟩

end Sys2Proof.Machine
end

section
/-! What the first cue of a block start finds (O25). -/

namespace Sys2Proof.Machine

/-! ### The bank's outcome of a block start (R137, R139, R140, R144) -/

/-- An adoption that a BLOCK_START rejects: its ended block has found an illegal field, and no engine reset is taken first
(R139, R144). -/
def State.rejectsAt (s : State) (r : BlockRaces) : Bool :=
  match s.adoption with
  | none => false
  | some a => (a.examined s.mem).illegal.isSome && (!s.port.resetRequest || r.bankBeforeReset)

/-- The bank's outcome that is due, before any reload of the mix. -/
def State.banked (s : State) : State := if s.switchDue then s.installDue else s.bankReject

/-- What a bank's outcome leaves of the live bank, the adoption and the marks. -/
theorem State.banked_members (s : State) :
    s.banked.liveBank = (if s.switchDue then s.adoption.map (·.bank) else s.liveBank)
    ∧ s.banked.adoption = (if s.switchDue || s.rejectDue then none else s.adoption)
    ∧ s.banked.marks = { s.marks with adoptionEnded := s.marks.adoptionEnded || (s.switchDue || s.rejectDue) } := by
  unfold State.banked
  cases adopting : s.adoption with
  | none =>
    have undue : s.switchDue = false := by simp [State.switchDue, adopting]
    have sound : s.rejectDue = false := by simp [State.rejectDue, adopting]
    have same : s.bankReject = s := by simp [State.bankReject, adopting]
    rw [undue, sound, same]
    simp [adopting]
  | some a =>
    cases due : s.switchDue with
    | true =>
      obtain ⟨live, free, marks, _⟩ := s.installBank_members a
      have installed : s.installDue = s.installBank a := by simp [State.installDue, adopting, due]
      simp [installed, live, free, marks, State.liveBank]
    | false =>
      cases illegal : a.illegal with
      | none => simp [State.bankReject, State.rejectDue, adopting, illegal]
      | some found =>
        obtain ⟨reason, addr⟩ := found
        simp [State.bankReject, State.rejectDue, State.rejectBank, State.liveBank, adopting, illegal]

/-- With no outcome due the bank unit leaves the part as it is. -/
theorem State.banked_undue {s : State} (undue : s.switchDue = false) (sound : s.rejectDue = false) : s.banked = s := by
  unfold State.banked State.bankReject
  rw [undue]
  cases adopting : s.adoption with
  | none => rfl
  | some a =>
    have none : a.illegal = none := by simpa [State.rejectDue, adopting] using sound
    simp [none]

theorem State.bankOutcome_members (s : State) :
    s.bankOutcome.liveBank = s.banked.liveBank ∧ s.bankOutcome.adoption = s.banked.adoption
    ∧ s.bankOutcome.marks = s.banked.marks := by
  unfold State.bankOutcome State.banked
  split <;> simp [State.liveBank]

theorem State.evaluating_eq (s : State) (r : BlockRaces) : s.evaluating r = (s.ended.advanced r).banked := rfl

theorem State.ended_rejectDue (s : State) (runs : s.adoptionRuns) :
    s.ended.rejectDue = s.adoption.any (fun a => (a.examined s.mem).illegal.isSome) := by
  unfold State.rejectDue
  rw [s.ended_adoption runs]
  cases s.adoption <;> simp

theorem State.switchesAt_eq (s : State) (r : BlockRaces) (runs : s.adoptionRuns) :
    s.switchesAt r = (s.ended.switchDue && (!s.port.resetRequest || r.bankBeforeReset)) := by
  unfold State.switchesAt
  rw [s.ended_switchDue runs]
  cases s.adoption <;> simp

theorem State.rejectsAt_eq (s : State) (r : BlockRaces) (runs : s.adoptionRuns) :
    s.rejectsAt r = (s.ended.rejectDue && (!s.port.resetRequest || r.bankBeforeReset)) := by
  unfold State.rejectsAt
  rw [s.ended_rejectDue runs]
  cases s.adoption <;> simp

/-- A switch-over or rejection is due at the boundary as it was when the block ended. -/
theorem State.advanced_due (s : State) (r : BlockRaces) :
    (s.advanced r).switchDue = s.switchDue ∧ (s.advanced r).rejectDue = s.rejectDue ∧ (s.advanced r).marks = s.marks
    ∧ (s.advanced r).liveBank = s.liveBank := by
  obtain ⟨_, _, _, _, live, adoption, _⟩ := s.advanced_members r
  refine ⟨by rw [State.switchDue, adoption, State.switchDue], by rw [State.rejectDue, adoption, State.rejectDue], ?_,
    by rw [State.liveBank, live, State.liveBank]⟩
  unfold State.advanced
  split <;> simp

/-- The marks of the ended block: the probe that it heard, if it was one of PROBE (R121, R127). -/
theorem State.ended_marks (s : State) :
    s.ended.marks = { Marks.clear with probedZone := if s.survey.phase.probing then some s.survey.zone else none } := by
  have survey : s.finishSweep.measureLevels.endZones.survey = s.survey := by
    simp [State.finishSweep, State.measureLevels]
  have marks : s.ended.marks
      = { Marks.clear with probedZone := s.finishSweep.measureLevels.endZones.probedZone } := by
    simp [State.ended, State.nextBlock, State.endBlock, State.validate]
  rw [marks, State.probedZone, survey]

/-- What the boundary leaves of the live bank, the adoption and the marks (R139, R140, R144). -/
theorem State.boundary_banked (s : State) (r : BlockRaces) (runs : s.adoptionRuns) :
    (s.boundary r).liveBank = (if s.switchesAt r then s.adoption.map (·.bank) else s.liveBank)
    ∧ (s.boundary r).adoption
      = (if s.port.resetRequest || s.switchesAt r || s.rejectsAt r then none else s.ended.adoption)
    ∧ (s.boundary r).marks = { adoptionEnded := s.switchesAt r || s.rejectsAt r, resetHere := s.port.resetRequest,
                               probedZone := if s.survey.phase.probing then some s.survey.zone else none,
                               surveyBegan := false } := by
  have before : s.ended.liveBank = s.liveBank := by rw [State.liveBank, s.ended_live, State.liveBank]
  have bank : s.ended.adoption.map (·.bank) = s.adoption.map (·.bank) := by
    rw [s.ended_adoption runs, Option.map_map]
    refine Option.map_congr (fun a _ => ?_)
    obtain ⟨bank, _⟩ := a.examined_cue s.mem
    simp [bank]
  have switches := s.switchesAt_eq r runs
  have rejects := s.rejectsAt_eq r runs
  cases asked : s.port.resetRequest with
  | true =>
    have found : (s.resetFrom r).liveBank = (if s.switchesAt r then s.adoption.map (·.bank) else s.liveBank)
        ∧ (s.resetFrom r).marks = { s.ended.marks with adoptionEnded := s.switchesAt r || s.rejectsAt r } := by
      let u := if r.bankBeforeReset then s.ended.bankOutcome else s.ended
      have same : (s.resetFrom r).liveBank = u.liveBank ∧ (s.resetFrom r).marks = u.marks := by
        unfold State.resetFrom
        split
        · exact ⟨by simp [u, State.liveBank], by simp [u]⟩
        · exact ⟨rfl, rfl⟩
      obtain ⟨live, _, marks⟩ := s.ended.banked_members
      obtain ⟨sameLive, _, sameMarks⟩ := s.ended.bankOutcome_members
      rw [same.1, same.2, switches, rejects, asked]
      cases first : r.bankBeforeReset with
      | false => simp [u, first, before, s.ended_marks, Marks.clear]
      | true => simp [u, first, sameLive, live, before, bank, sameMarks, marks, s.ended_marks, Marks.clear]
    obtain ⟨live, _, _, _, _, _, _, adoption, marks, _⟩ := (s.resetFrom r).carryReset_members
    rw [s.boundary_of_reset r asked]
    refine ⟨?_, ?_, ?_⟩
    · rw [← found.1, State.liveBank, live, State.liveBank]
    · rw [adoption, (s.resetFrom r).resetting_idle.2]
      rfl
    · rw [marks, found.2, s.ended_marks]
      rfl
  | false =>
    rw [asked, Bool.not_false, Bool.true_or, Bool.and_true] at switches rejects
    obtain ⟨_, _, _, _, _, advanced, _⟩ := s.ended.advanced_members r
    obtain ⟨due, rejectDue, sameMarks, sameLive⟩ := s.ended.advanced_due r
    obtain ⟨live, adoption, marks⟩ := (s.ended.advanced r).banked_members
    rw [due, advanced, bank, sameLive, before, ← switches] at live
    rw [due, rejectDue, advanced, ← switches, ← rejects] at adoption
    rw [due, rejectDue, sameMarks, s.ended_marks, ← switches, ← rejects] at marks
    have same : (s.boundary r).live = (s.evaluating r).live ∧ (s.boundary r).adoption = (s.evaluating r).adoption
        ∧ (s.boundary r).marks = (s.evaluating r).marks := by
      rw [s.boundary_evaluated r asked]
      split <;> simp
    refine ⟨?_, ?_, ?_⟩
    · rw [← live, ← s.evaluating_eq, State.liveBank, same.1, State.liveBank]
    · rw [same.2.1, s.evaluating_eq, adoption]
      rfl
    · rw [same.2.2, s.evaluating_eq, marks]
      rfl

end Sys2Proof.Machine
end

section
/-! The mix, the stack and the survey that the first cue of a block start finds (O25). -/

namespace Sys2Proof.Machine

/-! ### The mix (R112, R141, R156) -/

/-- The row of a source that a block start's first cue finds: reloaded by a reset or switch-over, or as it stood. -/
def State.foundRow (s : State) (r : BlockRaces) (i : Fin 16) : SourceRow :=
  if s.port.resetRequest || s.switchesAt r then resetRow (s.copyInForce r) i
  else { mix := (s.source i).mix, pos := (s.source i).pos }

/-- The mix of a zone that a block start's first cue finds. -/
def State.foundZoneMix (s : State) (r : BlockRaces) (z : Fin 24) : ZoneMix :=
  if s.port.resetRequest || s.switchesAt r then resetZoneMix (s.copyInForce r) z else (s.zone z).mix

theorem State.copyInForce_of_switches {s : State} {r : BlockRaces} (switches : s.switchesAt r = true) :
    ∃ b, s.copyInForce r = some b := by
  unfold State.copyInForce
  cases adopting : s.adoption with
  | none => simp [State.switchesAt, adopting] at switches
  | some a => exact ⟨_, if_pos switches⟩

/-- A boundary that reloads nothing: the evaluation alone follows the bank's outcome. -/
theorem State.boundary_of_stays {s : State} {r : BlockRaces} (plain : s.port.resetRequest = false)
    (runs : s.adoptionRuns) (stays : s.switchesAt r = false) : s.boundary r = (s.evaluating r).evaluateGates := by
  rw [s.boundary_evaluated r plain, s.switchDue_advanced r plain runs, stays]
  rfl

theorem State.boundary_row (s : State) (r : BlockRaces) (runs : s.adoptionRuns) (i : Fin 16) :
    ((s.boundary r).source i).mix = (s.foundRow r i).mix ∧ ((s.boundary r).source i).pos = (s.foundRow r i).pos := by
  unfold State.foundRow
  cases asked : s.port.resetRequest with
  | true =>
    rw [s.boundary_of_reset r asked, State.carryReset_source, s.resetFrom_adopted r asked runs]
    exact ⟨rfl, rfl⟩
  | false =>
    cases switches : s.switchesAt r with
    | true =>
      obtain ⟨b, copy⟩ := State.copyInForce_of_switches switches
      obtain ⟨mix, pos⟩ := s.boundary_mix r b runs copy i
      rw [mix, pos, asked, switches, copy]
      exact ⟨rfl, rfl⟩
    | false =>
      obtain ⟨_, found⟩ := s.evaluating_source r i
      obtain ⟨_, _, evaluated⟩ := (s.evaluating r).evaluateGates_rest i
      rw [State.boundary_of_stays asked runs switches, evaluated, found]
      exact ⟨rfl, rfl⟩

theorem State.boundary_foundZoneMix (s : State) (r : BlockRaces) (runs : s.adoptionRuns) (z : Fin 24) :
    ((s.boundary r).zone z).mix = s.foundZoneMix r z := by
  unfold State.foundZoneMix
  cases asked : s.port.resetRequest with
  | true =>
    rw [s.boundary_of_reset r asked, State.carryReset_zone, s.resetFrom_adopted r asked runs]
    rfl
  | false =>
    cases switches : s.switchesAt r with
    | true =>
      obtain ⟨b, copy⟩ := State.copyInForce_of_switches switches
      rw [s.boundary_zoneMix r b runs copy, asked, switches, copy]
      rfl
    | false =>
      rw [State.boundary_of_stays asked runs switches,
        State.zone_congr (s := s.ended) (by simp [s.evaluating_zones]), s.ended_zone_mix]
      rfl

/-! ### The stack (R111, R156) -/

theorem State.boundary_scenes (s : State) (r : BlockRaces) :
    (s.boundary r).scenes = if s.port.resetRequest then [] else s.scenes := by
  cases asked : s.port.resetRequest with
  | true =>
    obtain ⟨_, _, _, scenes, _⟩ := State.boundary_reset_members (r := r) asked
    exact scenes
  | false =>
    obtain ⟨_, _, _, _, _, scenes⟩ := s.ended_members
    obtain ⟨_, _, _, _, _, _, _, _, advanced⟩ := s.ended.advanced_members r
    rw [s.boundary_plain r asked, State.plainBoundary_eq]
    split <;> simp [advanced, scenes]

/-! ### The survey (R119 to R128) -/

/-- The survey of the ended block keeps its zone. -/
theorem State.ended_survey_zone (s : State) : s.ended.survey.zone = s.survey.zone := by
  have swept : s.finishSweep.measureLevels.endZones.survey = s.survey := by simp [State.finishSweep, State.measureLevels]
  have ended : s.ended.survey = s.finishSweep.measureLevels.endZones.surveyBlockEnd := by
    simp [State.ended, State.nextBlock, State.endBlock, State.validate]
  rw [ended]
  unfold State.surveyBlockEnd
  rw [swept]
  cases phase : s.survey.phase <;> simp only [phase]

/-- A survey that goes on is the same one: its zone and its clamp note stand with its cue. -/
theorem State.advanceSurvey_same (s : State) (undue : s.completionDue = false) :
    s.advanceSurvey.survey.zone = s.survey.zone ∧ s.advanceSurvey.survey.clampNote = s.survey.clampNote := by
  obtain ⟨untailed, unmeasured⟩ := Bool.or_eq_false_iff.1 undue
  unfold State.advanceSurvey
  split
  · unfold State.quietEnd
    split <;> exact ⟨rfl, rfl⟩
  · unfold State.settleEnd
    split <;> exact ⟨rfl, rfl⟩
  · unfold State.measureEnd
    split
    · rename_i measured
      rw [measured, Bool.true_and, beq_eq_false_iff_ne] at unmeasured
      rw [if_neg unmeasured]
      exact ⟨rfl, rfl⟩
    · exact ⟨rfl, rfl⟩
  · unfold State.tailEnd
    rw [untailed]
    exact ⟨rfl, rfl⟩
  · exact ⟨rfl, rfl⟩
  · exact ⟨rfl, rfl⟩

/-- A survey's block that ends makes its completion due by the statement's count (R121, R123). -/
theorem State.ended_completionDue_over (s : State) :
    s.ended.completionDue = Survey.over { s.survey with counter := s.survey.counter + 1 } := by
  rw [Bool.eq_iff_iff, s.ended_completionDue]
  simp [Survey.over, and_assoc]

theorem State.boundary_survey (s : State) (r : BlockRaces) (plain : s.port.resetRequest = false) :
    (s.boundary r).survey = (s.ended.advanced r).survey := by
  rw [s.boundary_plain r plain, State.plainBoundary_eq]
  split <;> simp

theorem State.boundary_survey_idle (s : State) (r : BlockRaces)
    (past : s.port.resetRequest = true ∨ s.survey.phase = .idle
      ∨ (s.ended.completionDue = true ∧ r.completionBeforeAbort = true)) : (s.boundary r).survey.phase = .idle := by
  cases asked : s.port.resetRequest with
  | true =>
    obtain ⟨_, _, _, _, idle, _⟩ := State.boundary_reset_members (r := r) asked
    exact idle
  | false =>
    rw [s.boundary_survey r asked]
    unfold State.advanced
    rcases past with reset | idle | ⟨due, first⟩
    · rw [asked] at reset
      cases reset
    · have ended := s.ended_survey.1.trans idle
      rw [s.ended.advanceSurvey_idle ended, ite_self]
      exact ended
    · obtain ⟨survey, _⟩ := s.ended.completeSurvey_rest
      rw [due, first, s.ended.advanceSurvey_due due]
      exact congrArg Survey.phase survey

/-- A survey that the boundary leaves in progress is the one that ran. -/
theorem State.boundary_survey_runs (s : State) (r : BlockRaces) (plain : s.port.resetRequest = false)
    (running : s.survey.phase ≠ .idle) (goes : s.ended.completionDue = false ∨ r.completionBeforeAbort = false) :
    let v := (s.boundary r).survey
    v.phase ≠ .idle ∧ v.zone = s.survey.zone ∧ v.origin = s.survey.origin ∧ v.claim = s.survey.claim
    ∧ v.clampNote = s.survey.clampNote := by
  obtain ⟨phase, origin, claim, note, _⟩ := s.ended_survey
  have ended : s.ended.survey.phase ≠ .idle := by rwa [phase]
  rw [s.boundary_survey r plain, ← s.ended_survey_zone, ← origin, ← claim, ← note]
  unfold State.advanced
  cases due : s.ended.completionDue with
  | true =>
    have waits : r.completionBeforeAbort = false := goes.resolve_left (by simp [due])
    rw [waits]
    exact ⟨ended, rfl, rfl, rfl, rfl⟩
  | false =>
    obtain ⟨v, found, runs, sameOrigin, sameClaim⟩ := s.ended.advanceSurvey_undue due ended
    obtain ⟨zone, sameNote⟩ := s.ended.advanceSurvey_same due
    have survey : s.ended.advanceSurvey.survey = v := by rw [found]; rfl
    rw [Bool.false_and, if_neg Bool.false_ne_true]
    exact ⟨by rwa [survey], zone, by rw [survey, sameOrigin], by rw [survey, sameClaim], sameNote⟩

end Sys2Proof.Machine
end

section
/-! The memory that the cues of a block start find and leave is canonical (O25). -/

namespace Sys2Proof.Machine

variable {s : State}

/-! ### The works of the boundary -/

theorem State.advanceSurvey_wf (canonical : s.mem.wf) : s.advanceSurvey.mem.wf := by
  cases due : s.completionDue with
  | true =>
    rw [s.advanceSurvey_due due]
    exact (s.completeSurvey_ends canonical).1
  | false =>
    by_cases idle : s.survey.phase = .idle
    · rwa [s.advanceSurvey_idle idle]
    · obtain ⟨v, found, _⟩ := s.advanceSurvey_undue due idle
      rw [found]
      exact canonical

theorem State.advanced_wf (r : BlockRaces) (canonical : s.mem.wf) : (s.advanced r).mem.wf := by
  unfold State.advanced
  split
  · exact canonical
  · exact State.advanceSurvey_wf canonical

theorem State.installDue_wf (canonical : s.mem.wf) : s.installDue.mem.wf := by
  unfold State.installDue
  (repeat' split)
  · exact canonical
  · exact (s.installBank_ends _ canonical).1
  · exact canonical

theorem State.bankReject_wf (canonical : s.mem.wf) : s.bankReject.mem.wf := by
  unfold State.bankReject
  (repeat' split)
  · exact canonical
  · exact canonical
  · exact (s.rejectBank_ends _ _ _ canonical).1

theorem State.banked_wf (canonical : s.mem.wf) : s.banked.mem.wf := by
  unfold State.banked
  split
  · exact State.installDue_wf canonical
  · exact State.bankReject_wf canonical

theorem State.bankOutcome_mem (s : State) : s.bankOutcome.mem = s.banked.mem := by
  unfold State.bankOutcome State.banked
  split <;> simp

theorem State.resetFrom_wf (r : BlockRaces) (canonical : s.mem.wf) : (s.resetFrom r).mem.wf := by
  have ended := s.ended_wf canonical
  have outcome : s.ended.bankOutcome.mem.wf := by
    rw [s.ended.bankOutcome_mem]
    exact State.banked_wf ended
  have found : (if r.bankBeforeReset then s.ended.bankOutcome else s.ended).mem.wf := by
    split
    · exact outcome
    · exact ended
  unfold State.resetFrom
  split
  · exact State.advanceSurvey_wf found
  · exact found

theorem State.abandonAdoption_wf (canonical : s.mem.wf) : s.abandonAdoption.mem.wf := by
  unfold State.abandonAdoption
  split
  · exact canonical
  · exact State.outcome_mem_wf _ _ _ _ _ (Memory.write_wf _ _ _ canonical)

theorem State.boundary_wf (r : BlockRaces) (canonical : s.mem.wf) : (s.boundary r).mem.wf := by
  cases asked : s.port.resetRequest with
  | true =>
    obtain ⟨_, _, _, _, _, _, _, _, _, _, mem, _⟩ := (s.resetFrom r).carryReset_members
    rw [s.boundary_of_reset r asked, mem, State.resetting_eq]
    exact State.abandonAdoption_wf ((s.resetFrom r).served.resetSurvey_ends (s.resetFrom_wf r canonical)).1
  | false =>
    have found : (s.evaluating r).mem.wf := State.banked_wf (State.advanced_wf r (s.ended_wf canonical))
    rw [s.boundary_evaluated r asked]
    split <;> simpa using found

/-! ### The cues -/

theorem State.applyItem_wf (item : CueItem) (canonical : s.mem.wf) : (s.applyItem item).mem.wf := by
  have told : ∀ (t : State) (o : Origin) (claim : Bool) (code : ResultCode) (detail : Nat), t.mem = s.mem →
      (t.outcome o claim code detail).mem.wf := fun t o claim code detail same =>
    t.outcome_mem_wf o claim code detail (same ▸ canonical)
  have done : ∀ (t : State) (clamps : Nat), t.mem = s.mem → (t.doneClamped item clamps).mem.wf := by
    intro t clamps same
    rw [State.doneClamped_eq]
    exact told _ _ _ _ _ same
  have faulted : ∀ f, (s.faulted item f).mem.wf := fun f => told _ _ _ _ _ rfl
  unfold State.applyItem
  split
  · unfold State.applySourceSet
    split
    · exact faulted _
    · exact done _ _ (by simp)
  · unfold State.applyZoneSet
    split
    · exact faulted _
    · exact done _ _ (by simp)
  · unfold State.applyScenePush
    split
    · exact faulted _
    · exact done _ _ (by simp)
  · unfold State.applyScenePop State.carryScenePop
    (repeat' split)
    · exact faulted _
    · exact canonical
    · exact told _ _ _ _ _ rfl
  · unfold State.applySceneClear
    split
    · exact faulted _
    · exact told _ _ _ _ _ rfl
  · unfold State.applyBankAdopt State.carryBankAdopt
    (repeat' split)
    · exact faulted _
    · exact Memory.writeAll_wf _ _ canonical
    · exact canonical
  · unfold State.applySurveyStart State.carrySurveyStart
    (repeat' split)
    · exact faulted _
    · unfold State.beginSurvey
      simpa using Memory.writeAll_wf _ _ canonical
    · exact canonical
  · unfold State.applySurveyAbort
    split
    · exact faulted _
    · rw [s.carrySurveyAbort_eq]
      exact State.outcome_mem_wf _ _ _ _ _ (s.surveyAborted_ends canonical).1
  · exact faulted _

theorem State.foldl_applyItem_wf (items : List CueItem) :
    ∀ s : State, s.mem.wf → (items.foldl State.applyItem s).mem.wf := by
  induction items with
  | nil => exact fun _ canonical => canonical
  | cons item rest ih => exact fun s canonical => ih _ (State.applyItem_wf item canonical)

end Sys2Proof.Machine
end

section
/-! A boundary that ends neither a survey nor an adoption leaves the memory, the port and the notices (O25). -/

namespace Sys2Proof.Machine

/-! ### The memory, the notices and the port -/

/-- `t` has the memory of `s`, the notices outside `ns` and the port but for the notices and the reset request. -/
structure StandsBut (s t : State) (ns : List Notice) : Prop where
  mem : t.mem = s.mem
  notices : noticesElse s t ns
  port : t.port = { s.port with resetRequest := t.port.resetRequest, notice := t.port.notice }

section Stands

variable {s t u : State} {ns ms : List Notice}

theorem StandsBut.of_members (mem : t.mem = s.mem) (port : t.port = s.port) : StandsBut s t ns where
  mem := mem
  notices n _ := State.noticed_congr port n
  port := by rw [port]

theorem StandsBut.trans (h : StandsBut s t ns) (k : StandsBut t u ms) : StandsBut s u (ns ++ ms) where
  mem := k.mem.trans h.mem
  notices n away := (k.notices n (fun here => away (List.mem_append_right _ here))).trans
    (h.notices n (fun here => away (List.mem_append_left _ here)))
  port := by
    rw [k.port, h.port]

theorem State.standsBut_raiseIf (s : State) (c : Bool) (n : Notice) : StandsBut s (s.raiseIf c n) [n] where
  mem := by simp
  notices m away := by
    rw [s.raiseIf_noticed, decide_eq_false (fun same => away (List.mem_singleton.2 same.symm)), Bool.and_false,
      Bool.false_or]
  port := by
    unfold State.raiseIf
    split <;> rfl

theorem State.standsBut_served (s : State) : StandsBut s s.served ns where
  mem := rfl
  notices _ _ := rfl
  port := rfl

end Stands

/-! ### The ended block (R100, R163) -/

theorem State.standsBut_ended (s : State) (swept : s.sweepPos = 33) : StandsBut s s.ended [.clip] := by
  have done : s.finishSweep = s := by
    unfold State.finishSweep
    rw [swept]
    rfl
  have zones : StandsBut s s.measureLevels.endZones [.clip] := by
    unfold State.endZones
    dsimp only
    refine StandsBut.trans (ns := []) (.of_members ?_ ?_) (State.standsBut_raiseIf ..)
    · split <;> simp
    · split <;> rfl
  refine StandsBut.trans (ms := []) zones (.of_members ?_ ?_)
  · rw [s.ended_mem, done]
    simp [State.measureLevels]
  · rw [s.ended_port, done]

/-! ### The boundary (R127, R128, R139, R140, R144, R154) -/

/-- The works that an unchanged survey and adoption show not to have been taken. -/
theorem State.stays_of_adoption {s : State} {r : BlockRaces} (runs : s.adoptionRuns)
    (adoption : (s.boundary r).adoption.isSome = s.adoption.isSome) :
    s.switchesAt r = false ∧ s.rejectsAt r = false := by
  obtain ⟨_, left, _⟩ := s.boundary_banked r runs
  rw [left] at adoption
  cases adopting : s.adoption with
  | none => simp [State.switchesAt, State.rejectsAt, adopting]
  | some a =>
    have kept : ¬(s.port.resetRequest || s.switchesAt r || s.rejectsAt r) = true := by
      intro ends
      rw [if_pos ends, adopting] at adoption
      cases adoption
    simp only [Bool.or_eq_true, not_or, Bool.not_eq_true] at kept
    obtain ⟨⟨_, switches⟩, rejects⟩ := kept
    exact ⟨switches, rejects⟩

/-- A survey that the boundary leaves in progress, or finds idle, has at most changed its phase. -/
theorem State.advanced_of_surveying {s : State} {r : BlockRaces} (survey : (s.boundary r).surveying = s.surveying) :
    ∃ v, s.ended.advanced r = s.ended.withSurvey v := by
  have phase := s.ended_survey.1
  unfold State.advanced
  split
  · exact ⟨s.ended.survey, rfl⟩
  · rename_i goes
    by_cases idle : s.ended.survey.phase = .idle
    · exact ⟨s.ended.survey, s.ended.advanceSurvey_idle idle⟩
    · cases due : s.ended.completionDue with
      | false =>
        obtain ⟨v, found, _⟩ := s.ended.advanceSurvey_undue due idle
        exact ⟨v, found⟩
      | true =>
        have first : r.completionBeforeAbort = true := by simpa [due] using goes
        have ended := s.boundary_survey_idle r (.inr (.inr ⟨due, first⟩))
        rw [State.surveying, ended, State.surveying, ← phase] at survey
        simp [idle] at survey

theorem State.standsBut_boundary (s : State) (r : BlockRaces) (runs : s.adoptionRuns) (swept : s.sweepPos = 33)
    (adoption : (s.boundary r).adoption.isSome = s.adoption.isSome)
    (survey : (s.boundary r).surveying = s.surveying) : StandsBut s (s.boundary r) [.clip, .gate] := by
  have ended := s.standsBut_ended swept
  obtain ⟨switches, rejects⟩ := State.stays_of_adoption runs adoption
  cases asked : s.port.resetRequest with
  | true =>
    obtain ⟨_, _, _, _, idleAfter, freeAfter, _⟩ := State.boundary_reset_members (r := r) asked
    have free : s.adoption = none := by
      rw [freeAfter] at adoption
      exact Option.isNone_iff_eq_none.1 (by simpa using adoption.symm)
    have idle : s.survey.phase = .idle := by
      rw [State.surveying, idleAfter] at survey
      simpa [State.surveying] using survey.symm
    have idleEnded := s.ended_survey.1.trans idle
    have found : s.resetFrom r = s.ended := by
      rw [s.resetFrom_of_free r runs free, s.ended.advanceSurvey_idle idleEnded, ite_self]
    have reset : s.ended.resetting = s.ended.served :=
      s.ended.resetting_of_idle (State.ended_idle idle) (s.ended_adoption_none runs free)
    obtain ⟨_, _, _, _, _, _, _, _, _, port, mem, _⟩ := s.ended.carryReset_members
    rw [reset] at port mem
    rw [s.boundary_of_reset r asked, found]
    exact ended.trans (s.ended.standsBut_served.trans (ns := [.gate]) (ms := []) (.of_members mem port))
  | false =>
    obtain ⟨v, advanced⟩ := State.advanced_of_surveying survey
    obtain ⟨due, rejectDue, _⟩ := s.ended.advanced_due r
    have undue : s.ended.switchDue = false := by simpa [s.switchesAt_eq r runs, asked] using switches
    have sound : s.ended.rejectDue = false := by simpa [s.rejectsAt_eq r runs, asked] using rejects
    have found : s.evaluating r = s.ended.withSurvey v := by
      rw [s.evaluating_eq, State.banked_undue (due.trans undue) (rejectDue.trans sound), advanced]
    rw [State.boundary_of_stays asked runs switches, found]
    have evaluated : StandsBut (s.ended.withSurvey v) (s.ended.withSurvey v).evaluateGates [.gate] :=
      .trans (ms := []) (State.standsBut_raiseIf ..) (.of_members (by simp) (State.evaluateGates_port _))
    exact ended.trans (StandsBut.trans (ns := []) (t := s.ended.withSurvey v) (.of_members rfl rfl) evaluated)

end Sys2Proof.Machine
end

section
/-! What a block start's cues find and what they leave: the outcome of a cue, and the cues of a take list (O25). -/

namespace Sys2Proof.Machine

/-! ### The state at the first cue and at the last (R166) -/

/-- The state that the first cue of a block start finds. -/
def State.cueing (s : State) (r : BlockRaces) : State := { (s.boundary r).glide with takeList := [] }

theorem State.cueing_members (s : State) (r : BlockRaces) :
    (s.cueing r).block = (s.boundary r).block ∧ (s.cueing r).adopted = (s.boundary r).adopted
    ∧ (s.cueing r).liveBank = (s.boundary r).liveBank ∧ (s.cueing r).scenes = (s.boundary r).scenes
    ∧ (s.cueing r).marks = (s.boundary r).marks ∧ (s.cueing r).adoption = (s.boundary r).adoption
    ∧ (s.cueing r).survey = (s.boundary r).survey ∧ (s.cueing r).mem = (s.boundary r).mem
    ∧ (s.cueing r).port = (s.boundary r).port := by
  simp [State.cueing, State.adopted, State.liveBank]

theorem State.cueing_mix (s : State) (r : BlockRaces) :
    (∀ i, (s.cueing r).source i = (s.boundary r).source i) ∧ ∀ z, (s.cueing r).zone z = (s.boundary r).zone z :=
  ⟨State.source_congr (by simp [State.cueing]), State.zone_congr (by simp [State.cueing])⟩

/-- The state that the last cue of a block start leaves. -/
def State.cuesDone (s : State) (r : BlockRaces) : State := s.takeList.foldl State.applyItem (s.cueing r)

theorem State.applyTaken_boundary (s : State) (r : BlockRaces) (swept : s.sweepPos = 33) :
    (s.boundary r).glide.applyTaken = s.cuesDone r := by
  have taken : (s.boundary r).glide.takeList = s.takeList := by
    rw [← s.boundary_takeList r swept]
    simp
  unfold State.applyTaken
  rw [taken]
  rfl

theorem State.cuesDone_block (s : State) (r : BlockRaces) : (s.cuesDone r).block = s.block + 1 := by
  obtain ⟨_, block, _⟩ := State.foldl_applyItem_frame s.takeList (s.cueing r)
  obtain ⟨same, _⟩ := s.sameBlock_boundary r
  obtain ⟨cueing, _⟩ := s.cueing_members r
  rw [← s.ended_block.1, ← same, ← cueing]
  exact block

theorem State.cuesDone_wf {s : State} (r : BlockRaces) (canonical : s.mem.wf) : (s.cuesDone r).mem.wf :=
  State.foldl_applyItem_wf _ _ (by simpa [State.cueing] using State.boundary_wf r canonical)

/-! ### A completion that follows the cues (R127) -/

theorem State.cued_of_settled {s : State} {r : BlockRaces} (swept : s.sweepPos = 33)
    (settled : r.completionBeforeAbort = true ∨ (s.cuesDone r).survey.over = false) : s.cued r = s.cuesDone r := by
  unfold State.cued State.lateCompletion
  rw [s.applyTaken_boundary r swept]
  split
  · rfl
  · rename_i later
    exact if_neg (Bool.eq_false_iff.1 (settled.resolve_left later))

theorem State.cued_of_over {s : State} {r : BlockRaces} (swept : s.sweepPos = 33)
    (later : r.completionBeforeAbort = false) (finished : (s.cuesDone r).survey.over = true) :
    s.cued r = (s.cuesDone r).completeSurvey := by
  unfold State.cued State.lateCompletion
  rw [s.applyTaken_boundary r swept, later, ← (s.cuesDone r).advanceSurvey_due finished]
  exact if_pos finished

/-- A late completion leaves the stack, the live bank and the adoption of the last cue. -/
theorem State.cued_rest (s : State) (r : BlockRaces) (swept : s.sweepPos = 33) :
    (s.cued r).scenes = (s.cuesDone r).scenes ∧ (s.cued r).live = (s.cuesDone r).live
    ∧ (s.cued r).adoption = (s.cuesDone r).adoption := by
  unfold State.cued State.lateCompletion
  rw [s.applyTaken_boundary r swept]
  (repeat' split) <;> simp

/-! ### What stands after the block start (R111, R113, R166) -/

theorem State.blockStart_kept (s : State) (r : BlockRaces) (swept : s.sweepPos = 33) :
    let t := s.blockStart r
    let w := s.cuesDone r
    (∀ i, (t.source i).mix = (w.source i).mix ∧ (t.source i).pos = (w.source i).pos)
    ∧ t.zones = w.zones ∧ t.scenes = w.scenes ∧ t.live = w.live ∧ t.adoption = w.adoption := by
  obtain ⟨_, _, _, _, live, adoption, scenes, _⟩ := s.blockStart_of_mixed r
  obtain ⟨cuedScenes, cuedLive, cuedAdoption⟩ := s.cued_rest r swept
  rw [← s.applyTaken_boundary r swept] at *
  refine ⟨s.blockStart_mix r, s.blockStart_zones r, ?_, ?_, ?_⟩
  · rw [scenes, ← cuedScenes]
    simp [State.mixed, State.followed]
  · rw [live, ← cuedLive]
    simp [State.mixed, State.followed]
  · rw [adoption, ← cuedAdoption]
    simp [State.mixed, State.followed]

/-- A survey that is not muting, or that has just begun, is left by a block start as the cues leave it (R119). -/
theorem State.blockStart_survey {s : State} {r : BlockRaces}
    (stays : (s.cued r).survey.phase ≠ .muting ∨ (s.cued r).marks.surveyBegan = true) :
    (s.blockStart r).survey = (s.cued r).survey := by
  let x := (s.mixed r).motionSteps.grantFades
  have survey : x.survey = (s.cued r).survey := by simp [x, State.mixed, State.followed]
  have marks : x.marks = (s.cued r).marks := by simp [x, State.mixed, State.followed]
  have undue : x.atMutingEnd = false := by
    unfold State.atMutingEnd
    rw [survey, marks]
    rcases stays with phase | began
    · simp [phase]
    · simp [began]
  have still : x.mutingEnd = x := if_neg (Bool.eq_false_iff.1 undue)
  have last : (s.blockStart r).survey = x.mutingEnd.survey := by
    rw [s.blockStart_eq]
    simp [x]
  rw [last, still, survey]

/-- A completion that follows the cues stands after the block start, with the new block's number (R125, R127). -/
theorem State.blockStart_completes {s : State} {r : BlockRaces} (canonical : s.mem.wf) (swept : s.sweepPos = 33)
    (later : r.completionBeforeAbort = false) (finished : (s.cuesDone r).survey.over = true) :
    let t := s.blockStart r
    let v := (s.cuesDone r).survey
    t.survey = { v with phase := .idle, claim := false } ∧ t.word 0x2800 = 2 ∧ t.noticed .survey = true
    ∧ outcomeStands t v.origin v.claim (if v.clampNote then .clamped else .ok) 0 (s.block + 1) := by
  have cued := State.cued_of_over swept later finished
  obtain ⟨_, idle, state, _, _, stands, raised⟩ := (s.cuesDone r).completeSurvey_ends (State.cuesDone_wf r canonical)
  obtain ⟨survey, _⟩ := (s.cuesDone r).completeSurvey_rest
  rw [← cued] at idle state stands raised survey
  rw [s.cuesDone_block r] at stands
  obtain ⟨word, notices, port⟩ := s.blockStart_reads r
  refine ⟨?_, ?_, ?_, ?_⟩
  · rw [State.blockStart_survey (.inl (by simp [idle])), survey]
  · rw [word _ (by decide), state]
  · rw [notices _ (by decide), raised]
  · exact outcomeStands_congr (fun a low => word a (by omega)) (fun h => by rwa [notices _ (by decide)])
      (fun h => by rwa [notices _ (by decide)]) (by rw [port]) stands

/-! ### The cues of a block start, in whole (R166) -/

theorem probing_eq (p : SurveyPhase) : p.probing = decide (p = .probeSettle ∨ p = .probeMeasure) := by
  cases p <;> rfl

/-- The adoption that the first cue finds, if there was one: ended, or with its next part examined (R137 to R144). -/
theorem State.boundary_adoption {s : State} {r : BlockRaces} {a : Adoption} (runs : s.adoptionRuns)
    (adopting : s.adoption = some a) : (s.boundary r).adoption
      = if s.port.resetRequest || s.switchesAt r || s.rejectsAt r then none
        else some { a.examined s.mem with part := a.part + 1 } := by
  obtain ⟨_, adoption, _⟩ := s.boundary_banked r runs
  rw [adoption, s.ended_adoption runs, adopting, Option.map_some]

theorem State.boundary_adoption_none {s : State} {r : BlockRaces} (runs : s.adoptionRuns) (free : s.adoption = none) :
    (s.boundary r).adoption = none := by
  obtain ⟨_, adoption, _⟩ := s.boundary_banked r runs
  rw [adoption, s.ended_adoption_none runs free, ite_self]

/-- Settles O25: an outcome's writes, and the cues of a block start between what they find and what they leave. -/
theorem outcomeIsWritten : Obligations.OutcomeIsWritten := by
  refine ⟨fun s item code detail canonical => ⟨s.outcome_shown item code detail canonical,
    (s.cueSets_outcome ..).portElse, s.outcome_rest ..⟩, by decide, fun code => ?_, fun _ => rfl,
    fun _ _ _ => ⟨rfl, rfl, rfl, rfl⟩, fun r s canonical runs swept => ?_⟩
  · cases code <;> decide
  obtain ⟨sameBlock, _⟩ := s.sameBlock_boundary r
  obtain ⟨foundLive, _, foundMarks⟩ := s.boundary_banked r runs
  obtain ⟨block, adopted, live, scenes, marks, adoption, survey, mem, port⟩ := s.cueing_members r
  obtain ⟨source, zone⟩ := s.cueing_mix r
  intro reset reloaded mixOf zoneMixOf v ended probing rejected
  refine ⟨s.blockStart r, s.cueing r, s.cuesDone r, rfl, State.cuesApplied_foldl _ _, ?_, ?_, rfl, ?_, ?_, fun i => ?_,
    fun z => ?_, ?_, ?_, fun a adopting => ?_, fun free => ?_, fun past => ?_, fun plain running goes => ?_,
    fun adopting surveying => ?_, ?_⟩
  · rw [block, sameBlock, s.ended_block.1]
  · rw [adopted, s.boundary_adopted r runs]
  · rw [port, s.boundary_resetRequest r]
  · rw [live, foundLive]
  · rw [source]
    exact s.boundary_row r runs i
  · rw [zone]
    exact s.boundary_foundZoneMix r runs z
  · rw [scenes]
    exact s.boundary_scenes r
  · rw [marks, foundMarks, probing_eq]
    rfl
  · rw [adoption]
    exact State.boundary_adoption runs adopting
  · rw [adoption]
    exact State.boundary_adoption_none runs free
  · rw [survey]
    exact s.boundary_survey_idle r (by rwa [s.ended_completionDue_over])
  · rw [survey]
    exact s.boundary_survey_runs r plain running (by rwa [s.ended_completionDue_over])
  · rw [adoption] at adopting
    rw [State.surveying, survey] at surveying
    have stands := s.standsBut_boundary r runs swept adopting surveying
    refine ⟨fun a => ?_, fun n away => ?_, ?_⟩
    · rw [State.word, mem, stands.mem, State.word]
    · rw [State.noticed_congr port, stands.notices n away]
    · rw [port, stands.port, s.boundary_resetRequest r]
  · obtain ⟨sources, zones, scenes, live, adoption⟩ := s.blockStart_kept r swept
    refine ⟨sources, zones, scenes, live, adoption, fun settled => ?_, fun later finished =>
      State.blockStart_completes canonical swept later finished⟩
    have cued := State.cued_of_settled swept settled
    have reads := s.blockStart_reads r
    rw [cued] at reads
    exact ⟨fun stays => cued ▸ State.blockStart_survey (cued.symm ▸ stays), reads.word, reads.notices, reads.port⟩

end Sys2Proof.Machine
end

section
/-! The probe: its magnitude, its shift register and its samples (O38). -/

namespace Sys2Proof.Machine

/-! ### The magnitude (R122) -/

/-- The exact value that a scaled base rounds (R97, R122). -/
noncomputable def exactScaled (base : Nat) (c : Int) : ℝ := base * (10 : ℝ) ^ ((c : ℝ) / 40)

theorem exactScaled_nonneg (base : Nat) (c : Int) : 0 ≤ exactScaled base c := by
  unfold exactScaled
  positivity

/-- Every exact value is in proportion to the exact gain, whose powers are whole numbers. -/
theorem exactScaled_eq (base : Nat) (c : Int) : exactScaled base c = base / 4096 * exactGain c := by
  unfold exactScaled exactGain
  ring

/-- Its 40th power, doubled, in whole numbers. -/
theorem exactScaled_pow (base : Nat) (c : Int) :
    (2 * exactScaled base c) ^ 40 * 10 ^ (-c).toNat = (((2 * base) ^ 40 * 10 ^ c.toNat : Nat) : ℝ) := by
  calc (2 * exactScaled base c) ^ 40 * 10 ^ (-c).toNat
      = (base / 4096 : ℝ) ^ 40 * ((2 * exactGain c) ^ 40 * 10 ^ (-c).toNat) := by
        rw [exactScaled_eq]
        ring
    _ = (base / 4096 * (2 * 4096) : ℝ) ^ 40 * 10 ^ c.toNat := by
        rw [exactGain_pow, mul_pow]
        push_cast
        ring
    _ = _ := by
        rw [show (base / 4096 * (2 * 4096) : ℝ) = 2 * base by ring]
        push_cast
        rfl

/-- The test of the search compares with the exact value. -/
theorem exactScaled_admits (base n : Nat) (c : Int) :
    n ^ 40 * 10 ^ (-c).toNat ≤ (2 * base) ^ 40 * 10 ^ c.toNat ↔ (n : ℝ) ≤ 2 * exactScaled base c := by
  rw [← Nat.cast_le (α := ℝ), ← exactScaled_pow, Nat.cast_mul, Nat.cast_pow, Nat.cast_pow, Nat.cast_ofNat,
    mul_le_mul_iff_left₀ (by positivity)]
  exact pow_le_pow_iff_left₀ (Nat.cast_nonneg n) (by linarith [exactScaled_nonneg base c]) (by norm_num)

/-- A scaled base below the search's top is admitted, and the next number is not. -/
theorem scaledByCode_between (base : Nat) (c : Int) (inside : scaledByCode base c + 1 < 2 ^ 24) :
    ((2 * scaledByCode base c - 1 : Nat) : ℝ) ≤ 2 * exactScaled base c
    ∧ 2 * exactScaled base c < 2 * scaledByCode base c + 1 := by
  have down : ∀ a b, a ≤ b →
      decide ((2 * b - 1) ^ 40 * 10 ^ (-c).toNat ≤ (2 * base) ^ 40 * 10 ^ c.toNat) = true →
      decide ((2 * a - 1) ^ 40 * 10 ^ (-c).toNat ≤ (2 * base) ^ 40 * 10 ^ c.toNat) = true := by
    simp only [decide_eq_true_iff, exactScaled_admits]
    exact fun a b below admitted => (Nat.cast_le.2 (by omega)).trans admitted
  obtain ⟨_, _, _, greatest⟩ := bitSearch_greatest
    (fun m => (2 * m - 1) ^ 40 * 10 ^ (-c).toNat ≤ (2 * base) ^ 40 * 10 ^ c.toNat) down 24 0 (by simp)
  refine ⟨(exactScaled_admits base _ c).1 (scaledByCode_admitted base c), ?_⟩
  by_contra far
  have next : ((2 * (scaledByCode base c + 1) - 1 : Nat) : ℝ) ≤ 2 * exactScaled base c := by
    push_cast [show 2 * (scaledByCode base c + 1) - 1 = 2 * scaledByCode base c + 1 by omega]
    linarith
  have beyond : scaledByCode base c + 1 ≤ scaledByCode base c :=
    greatest _ (by simpa using inside) (decide_eq_true ((exactScaled_admits base _ c).2 next))
  omega

/-- A scaled base is the exact value rounded to a nearest integer. -/
theorem scaledByCode_rounds (base : Nat) (c : Int) (inside : scaledByCode base c + 1 < 2 ^ 24) :
    |(scaledByCode base c : ℝ) - exactScaled base c| ≤ 1 / 2 := by
  obtain ⟨admitted, above⟩ := scaledByCode_between base c inside
  have below : 2 * (scaledByCode base c : ℝ) - 1 ≤ ((2 * scaledByCode base c - 1 : Nat) : ℝ) := by
    have whole : 2 * scaledByCode base c ≤ (2 * scaledByCode base c - 1) + 1 := by omega
    have cast : 2 * (scaledByCode base c : ℝ) ≤ ((2 * scaledByCode base c - 1 : Nat) : ℝ) + 1 := by exact_mod_cast whole
    linarith
  rw [abs_le]
  constructor <;> linarith

/-- No probe code gives a magnitude above that of -12 (R117, R122). -/
theorem probeMagnitude_le {c : Int} (top : c ≤ -12) : probeMagnitude c ≤ 4204263 := by
  have admitted := scaledByCode_admitted 8388607 c
  rw [show c.toNat = 0 by omega] at admitted
  show scaledByCode 8388607 c ≤ 4204263
  by_contra above
  have root : 8408527 ^ 40 * 10 ^ 12 ≤ (2 * 8388607) ^ 40 := calc
    8408527 ^ 40 * 10 ^ 12 ≤ (2 * scaledByCode 8388607 c - 1) ^ 40 * 10 ^ (-c).toNat :=
      Nat.mul_le_mul (Nat.pow_le_pow_left (by omega) 40) (Nat.pow_le_pow_right (by norm_num) (by omega))
    _ ≤ (2 * 8388607) ^ 40 * 10 ^ 0 := admitted
    _ = (2 * 8388607) ^ 40 := by rw [pow_zero, mul_one]
  norm_num at root

/-! ### The shift register (R122) -/

/-- The bit that a step enters. -/
def lfsrFeedback (r : Word) : Bool := r.getLsbD 0 ^^ r.getLsbD 2 ^^ r.getLsbD 3 ^^ r.getLsbD 5

theorem lfsrStep_getLsbD (r : Word) (j : Nat) :
    (lfsrStep r).getLsbD j = (r.getLsbD (j + 1) || (lfsrFeedback r && decide (j = 15))) := by
  have top : (0x8000 : Word) = BitVec.twoPow 16 15 := by decide
  have entered : (if lfsrFeedback r then (0x8000 : Word) else 0).getLsbD j = (lfsrFeedback r && decide (j = 15)) := by
    cases lfsrFeedback r with
    | true =>
      rw [if_pos rfl, top, BitVec.getLsbD_twoPow]
      simp [eq_comm]
    | false => simp
  rw [← entered, lfsrStep, BitVec.getLsbD_or, BitVec.getLsbD_ushiftRight, Nat.add_comm 1 j]
  rfl

theorem lfsrStep_shifts (r : Word) {j : Nat} (low : j < 15) : (lfsrStep r).getLsbD j = r.getLsbD (j + 1) := by
  simp [lfsrStep_getLsbD, low.ne]

theorem lfsrStep_enters (r : Word) : (lfsrStep r).getLsbD 15 = lfsrFeedback r := by
  rw [lfsrStep_getLsbD, BitVec.getLsbD_of_ge r 16 (le_refl _)]
  simp

/-- Bits 1 to 15 move and bit 0 is fed back, so that no bit set is lost. -/
theorem lfsrStep_ne_zero {r : Word} (set : r ≠ 0) : lfsrStep r ≠ 0 := by
  intro cleared
  have clear : ∀ j, (lfsrStep r).getLsbD j = false := fun j => by
    rw [cleared]
    exact BitVec.getLsbD_zero
  have high : ∀ j, j < 15 → r.getLsbD (j + 1) = false := fun j low => (lfsrStep_shifts r low).symm.trans (clear j)
  have fed : lfsrFeedback r = r.getLsbD 0 := by
    unfold lfsrFeedback
    rw [high 1 (by omega), high 2 (by omega), high 4 (by omega)]
    simp
  have low : r.getLsbD 0 = false := fed.symm.trans ((lfsrStep_enters r).symm.trans (clear 15))
  refine set (BitVec.eq_of_getLsbD_eq (fun j inside => Eq.trans ?_ BitVec.getLsbD_zero.symm))
  cases j with
  | zero => exact low
  | succ j => exact high j (by omega)

theorem lfsrSteps_succ (n : Nat) : ∀ r : Word, lfsrSteps (n + 1) r = lfsrStep (lfsrSteps n r) := by
  induction n with
  | zero => exact fun _ => rfl
  | succ n ih => exact fun r => ih (lfsrStep r)

/-! ### The samples (R122) -/

/-- Sample `i` is that of the register after `i` steps. -/
theorem probeSamples_getElem? (a : Nat) {n i : Nat} (inside : i < n) :
    ∀ r : Word, (probeSamples a n r)[i]? = some (probeSample a (lfsrSteps i r)) := by
  induction n generalizing i with
  | zero => exact absurd inside (Nat.not_lt_zero i)
  | succ n ih =>
    intro r
    cases i with
    | zero => rfl
    | succ i => exact ih (Nat.lt_of_succ_lt_succ inside) (lfsrStep r)

theorem probeSample_toInt {a : Nat} (fits : a ≤ 8388607) (r : Word) :
    (probeSample a r).toInt = if r.getLsbD 0 then -(a : Int) else a := by
  unfold probeSample
  refine BitVec.toInt_ofInt_eq_self (by decide) ?_ ?_ <;> split <;> norm_num <;> omega

/-- Settles O38: the search's magnitude is a nearest integer, a step shifts and feeds back, and sample `i` is signed by
the register after `i` steps. -/
theorem probeFollowsRegister : Obligations.ProbeFollowsRegister := by
  refine ⟨fun c _ top => ⟨?_, probeMagnitude_le top⟩, fun r j low => lfsrStep_shifts r low, lfsrStep_enters,
    fun r => lfsrStep_ne_zero, fun r n => ⟨rfl, lfsrSteps_succ n r⟩, fun a r n i fits inside => ?_⟩
  · have below := probeMagnitude_le top
    exact scaledByCode_rounds 8388607 c (by unfold probeMagnitude at below; omega)
  · rw [List.getD_eq_getElem?_getD, probeSamples_getElem? a inside, Option.getD_some, probeSample_toInt fits]

end Sys2Proof.Machine
end

section
/-! The survey's phase changes, each by its own command (O36). -/

namespace Sys2Proof.Machine

/-! ### The ends of the phases (R119 to R121) -/

theorem State.allSilent_iff (s : State) : s.allSilent = true ↔ ∀ e ∈ s.routes, e.gain = .off := by
  simp [State.allSilent]

/-- MUTING ends with every entry silent, after the block start that began it (R119). -/
theorem State.mutingEnd_silent {s : State} (phase : s.survey.phase = .muting) (began : s.marks.surveyBegan = false)
    (silent : ∀ e ∈ s.routes, e.gain = .off) : s.mutingEnd = s.withSurvey s.survey.enterQuiet :=
  if_pos (by simp [State.atMutingEnd, phase, began, s.allSilent_iff.2 silent])

/-- MUTING goes on with an entry still heard (R119). -/
theorem State.mutingEnd_heard {s : State} (heard : ∃ e ∈ s.routes, e.gain ≠ .off) : s.mutingEnd = s := by
  obtain ⟨e, member, sounds⟩ := heard
  refine if_neg (fun due => sounds ?_)
  obtain ⟨_, silent⟩ := Bool.and_eq_true_iff.1 due
  exact s.allSilent_iff.1 silent e member

/-- QUIET ends with its last block (R120). -/
theorem State.quietEnd_due {s : State} (phase : s.survey.phase = .quiet) (ended : s.survey.quiet ≤ s.survey.counter) :
    s.quietEnd = s.withSurvey { s.survey with phase := .probeSettle, counter := 0, lfsr := 0xACE1 } :=
  if_pos (by simp [State.atQuietEnd, phase, ended])

/-- SETTLE ends with its last block (R121). -/
theorem State.settleEnd_due {s : State} (phase : s.survey.phase = .probeSettle)
    (ended : s.survey.settle ≤ s.survey.counter) :
    s.settleEnd = s.withSurvey { s.survey with phase := .probeMeasure, counter := 0 } :=
  if_pos (by simp [State.atSettleEnd, phase, ended])

/-! ### The end of MEASURE sent alone (R121; log 12, log 18) -/

theorem exec_measureEnd_tail {s : State} (phase : s.survey.phase = .probeMeasure)
    (ended : s.survey.measure ≤ s.survey.counter) (tail : s.survey.tail ≠ 0) :
    exec .measureEnd s = .next (s.withSurvey { s.survey with phase := .tail, counter := 0 }).settle := by
  have due : s.atMeasureEnd = true := by simp [State.atMeasureEnd, phase, ended]
  show execMeasureEnd s = _
  unfold execMeasureEnd State.measureEnd
  rw [due, if_neg tail]
  rfl

/-- A change of the survey unit alone, settled with no rebuild due: no engine need run for it. -/
theorem settledFrom_withSurvey {s : State} (v : Survey) (undue : s.rebuild = .none) :
    settledFrom s (s.withSurvey v).settle false := by
  let u := s.withSurvey v
  obtain ⟨_, _, _, request, _⟩ := u.counted_members
  have waits : u.counted.serveRebuild = u.counted := u.counted.serveRebuild_waits (.inl (request.trans undue))
  have none : u.settle.rebuild = .none := by
    rw [u.settle_eq, waits]
    exact request.trans undue
  refine ⟨fun _ => ⟨listKept_of_waits rfl rfl rfl rfl waits, none⟩, fun due => ?_, fun due => ?_, u.settle_nom,
    u.settle_targetsComposed, State.settle_hold s u rfl⟩
  all_goals simp [undue] at due

end Sys2Proof.Machine
end

section
/-! The survey through a block start with no reset and no cue (O36). -/

namespace Sys2Proof.Machine

/-! ### The phase that follows a block (R119 to R123) -/

/-- The survey unit after its own phase change at a block start: the end of its window, if it is reached. -/
def Survey.next (v : Survey) : Survey :=
  match v.phase with
  | .idle => v
  | .muting => v
  | .quiet =>
    if v.quiet ≤ v.counter then { v with phase := .probeSettle, counter := 0, lfsr := 0xACE1 } else v
  | .probeSettle => if v.settle ≤ v.counter then { v with phase := .probeMeasure, counter := 0 } else v
  | .probeMeasure =>
    if v.measure ≤ v.counter then
      if v.tail = 0 then { v with phase := .idle, claim := false } else { v with phase := .tail, counter := 0 }
    else v
  | .tail => if v.tail ≤ v.counter then { v with phase := .idle, claim := false } else v

section Phases

variable {v : Survey}

theorem Survey.next_idle (phase : v.phase = .idle) : v.next = v := by
  unfold Survey.next
  rw [phase]

theorem Survey.next_muting (phase : v.phase = .muting) : v.next = v := by
  unfold Survey.next
  rw [phase]

theorem Survey.next_quiet (phase : v.phase = .quiet) :
    v.next = if v.quiet ≤ v.counter then { v with phase := .probeSettle, counter := 0, lfsr := 0xACE1 } else v := by
  unfold Survey.next
  rw [phase]

theorem Survey.next_settle (phase : v.phase = .probeSettle) :
    v.next = if v.settle ≤ v.counter then { v with phase := .probeMeasure, counter := 0 } else v := by
  unfold Survey.next
  rw [phase]

theorem Survey.next_measure (phase : v.phase = .probeMeasure) :
    v.next = if v.measure ≤ v.counter then
        if v.tail = 0 then { v with phase := .idle, claim := false } else { v with phase := .tail, counter := 0 }
      else v := by
  unfold Survey.next
  rw [phase]

theorem Survey.next_tail (phase : v.phase = .tail) :
    v.next = if v.tail ≤ v.counter then { v with phase := .idle, claim := false } else v := by
  unfold Survey.next
  rw [phase]

end Phases

/-- The phase change of the whole part is that of its survey unit. -/
theorem State.advanceSurvey_survey (s : State) : s.advanceSurvey.survey = s.survey.next := by
  obtain ⟨completed, _⟩ := s.completeSurvey_rest
  unfold State.advanceSurvey
  cases phase : s.survey.phase with
  | idle => exact (Survey.next_idle phase).symm
  | muting => exact (Survey.next_muting phase).symm
  | quiet =>
    simp only [State.quietEnd, State.atQuietEnd, Survey.next_quiet phase, phase, beq_self_eq_true, Bool.true_and,
      decide_eq_true_eq]
    split <;> rfl
  | probeSettle =>
    simp only [State.settleEnd, State.atSettleEnd, Survey.next_settle phase, phase, beq_self_eq_true, Bool.true_and,
      decide_eq_true_eq]
    split <;> rfl
  | probeMeasure =>
    simp only [State.measureEnd, State.atMeasureEnd, Survey.next_measure phase, phase, beq_self_eq_true, Bool.true_and,
      decide_eq_true_eq]
    split
    · split
      · exact completed
      · rfl
    · rfl
  | tail =>
    simp only [State.tailEnd, State.atTailEnd, Survey.next_tail phase, phase, beq_self_eq_true, Bool.true_and,
      decide_eq_true_eq]
    split
    · exact completed
    · rfl

/-- No phase change enters MUTING. -/
theorem Survey.next_unmuted {v : Survey} (unmuted : v.phase ≠ .muting) : v.next.phase ≠ .muting := by
  cases phase : v.phase with
  | idle => simp [Survey.next_idle phase, phase]
  | muting => exact absurd phase unmuted
  | quiet =>
    rw [Survey.next_quiet phase]
    split <;> simp [phase]
  | probeSettle =>
    rw [Survey.next_settle phase]
    split <;> simp [phase]
  | probeMeasure =>
    rw [Survey.next_measure phase]
    (repeat' split) <;> simp [phase]
  | tail =>
    rw [Survey.next_tail phase]
    split <;> simp [phase]

/-- A phase change does not leave a window that is over, but where MEASURE is entered with no block to measure. -/
theorem Survey.next_not_over {v : Survey} (measures : v.phase = .probeSettle → v.settle ≤ v.counter → 0 < v.measure) :
    v.next.over = false := by
  unfold Survey.over
  cases phase : v.phase with
  | idle => simp [Survey.next_idle phase, phase]
  | muting => simp [Survey.next_muting phase, phase]
  | quiet =>
    rw [Survey.next_quiet phase]
    split <;> simp [phase]
  | probeSettle =>
    rw [Survey.next_settle phase]
    split
    · rename_i ended
      simp [(measures phase ended).ne']
    · simp [phase]
  | probeMeasure =>
    rw [Survey.next_measure phase]
    split
    · split
      · simp
      · rename_i tail
        simp [tail]
    · rename_i under
      simp [phase, under]
  | tail =>
    rw [Survey.next_tail phase]
    split
    · simp
    · rename_i under
      simp [phase, under]

/-! ### The ended block (R120, R121, R123) -/

theorem State.addBlock_congr {s t : State} (sources : t.sources = s.sources) (sums : List Nat) :
    t.addBlock sums = s.addBlock sums := by
  unfold State.addBlock
  simp only [State.source_congr sources]

theorem State.noteLost_congr {s t : State} (a : t.linkA = s.linkA) (b : t.linkB = s.linkB) (notes : List Bool) :
    t.noteLost notes = s.noteLost notes := by
  unfold State.noteLost
  simp only [State.lostBlock_congr a b]

/-- The end of a block adds it to the survey as the block found it. -/
theorem State.ended_survey_eq (s : State) : s.ended.survey = s.surveyBlockEnd := by
  let u := s.finishSweep.measureLevels.endZones
  have ended : s.ended.survey = u.surveyBlockEnd := by
    simp [u, State.ended, State.nextBlock, State.endBlock, State.validate]
  have survey : u.survey = s.survey := by simp [u, State.finishSweep, State.measureLevels]
  have heard : ∀ sums, u.addBlock sums = s.addBlock sums := State.addBlock_congr (by simp [u, State.finishSweep])
  have notes : ∀ lost, u.noteLost lost = s.noteLost lost :=
    State.noteLost_congr (by simp [u, State.finishSweep]) (by simp [u, State.finishSweep])
  rw [ended]
  unfold State.surveyBlockEnd
  simp only [survey, heard, notes]

section Phases

variable {s : State}

theorem State.surveyBlockEnd_idle (phase : s.survey.phase = .idle) : s.surveyBlockEnd = s.survey := by
  simp only [State.surveyBlockEnd, phase]

theorem State.surveyBlockEnd_muting (phase : s.survey.phase = .muting) : s.surveyBlockEnd = s.survey := by
  simp only [State.surveyBlockEnd, phase]

theorem State.surveyBlockEnd_quiet (phase : s.survey.phase = .quiet) :
    s.surveyBlockEnd = { s.survey with
      quietSums := s.addBlock s.survey.quietSums, lostNotes := s.noteLost s.survey.lostNotes,
      counter := s.survey.counter + 1 } := by
  simp only [State.surveyBlockEnd, phase]

theorem State.surveyBlockEnd_settle (phase : s.survey.phase = .probeSettle) :
    s.surveyBlockEnd = { s.survey with
      lostNotes := s.noteLost s.survey.lostNotes, counter := s.survey.counter + 1
      lfsr := lfsrSteps 48 s.survey.lfsr } := by
  simp only [State.surveyBlockEnd, phase, Config.blockLength]

theorem State.surveyBlockEnd_measure (phase : s.survey.phase = .probeMeasure) :
    s.surveyBlockEnd = { s.survey with
      probeSums := s.addBlock s.survey.probeSums, lostNotes := s.noteLost s.survey.lostNotes
      counter := s.survey.counter + 1, lfsr := lfsrSteps 48 s.survey.lfsr } := by
  simp only [State.surveyBlockEnd, phase, Config.blockLength]

theorem State.surveyBlockEnd_tail (phase : s.survey.phase = .tail) :
    s.surveyBlockEnd = { s.survey with counter := s.survey.counter + 1 } := by
  simp only [State.surveyBlockEnd, phase]

end Phases

/-! ### The survey that a block start leaves -/

/-- The boundary changes the phase where it is due, but for a completion that waits for the cues (R127). -/
theorem State.boundary_survey_next (s : State) (r : BlockRaces) (plain : s.port.resetRequest = false) :
    (s.boundary r).survey
      = if s.surveyBlockEnd.over && !r.completionBeforeAbort then s.surveyBlockEnd else s.surveyBlockEnd.next := by
  rw [s.boundary_survey r plain, ← s.ended_survey_eq, ← s.ended.advanceSurvey_survey]
  exact apply_ite State.survey _ _ _

theorem State.cuesDone_uncued {s : State} (r : BlockRaces) (uncued : s.takeList = []) :
    s.cuesDone r = s.cueing r := by
  rw [State.cuesDone, uncued]
  rfl

section Uncued

variable {s : State} {r : BlockRaces} (plain : s.port.resetRequest = false) (swept : s.sweepPos = 33)
  (uncued : s.takeList = [])

include plain swept uncued

/-- A completion that waits is carried out after the cues: the phase has changed once by the end of them. -/
theorem State.cued_survey_uncued (once : s.surveyBlockEnd.next.over = false) :
    (s.cued r).survey = s.surveyBlockEnd.next := by
  have found : (s.cuesDone r).survey = (s.boundary r).survey := by
    obtain ⟨_, _, _, _, _, _, survey, _⟩ := s.cueing_members r
    rw [State.cuesDone_uncued r uncued, survey]
  have boundary := s.boundary_survey_next r plain
  cases waits : s.surveyBlockEnd.over && !r.completionBeforeAbort with
  | false =>
    rw [waits] at boundary
    have left : (s.cuesDone r).survey = s.surveyBlockEnd.next := found.trans boundary
    rw [State.cued_of_settled swept (.inr (left ▸ once)), left]
  | true =>
    rw [waits] at boundary
    have left : (s.cuesDone r).survey = s.surveyBlockEnd := found.trans boundary
    obtain ⟨finished, later⟩ := Bool.and_eq_true_iff.1 waits
    rw [← left] at finished
    rw [State.cued_of_over swept (by simpa using later) finished, ← State.advanceSurvey_due _ finished,
      State.advanceSurvey_survey, left]

/-- With no cue taken no survey has begun at the block start. -/
theorem State.cued_surveyBegan_uncued : (s.cued r).marks.surveyBegan = false := by
  have banked : (s.evaluating r).marks.surveyBegan = false := by
    obtain ⟨_, _, marks⟩ := (s.ended.advanced r).banked_members
    obtain ⟨_, _, same, _⟩ := s.ended.advanced_due r
    rw [s.evaluating_eq, marks, same, s.ended_marks]
    rfl
  have boundary : (s.boundary r).marks.surveyBegan = false := by
    rw [s.boundary_evaluated r plain, ← banked]
    split <;> simp
  have cueing : ({ (s.boundary r).glide with takeList := [] } : State).marks.surveyBegan = false := by
    rw [← boundary]
    simp
  rcases State.cued_uncued (r := r) swept uncued with cued | cued <;> rw [cued]
  · exact cueing
  · unfold State.lateCompletion
    rw [← cueing]
    split <;> simp

/-- A survey that is not muting is left with its block added and its phase changed where due (R119 to R123). -/
theorem State.blockStart_survey_counted (unmuted : s.survey.phase ≠ .muting)
    (measures : s.survey.phase = .probeSettle → s.survey.settle ≤ s.survey.counter + 1 → 0 < s.survey.measure) :
    (s.blockStart r).survey = s.surveyBlockEnd.next := by
  have once : s.surveyBlockEnd.next.over = false := by
    refine Survey.next_not_over (fun phase ended => ?_)
    rw [s.surveyBlockEnd_phase] at phase
    rw [State.surveyBlockEnd_settle phase] at ended ⊢
    exact measures phase ended
  have cued := State.cued_survey_uncued (r := r) plain swept uncued once
  rw [State.blockStart_survey (.inl ?_), cued]
  rw [cued]
  exact Survey.next_unmuted (by rwa [s.surveyBlockEnd_phase])

/-- MUTING ends, or not, by the list that the block start leaves (R119; log 28). -/
theorem State.blockStart_survey_muting (phase : s.survey.phase = .muting) :
    ((∃ e ∈ (s.blockStart r).routes, e.gain ≠ .off) → (s.blockStart r).survey = s.survey)
    ∧ ((∀ e ∈ (s.blockStart r).routes, e.gain = .off) → (s.blockStart r).survey = s.survey.enterQuiet) := by
  let x := (s.mixed r).motionSteps.grantFades
  have still : s.surveyBlockEnd.next = s.survey := by rw [State.surveyBlockEnd_muting phase, Survey.next_muting phase]
  have cued : (s.cued r).survey = s.survey :=
    (State.cued_survey_uncued plain swept uncued (by simp [still, Survey.over, phase])).trans still
  have survey : x.survey = s.survey := by simp [x, State.mixed, State.followed, cued]
  have began : x.marks.surveyBegan = false := by
    rw [← State.cued_surveyBegan_uncued (r := r) plain swept uncued]
    simp [x, State.mixed, State.followed]
  have routes : (s.blockStart r).routes = x.routes := by
    rw [s.blockStart_eq]
    simp [x]
  have last : (s.blockStart r).survey = x.mutingEnd.survey := by
    rw [s.blockStart_eq]
    simp [x]
  rw [routes, last]
  refine ⟨fun heard => ?_, fun silent => ?_⟩
  · rw [State.mutingEnd_heard heard, survey]
  · rw [State.mutingEnd_silent (survey ▸ phase) began silent, survey]
    rfl

end Uncued

/-! ### The obligation -/

/-- Settles O36: the commands of the phases one by one, and the block start by the phase that it finds. -/
theorem surveyPhasesAdvance : Obligations.SurveyPhasesAdvance := by
  refine ⟨fun s => ⟨fun phase began silent => ?_, fun phase ended => ?_, fun phase ended => ?_,
    fun phase ended tail undue => ?_⟩, fun r s plain swept uncued => ?_⟩
  · exact ⟨_, congrArg Host.Outcome.next (State.mutingEnd_silent phase began silent), rfl, rfl⟩
  · exact ⟨_, congrArg Host.Outcome.next (State.quietEnd_due phase ended.ge), rfl, rfl⟩
  · exact ⟨_, congrArg Host.Outcome.next (State.settleEnd_due phase ended.ge), rfl, rfl⟩
  · let u := s.withSurvey { s.survey with phase := .tail, counter := 0 }
    obtain ⟨sources, nom, hold, settled⟩ := u.settle_of_waits (.inl undue)
    refine ⟨_, exec_measureEnd_tail phase ended.ge tail, u.settle_survey, settledFrom_withSurvey _ undue, ?_, ?_, ?_, ?_,
      ?_, u.settle_routes_kept undue⟩
    all_goals
      rw [settled]
      rfl
  · intro v heard notes quiet settle measure
    have muting := State.blockStart_survey_muting (r := r) plain swept uncued
    have counted := State.blockStart_survey_counted (r := r) plain swept uncued
    have unmuted : ∀ {phase : SurveyPhase}, v.phase = phase → phase ≠ .muting → v.phase ≠ .muting := fun h => h ▸ id
    have unsettled : ∀ {phase : SurveyPhase}, v.phase = phase → phase ≠ .probeSettle →
        v.phase = .probeSettle → v.settle ≤ v.counter + 1 → 0 < v.measure := fun h away settles =>
      absurd (h.symm.trans settles) away
    have inQuiet := fun phase : v.phase = .quiet =>
      (State.surveyBlockEnd_quiet phase ▸ counted (unmuted phase nofun) (unsettled phase nofun)).trans
        (Survey.next_quiet (v := quiet) phase)
    have inMeasure := fun phase : v.phase = .probeMeasure =>
      (State.surveyBlockEnd_measure phase ▸ counted (unmuted phase nofun) (unsettled phase nofun)).trans
        (Survey.next_measure (v := measure) phase)
    have inTail := fun phase : v.phase = .tail =>
      (State.surveyBlockEnd_tail phase ▸ counted (unmuted phase nofun) (unsettled phase nofun)).trans
        (Survey.next_tail (v := { v with counter := v.counter + 1 }) phase)
    have inSettle := fun (phase : v.phase = .probeSettle) measures =>
      (State.surveyBlockEnd_settle phase ▸ counted (unmuted phase nofun) (fun _ => measures)).trans
        (Survey.next_settle (v := settle) phase)
    refine ⟨_, rfl, fun phase => ?_, fun phase => (muting phase).1, fun phase => (muting phase).2,
      fun phase under => (inQuiet phase).trans (if_neg under.not_ge),
      fun phase ended => (inQuiet phase).trans (if_pos ended),
      fun phase under => (inSettle phase (fun ended => absurd ended under.not_ge)).trans (if_neg under.not_ge),
      fun phase ended measures => (inSettle phase (fun _ => measures)).trans (if_pos ended),
      fun phase under => (inMeasure phase).trans (if_neg under.not_ge),
      fun phase ended tail => (inMeasure phase).trans ((if_pos ended).trans (if_neg tail)),
      fun phase ended tail => (inMeasure phase).trans ((if_pos ended).trans (if_pos tail)),
      fun phase under => (inTail phase).trans (if_neg under.not_ge),
      fun phase ended => (inTail phase).trans (if_pos ended)⟩
    rw [counted (unmuted phase nofun) (unsettled phase nofun), State.surveyBlockEnd_idle phase, Survey.next_idle phase]

end Sys2Proof.Machine
end

section
/-! BANK_ADOPT and BANK_REJECT sent alone (O33, O39). -/

namespace Sys2Proof.Machine

/-! ### The acceptance of an adoption (R135, R136) -/

/-- A BANK_ADOPT that names a bank which is not LIVE, with no adoption and no survey in progress, passes its checks
(R135). -/
theorem State.bankAdoptFault_none {s : State} {item : CueItem} {body : List Word} {bank : BankId}
    (read : item.body = some body) (named : present body 0 = true)
    (code : bodyWord body 22 = (if bank = .bankA then 0 else 1)) (other : s.liveBank ≠ some bank)
    (free : s.adoption = none) (unended : s.marks.adoptionEnded = false) (idle : s.surveying = false) :
    s.bankAdoptFault item = none ∧ namedBank (cueBody item) = some bank := by
  have bankNamed : namedBank body = some bank := by
    unfold namedBank
    rw [code]
    cases bank <;> rfl
  refine ⟨(checkedBody_none _ _).2 ⟨body, read, ?_⟩, by rw [cueBody, read]; exact bankNamed⟩
  have apart : (some bank == s.liveBank) = false := by simpa using Ne.symm other
  simp [bankNamed, named, apart, idle, State.adoptBusy, free, unended]

/-- What every word reads after an adoption has begun: the bank ADOPTING, its header cleared (R136). -/
theorem State.beginAdoption_word (s : State) (item : CueItem) (bank : BankId) (canonical : s.mem.wf) (a : Nat) :
    (s.beginAdoption item bank).word a = if a = bankBase bank then 1
      else if bankBase bank < a ∧ a ≤ bankBase bank + 4 then 0 else s.word a := by
  obtain ⟨_, inside⟩ := bankBase_range bank
  show (s.mem.writeAll (bankHeader bank 0 0 .none 0 ++ [(bankBase bank, bankAdopting)])).read a = _
  rw [Memory.read_writeAll_last _ _ _ _ canonical (by dsimp only; omega), bankHeader_word _ _ _ _ _ _ _ canonical]
  refine if_congr Iff.rfl rfl ?_
  by_cases header : bankBase bank < a ∧ a ≤ bankBase bank + 4
  · rw [if_pos header]
    (repeat' split) <;> first | rfl | omega
  · rw [if_neg header, if_neg (by omega), if_neg (by omega), if_neg (by omega), if_neg (by omega)]
    rfl

/-- Settles O33: the checks pass, and the cue writes the header and the state word alone. -/
theorem bankAdoptBeginsAdoption : Obligations.BankAdoptBeginsAdoption := by
  intro item body bank s canonical read named code other free unended idle
  obtain ⟨passed, bankNamed⟩ := State.bankAdoptFault_none read named code other free unended idle
  have begun : exec (.bankAdopt item) s = .next (s.beginAdoption item bank) := by
    show Host.Outcome.next (s.applyBankAdopt item) = _
    rw [State.applyBankAdopt, passed]
    dsimp only
    rw [State.carryBankAdopt, bankNamed]
  exact ⟨_, begun, rfl, s.beginAdoption_word item bank canonical, rfl⟩

/-! ### The rejection of an adoption (R139) -/

/-- A rejection writes nothing above the slots but the bank's header. -/
theorem State.rejectBank_word_away (s : State) (a : Adoption) (reason : RejectReason) (addr : Nat)
    (canonical : s.mem.wf) (w : Nat) (high : 0x440 ≤ w) (away : w < bankBase a.bank ∨ bankBase a.bank + 4 < w) :
    (s.rejectBank a reason addr).word w = s.word w := by
  let cells := bankHeader a.bank a.clampCount a.firstClamp reason addr ++ [(bankBase a.bank, bankEdit)]
  let u : State :=
    { s.storeAll cells with adoption := none, marks := { s.marks with adoptionEnded := true } }
  have stored : u.word w = s.word w := by
    refine Memory.read_writeAll_away cells w (fun c hc => ?_) s.mem
    simp only [cells, bankHeader, List.cons_append, List.nil_append, List.mem_cons, List.not_mem_nil, or_false] at hc
    rcases hc with rfl | rfl | rfl | rfl | rfl <;> dsimp only <;> omega
  have told : (u.outcome a.origin a.claim .bankInvalid addr).word w = u.word w :=
    u.outcome_word_away _ _ _ _ (Memory.writeAll_wf _ _ canonical) w (fun k _ => outcomeAddrs_below k high)
  exact Eq.trans rfl (told.trans stored)

/-- A rejection changes the memory, the port, the adoption and the marks alone. -/
theorem State.rejectBank_rest (s : State) (a : Adoption) (reason : RejectReason) (addr : Nat) :
    { s.rejectBank a reason addr with mem := s.mem, port := s.port, adoption := s.adoption, marks := s.marks } = s := by
  unfold State.rejectBank State.outcome
  dsimp only
  (repeat' split) <;> rfl

/-- A rejection goes to CALL's result where the claim stands, and leaves it otherwise (R174). -/
theorem State.rejectBank_callResult (s : State) (a : Adoption) (reason : RejectReason) (addr : Nat) :
    (s.rejectBank a reason addr).port.callResult
      = if a.origin = .call ∧ a.claim = true then 10 else s.port.callResult :=
  State.outcome_callResult _ _ _ _ _

/-- Settles O39: the header, the outcome of the BANK_ADOPT, and the engine as it stood. -/
theorem bankRejectReopensBank : Obligations.BankRejectReopensBank := by
  intro a reason addr s canonical adopting stopped
  obtain ⟨_, ⟨state, count, first, code, address⟩, stands, raised⟩ := s.rejectBank_ends a reason addr canonical
  have call := s.rejectBank_callResult a reason addr
  have low := (bankBase_range a.bank).1
  have rejected : exec .bankReject s = .next (s.rejectBank a reason addr) := by
    show Host.Outcome.next s.bankReject = _
    unfold State.bankReject
    rw [adopting]
    dsimp only
    rw [stopped]
  refine ⟨_, rejected, by simp [State.rejectBank], state, count, first, code, address,
    fun w above => s.rejectBank_word_away a reason addr canonical w (by omega) (.inr above), raised, fun k slot => ?_, fun called claimed => ?_,
    fun called unclaimed => ?_, s.rejectBank_rest a reason addr⟩
  · rw [slot] at stands
    obtain ⟨faulted, number, detail, low, high, told⟩ := stands
    exact ⟨faulted, number, detail, low, high, told⟩
  · rw [called] at stands
    exact stands claimed
  · rw [call, if_neg (by simp [unclaimed])]

end Sys2Proof.Machine
end

section
/-! What the bank unit reads through every operation: the live bank, the adoption, the state words of the banks and the
captured snapshot (O57, O58). -/

namespace Sys2Proof.Machine

/-! ### Changes that leave the banks -/

/-- `t` has the live bank, the adoption, the bank state words and the capture of `s`, a canonical memory where `s` has
one, and a list of routes that has room where that of `s` has. -/
structure SameBanks (s t : State) : Prop where
  live : t.live = s.live
  adoption : t.adoption = s.adoption
  word : ∀ b, t.word (bankBase b) = s.word (bankBase b)
  canonical : s.mem.wf → t.mem.wf
  capture : t.meter.capture = s.meter.capture
  room : s.routes.length ≤ 160 → t.routes.length ≤ 160

section Same

variable {s t u : State}

theorem SameBanks.rfl : SameBanks s s := ⟨Eq.refl _, Eq.refl _, fun _ => Eq.refl _, id, Eq.refl _, id⟩

theorem SameBanks.trans (h : SameBanks s t) (k : SameBanks t u) : SameBanks s u where
  live := k.live.trans h.live
  adoption := k.adoption.trans h.adoption
  word b := (k.word b).trans (h.word b)
  canonical := k.canonical ∘ h.canonical
  capture := k.capture.trans h.capture
  room := k.room ∘ h.room

/-- A last change `k` after those of `h`. -/
theorem SameBanks.after (k : SameBanks t u) (h : SameBanks s t) : SameBanks s u := h.trans k

/-- A change that keeps the memory, the banks and the meter writer, and the room of the list. -/
theorem SameBanks.of_room (mem : t.mem = s.mem) (live : t.live = s.live) (adoption : t.adoption = s.adoption)
    (meter : t.meter = s.meter) (room : s.routes.length ≤ 160 → t.routes.length ≤ 160) : SameBanks s t where
  live := live
  adoption := adoption
  word b := by rw [State.word, mem, State.word]
  canonical := by rw [mem]; exact id
  capture := by rw [meter]
  room := room

theorem SameBanks.of_members (mem : t.mem = s.mem) (live : t.live = s.live) (adoption : t.adoption = s.adoption)
    (meter : t.meter = s.meter) (routes : t.routes = s.routes) : SameBanks s t :=
  .of_room mem live adoption meter (by rw [routes]; exact id)

theorem bankBase_bounds (b : BankId) : 0x800 ≤ bankBase b ∧ bankBase b ≤ 0x1800 := by cases b <;> decide

/-- A write of words that are no bank's state word. -/
theorem State.sameBanks_storeAll_ne (s : State) (cells : List (Nat × Word))
    (away : ∀ c ∈ cells, ∀ b, c.1 ≠ bankBase b) : SameBanks s (s.storeAll cells) where
  live := Eq.refl _
  adoption := Eq.refl _
  word b := Memory.read_writeAll_away cells _ (fun c hc => (away c hc b).symm) s.mem
  canonical := Memory.writeAll_wf cells s.mem
  capture := Eq.refl _
  room := id

theorem State.sameBanks_store_ne (s : State) (a : Nat) (v : Word) (away : ∀ b, a ≠ bankBase b) :
    SameBanks s (s.store a v) := s.sameBanks_storeAll_ne [(a, v)] (by simpa using away)

/-- A write below or above the banks. -/
theorem State.sameBanks_storeAll (s : State) (cells : List (Nat × Word))
    (away : ∀ c ∈ cells, c.1 < 0x800 ∨ 0x1800 < c.1) : SameBanks s (s.storeAll cells) :=
  s.sameBanks_storeAll_ne cells (fun c hc b same => by
    have := away c hc
    have := bankBase_bounds b
    omega)

theorem State.sameBanks_store (s : State) (a : Nat) (v : Word) (away : a < 0x800 ∨ 0x1800 < a) :
    SameBanks s (s.store a v) := s.sameBanks_storeAll [(a, v)] (by simpa using away)

theorem State.sameBanks_raise (s : State) (n : Notice) : SameBanks s (s.raise n) := .of_members rfl rfl rfl rfl rfl

/-- An outcome is written into a slot or into CALL (R170, R174). -/
theorem State.sameBanks_outcome (s : State) (o : Origin) (claim : Bool) (code : ResultCode) (detail : Nat) :
    SameBanks s (s.outcome o claim code detail) := by
  cases o with
  | slot k =>
    have range := slotBase_range k
    refine .trans (s.sameBanks_storeAll _ (fun c hc => ?_)) (.of_members rfl rfl rfl rfl rfl)
    simp only [List.mem_cons, List.not_mem_nil, or_false] at hc
    rcases hc with rfl | rfl | rfl | rfl | rfl <;> dsimp only <;> omega
  | call => exact .of_members (s.outcome_call_mem ..) (by simp) (by simp) (by simp) (by simp)

theorem State.sameBanks_doneClamped (s : State) (item : CueItem) (clamps : Nat) :
    SameBanks s (s.doneClamped item clamps) := by
  rw [State.doneClamped_eq]
  exact s.sameBanks_outcome ..

/-! ### The list of routes -/

/-- A change of every entry. -/
theorem State.sameBanks_mapRoutes (s : State) (f : Entry → Entry) : SameBanks s (s.mapRoutes f) :=
  .of_room rfl rfl rfl rfl (by rw [State.mapRoutes, State.withRoutes_routes, List.length_map]; exact id)

theorem State.rebuildRoutes_length (s : State) :
    s.rebuildRoutes.routes.length = s.routes.length + min (160 - s.routes.length) s.wanting.length := by
  rw [s.rebuildRoutes_routes, State.insertPairs_length, List.length_take, State.revised, State.mapRoutes,
    State.withRoutes_routes, List.length_map]

/-- A rebuild fills the list up to its room (R44). -/
theorem State.sameBanks_serveRebuild (s : State) : SameBanks s s.serveRebuild := by
  refine .of_room (by simp) (by simp) (by simp) (by simp) (fun room => ?_)
  have rebuilt : s.rebuildRoutes.routes.length ≤ 160 := by
    rw [s.rebuildRoutes_length]
    omega
  unfold State.serveRebuild
  (repeat' split) <;> first | exact rebuilt | exact room

/-- A removal admits no more pairs than it takes entries out (R48, R49). -/
theorem State.sameBanks_removeRetired (s : State) : SameBanks s s.removeRetired := by
  refine .of_room (by simp) (by simp) (by simp) (by simp) (fun room => ?_)
  have removed := s.unretired_length
  rw [s.removeRetired_length]
  omega

theorem State.sameBanks_grantFades (s : State) : SameBanks s s.grantFades := by
  refine .of_room rfl rfl rfl rfl (fun room => ?_)
  have pairs := congrArg List.length (grantUnits_pairs s.fadeLength s.routes (Config.fadeUnits - heldUnits s.routes))
  rw [List.length_map, List.length_map] at pairs
  exact pairs.trans_le room

/-- What a settling brings leaves the banks. -/
theorem State.sameBanks_settle (s : State) : SameBanks s s.settle := by
  have counted : SameBanks s s.counted :=
    .of_members (by simp [State.counted]) (by simp [State.counted]) (by simp [State.counted]) (by simp [State.counted])
      (by simp [State.counted])
  have composed : SameBanks s.counted.serveRebuild s.settle :=
    .trans (State.sameBanks_mapRoutes _ _) (.of_members rfl rfl rfl rfl rfl)
  exact counted.trans (s.counted.sameBanks_serveRebuild.trans composed)

theorem State.sameBanks_retarget (s : State) (chosen : Fin 16 → Bool) : SameBanks s (s.retarget chosen) :=
  s.sameBanks_mapRoutes _

theorem State.sameBanks_reloadMix (s : State) : SameBanks s s.reloadMix := by
  cases live : s.adopted with
  | none => rw [s.reloadMix_none live]; exact .rfl
  | some b =>
    rw [s.reloadMix_live b live]
    have reloaded : SameBanks s ((s.mapSources (Source.reloaded b)).mapZones (Zone.reloaded b)) :=
      .of_members rfl rfl rfl rfl rfl
    have moved := reloaded.trans (State.sameBanks_retarget _ (fun _ => true))
    exact moved.trans (.of_members rfl rfl rfl rfl rfl)

/-! ### Cues -/

theorem State.sameBanks_setSources (s : State) (body : List Word) (mask : Word) :
    SameBanks s (s.setSources body mask) := by
  have moved : SameBanks s ((s.mapSources (fun i x => if namesSource mask i then x.takeBody body else x)).retarget
      (s.moves body mask)) := (State.sameBanks_retarget _ _).after (.of_members rfl rfl rfl rfl rfl)
  unfold State.setSources
  dsimp only
  split
  · exact moved.trans (.of_members rfl rfl rfl rfl rfl)
  · exact moved

theorem State.sameBanks_carrySourceSet (s : State) (item : CueItem) : SameBanks s (s.carrySourceSet item) :=
  (s.sameBanks_setSources _ _).trans (State.sameBanks_doneClamped _ item _)

theorem State.sameBanks_carryZoneSet (s : State) (item : CueItem) : SameBanks s (s.carryZoneSet item) :=
  (State.sameBanks_doneClamped _ item _).after (.of_members rfl rfl rfl rfl rfl)

theorem State.sameBanks_carryScenePush (s : State) (item : CueItem) : SameBanks s (s.carryScenePush item) := by
  have saved : SameBanks s { s with scenes := s.currentScene :: s.scenes } := .of_members rfl rfl rfl rfl rfl
  have zoned : ∀ (t : State) (body : List Word), SameBanks t (t.setZones body (bodyWord body 7) (bodyWord body 8)) :=
    fun _ _ => .of_members rfl rfl rfl rfl rfl
  exact saved.trans ((State.sameBanks_setSources _ _ _).trans ((zoned _ _).trans (State.sameBanks_doneClamped _ item _)))

theorem State.sameBanks_carryScenePop (s : State) (item : CueItem) : SameBanks s (s.carryScenePop item) := by
  unfold State.carryScenePop
  split
  · exact .rfl
  · exact (State.sameBanks_outcome ..).after (.of_members rfl rfl rfl rfl rfl)

theorem State.sameBanks_applySceneClear (s : State) (item : CueItem) : SameBanks s (s.applySceneClear item) := by
  unfold State.applySceneClear
  split
  · exact s.sameBanks_outcome ..
  · exact (State.sameBanks_outcome ..).after (.of_members rfl rfl rfl rfl rfl)

/-! ### Surveys -/

/-- A starting survey writes the result area alone (R118). -/
theorem Survey.startCells_above (v : Survey) (block : BlockNo) (c : Nat × Word) (h : c ∈ v.startCells block) :
    0x2800 ≤ c.1 := by
  simp only [Survey.startCells, List.mem_append, List.mem_singleton] at h
  rcases h with (header | record) | rfl
  · simp only [Survey.runningHeader, surveyBase, List.mem_cons, List.not_mem_nil, or_false] at header
    rcases header with rfl | rfl | rfl | rfl | rfl | rfl | rfl | rfl <;> dsimp only <;> omega
  · have := surveyRecords_inside (fun _ => 0) (fun _ => 0x8000) (fun _ => 0x8000) (fun _ => 0x7FFF) record
    omega
  · exact Nat.le_refl _

theorem surveyEndHeader_above (block : BlockNo) (state : Word) (c : Nat × Word) (h : c ∈ surveyEndHeader block state) :
    0x2800 ≤ c.1 := by
  simp only [surveyEndHeader, surveyBase, List.mem_cons, List.not_mem_nil, or_false] at h
  rcases h with rfl | rfl | rfl <;> dsimp only <;> omega

/-- A survey that begins with words of the result area. -/
theorem State.sameBanks_surveyBegun (s : State) (v : Survey) (cells : List (Nat × Word))
    (above : ∀ c ∈ cells, 0x2800 ≤ c.1) : SameBanks s (s.surveyBegun v cells) := by
  have phased : SameBanks s (s.withSurvey v) := .of_members rfl rfl rfl rfl rfl
  have stored := (s.withSurvey v).sameBanks_storeAll cells (fun c hc => .inr (by
    have := above c hc
    omega))
  exact (phased.trans stored).trans (.of_members rfl rfl rfl rfl rfl)

theorem State.sameBanks_carrySurveyStart (s : State) (item : CueItem) : SameBanks s (s.carrySurveyStart item) := by
  unfold State.carrySurveyStart
  split
  · rw [State.beginSurvey_eq]
    exact (s.sameBanks_surveyBegun _ _ (Survey.startCells_above _ _)).trans (State.sameBanks_mapRoutes _ _)
  · exact .rfl

theorem State.sameBanks_abandonSurvey (s : State) (code : ResultCode) : SameBanks s (s.abandonSurvey code) := by
  have stored := s.sameBanks_storeAll (surveyEndHeader s.block 3) (fun c hc => .inr (by
    have := surveyEndHeader_above _ _ c hc
    omega))
  let u := (s.storeAll (surveyEndHeader s.block 3)).withSurvey s.survey.discarded
  have ended : SameBanks s u := stored.trans (.of_members rfl rfl rfl rfl rfl)
  exact (ended.trans (u.sameBanks_outcome s.survey.origin s.survey.claim code 0)).trans (State.sameBanks_raise _ .survey)

theorem State.sameBanks_completeSurvey (s : State) : SameBanks s s.completeSurvey := by
  have stored := s.sameBanks_storeAll (allSources.flatMap s.survey.resultRecord ++ surveyEndHeader s.block 2)
    (fun c hc => .inr (by
      rcases List.mem_append.1 hc with record | header
      · rw [Survey.resultRecords_eq] at record
        have := surveyRecords_inside _ _ _ _ record
        omega
      · have := surveyEndHeader_above _ _ c header
        omega))
  let u := ((s.storeAll (allSources.flatMap s.survey.resultRecord ++ surveyEndHeader s.block 2)).withSurvey
    { s.survey with phase := .idle, claim := false }).requestRebuild
  have ended : SameBanks s u := stored.trans (.of_members rfl rfl rfl rfl rfl)
  exact (ended.trans (u.sameBanks_outcome ..)).trans (State.sameBanks_raise _ .survey)

theorem State.sameBanks_carrySurveyAbort (s : State) (item : CueItem) : SameBanks s (s.carrySurveyAbort item) := by
  have stopped : SameBanks s s.stopProbe := .of_members (by simp) (by simp) (by simp) (by simp) (by simp)
  have abandoned := stopped.trans (s.stopProbe.sameBanks_abandonSurvey .aborted)
  exact (State.sameBanks_outcome ..).after (abandoned.trans (.of_members rfl rfl rfl rfl rfl))

theorem State.sameBanks_measureEnd (s : State) : SameBanks s s.measureEnd := by
  unfold State.measureEnd
  (repeat' split) <;> first | exact s.sameBanks_completeSurvey | exact .of_members rfl rfl rfl rfl rfl

theorem State.sameBanks_tailEnd (s : State) : SameBanks s s.tailEnd := by
  unfold State.tailEnd
  split
  · exact s.sameBanks_completeSurvey
  · exact .rfl

theorem State.sameBanks_quietEnd (s : State) : SameBanks s s.quietEnd := by
  unfold State.quietEnd
  split <;> exact .of_members rfl rfl rfl rfl rfl

theorem State.sameBanks_settleEnd (s : State) : SameBanks s s.settleEnd := by
  unfold State.settleEnd
  split <;> exact .of_members rfl rfl rfl rfl rfl

theorem State.sameBanks_mutingEnd (s : State) : SameBanks s s.mutingEnd := by
  unfold State.mutingEnd
  split <;> exact .of_members rfl rfl rfl rfl rfl

theorem State.sameBanks_advanceSurvey (s : State) : SameBanks s s.advanceSurvey := by
  unfold State.advanceSurvey
  split
  · exact s.sameBanks_quietEnd
  · exact s.sameBanks_settleEnd
  · exact s.sameBanks_measureEnd
  · exact s.sameBanks_tailEnd
  · exact .rfl
  · exact .rfl

theorem State.sameBanks_resetSurvey (s : State) : SameBanks s s.resetSurvey := by
  unfold State.resetSurvey
  split
  · exact s.sameBanks_abandonSurvey _
  · exact .rfl

/-! ### Links, gates and the sweep -/

theorem State.sameBanks_inputPeriodOf (s : State) (l : LinkId) (a b : LinkFrame) :
    SameBanks s (s.inputPeriodOf l a b) := .of_members (by simp) (by simp) (by simp) (by simp) (by simp)

theorem State.sameBanks_examineNext (s : State) : SameBanks s s.examineNext := by
  unfold State.examineNext
  split
  · exact .of_members (by simp) (by simp) (by simp) (by simp) (by simp)
  · split
    · have range := slotBase_range (Fin.ofNat 32 (s.sweepPos - 1))
      unfold State.examineSlot
      split
      · exact (s.sameBanks_store (slotBase (Fin.ofNat 32 (s.sweepPos - 1))) slotTaken (.inl (by omega))).trans
          (.of_members rfl rfl rfl rfl rfl)
      · exact .of_members rfl rfl rfl rfl rfl
    · exact .rfl

theorem State.sameBanks_examineMany (s : State) (n : Nat) : SameBanks s (s.examineMany n) :=
  State.examineMany_keeps (P := SameBanks s) (fun t h => h.trans t.sameBanks_examineNext) n s .rfl

end Same

end Sys2Proof.Machine
end

section
/-! Invariants of the bank unit, operation by operation and command by command (O57, O58). -/

namespace Sys2Proof.Machine

/-- An invariant of the bank unit: it stands through what leaves the banks, and every operation on them keeps it. -/
structure KeptBanks (P : State → Prop) : Prop where
  same : ∀ s t, P s → SameBanks s t → P t
  adopt : ∀ s item, s.bankAdoptFault item = none → P s → P (s.carryBankAdopt item)
  unclaim : ∀ s, P s → P s.portInit
  reject : ∀ s, P s → P s.bankReject
  install : ∀ s, P s → P s.installDue
  abandon : ∀ s, P s → P s.abandonAdoption
  capture : ∀ s, P s → P s.snapshotTime
  write : ∀ s, P s → P s.snapshotWrite

namespace KeptBanks

variable {P : State → Prop}

/-- A change of the units, which have no part in the bank unit. -/
theorem members (k : KeptBanks P) {s t : State} (h : P s) (mem : t.mem = s.mem) (live : t.live = s.live)
    (adoption : t.adoption = s.adoption) (meter : t.meter = s.meter) (routes : t.routes = s.routes) : P t :=
  k.same s t h (.of_members mem live adoption meter routes)

/-! ### The port -/

/-- The state word of a bank is the bank's own word 0 (R148). -/
theorem regionOf_bankBase (b : BankId) : regionOf (bankBase b) = .bankWord b 0 := by cases b <;> decide

theorem drop (k : KeptBanks P) (s : State) (a : Addr) (h : P s) : P (s.drop a) :=
  k.members h (by simp) (by simp) (by simp) (by simp) (by simp)

theorem writeRegister (k : KeptBanks P) (s : State) (n : Nat) (a : Addr) (v : Word) (h : P s) :
    P (s.writeRegister n a v) := by
  unfold State.writeRegister
  split
  · have stored : ∀ p, P (s.withPort p) := fun p => k.members h rfl rfl rfl rfl rfl
    unfold State.writeControl
    dsimp only
    split
    · exact k.unclaim _ (stored _)
    · exact stored _
  · exact k.members h (by simp) (by simp) (by simp) (by simp) (by simp)
  · exact k.members h rfl rfl rfl rfl rfl
  · exact k.members h rfl rfl rfl rfl rfl
  · exact k.drop s a h

/-- The host writes no bank's state word: the port drops such a write (R149). -/
theorem presentWrite (k : KeptBanks P) (s : State) (a : Addr) (v : Word) (h : P s) : P (s.presentWrite a v) := by
  have dropped : P (s.drop a) := k.drop s a h
  by_cases state : ∃ b, a.toNat = bankBase b
  · obtain ⟨b, here⟩ := state
    unfold State.presentWrite
    rw [here, regionOf_bankBase]
    simpa using dropped
  · have accepted : P (s.accept a v) :=
      k.same _ _ h (s.sameBanks_store_ne a.toNat v (fun b here => state ⟨b, here⟩))
    have either : ∀ legal : Bool, P (if legal then s.accept a v else s.drop a)
      | true => accepted
      | false => dropped
    unfold State.presentWrite
    split
    · exact k.writeRegister s _ a v h
    · exact either _
    · split
      · exact accepted
      · exact dropped
    · exact dropped
    · split
      · exact accepted
      · exact dropped
    · exact dropped

theorem hostWrite (k : KeptBanks P) (s : State) (a : Addr) (v : Word) (h : P s) : P (s.hostWrite a v) := by
  rw [State.hostWrite_eq]
  refine k.presentWrite _ a v ?_
  unfold State.atPort
  split
  · exact k.members h rfl rfl rfl rfl rfl
  · exact h

theorem stageByte (k : KeptBanks P) (s : State) (a : Addr) (l : Lane) (b : Byte) (h : P s) : P (s.stageByte a l b) := by
  have staged : ∀ p, P (s.withPort p) := fun p => k.members h rfl rfl rfl rfl rfl
  unfold State.stageByte
  split
  · exact staged _
  · dsimp only
    split
    · split
      · exact k.presentWrite _ a _ (staged _)
      · exact k.drop _ a (staged _)
    · exact k.drop _ a (staged _)

/-! ### Cues -/

theorem faulted (k : KeptBanks P) (s : State) (item : CueItem) (f : ResultCode × Nat) (h : P s) : P (s.faulted item f) :=
  k.same _ _ h (s.sameBanks_outcome ..)

theorem applyBankAdopt (k : KeptBanks P) (s : State) (item : CueItem) (h : P s) : P (s.applyBankAdopt item) := by
  unfold State.applyBankAdopt
  split
  · exact k.faulted s item _ h
  · exact k.adopt s item (by assumption) h

theorem applyItem (k : KeptBanks P) (s : State) (item : CueItem) (h : P s) : P (s.applyItem item) := by
  have carried : ∀ (fault : CueFault) (t : State), SameBanks s t →
      P (match fault with
        | some f => s.faulted item f
        | none => t) := by
    intro fault t same
    cases fault with
    | some f => exact k.faulted s item f h
    | none => exact k.same _ _ h same
  unfold State.applyItem
  split
  · exact carried _ _ (s.sameBanks_carrySourceSet item)
  · exact carried _ _ (s.sameBanks_carryZoneSet item)
  · exact carried _ _ (s.sameBanks_carryScenePush item)
  · exact carried _ _ (s.sameBanks_carryScenePop item)
  · exact k.same _ _ h (s.sameBanks_applySceneClear item)
  · exact k.applyBankAdopt s item h
  · exact carried _ _ (s.sameBanks_carrySurveyStart item)
  · exact carried _ _ (s.sameBanks_carrySurveyAbort item)
  · exact k.faulted s item _ h

theorem applyTaken (k : KeptBanks P) (s : State) (h : P s) : P s.applyTaken :=
  State.applyTaken_keeps (P := P) s (k.members h rfl rfl rfl rfl rfl) k.applyItem

/-! ### The boundary of a block start -/

theorem reload (k : KeptBanks P) (s : State) (h : P s) : P s.reloadMix := k.same _ _ h s.sameBanks_reloadMix

theorem evaluate (k : KeptBanks P) (s : State) (h : P s) : P s.evaluateGates :=
  k.members h (by simp) (by simp) (by simp) (by simp) (by simp)

theorem advanceSurvey (k : KeptBanks P) (s : State) (h : P s) : P s.advanceSurvey :=
  k.same _ _ h s.sameBanks_advanceSurvey

theorem carryReset (k : KeptBanks P) (s : State) (h : P s) : P s.carryReset := by
  have served : P s.served := k.members h rfl rfl rfl rfl rfl
  have ended : P s.resetting := k.abandon _ (k.same _ _ served s.served.sameBanks_resetSurvey)
  rw [State.carryReset_eq]
  exact k.same _ _ ended (.of_room rfl rfl rfl rfl (fun _ => Nat.zero_le _))

/-- What the works of a boundary keep, with and without an engine reset (R127, R128, R144). -/
theorem boundary (k : KeptBanks P) (s : State) (r : BlockRaces) (h : P s.ended) : P (s.boundary r) := by
  have outcome : P s.ended.bankOutcome := by
    unfold State.bankOutcome
    split
    · exact k.reload _ (k.install _ h)
    · exact k.reject _ h
  have first : P (if r.bankBeforeReset then s.ended.bankOutcome else s.ended) := by
    split
    · exact outcome
    · exact h
  have reset : P (s.ended.resetBoundary r) := by
    refine k.carryReset _ ?_
    split
    · exact k.advanceSurvey _ first
    · exact first
  have advanced : P (s.ended.advanced r) := by
    unfold State.advanced
    split
    · exact h
    · exact k.advanceSurvey _ h
  unfold State.boundary
  split
  · exact reset
  · rw [State.plainBoundary_eq]
    split
    · exact k.reload _ (k.evaluate _ (k.install _ advanced))
    · exact k.evaluate _ (k.reject _ advanced)

/-! ### The rest of a block start -/

theorem meterStep (k : KeptBanks P) (s : State) (h : P s) : P s.meterStep := by
  have gathered : P s.gatherLoad := k.same _ _ h ⟨rfl, rfl, fun _ => rfl, id, rfl, id⟩
  refine k.capture _ (k.same _ _ (k.write _ gathered) ⟨rfl, rfl, fun _ => rfl, id, rfl, id⟩)

/-- What stands at the cues of a block start stands after it, if every operation on the banks keeps it. -/
theorem blockStart (k : KeptBanks P) (s : State) (r : BlockRaces) (h : P (s.boundary r)) : P (s.blockStart r) := by
  have taken : P (s.boundary r).glide.applyTaken :=
    k.applyTaken _ (k.same _ _ h (State.sameBanks_mapRoutes _ _))
  have cued : P (s.cued r) := by
    unfold State.cued State.lateCompletion
    (repeat' split)
    · exact taken
    · exact k.advanceSurvey _ taken
    · exact taken
  have counted : P (s.followed r).countNom :=
    k.members cued (by simp [State.followed]) (by simp [State.followed]) (by simp [State.followed])
      (by simp [State.followed]) (by simp [State.followed])
  have removed : P (s.followed r).countNom.serveRebuild.removeRetired :=
    k.same _ _ counted ((State.sameBanks_serveRebuild _).trans (State.sameBanks_removeRetired _))
  have moved : P (s.mixed r).motionSteps.grantFades :=
    k.same _ _ removed (((State.sameBanks_mapRoutes _ _).trans (State.sameBanks_mapRoutes _ _)).trans
      (State.sameBanks_grantFades _))
  rw [State.blockStart_eq]
  exact k.members (k.meterStep _ (k.same _ _ moved (State.sameBanks_mutingEnd _)))
    (by simp) (by simp) (by simp) (by simp) (by simp)

/-! ### Every command -/

/-- What a cue that sets the mix brings with it. -/
theorem settled (k : KeptBanks P) {s t : State} (before : Fin 16 → ForceMode) (same : SameBanks s t) (h : P s) :
    P (t.followForces before).settle :=
  k.same _ _ h (same.trans ((State.sameBanks_settle _).after (.of_members rfl rfl rfl rfl rfl)))

/-- Every command but a power-on reset keeps what every operation on the banks and every block start keep. -/
theorem exec (k : KeptBanks P) (begun : ∀ s r, P s → P (s.blockStart r)) (c : Instr) (s t : State)
    (on : ∀ strapHigh, c ≠ .powerOnReset strapHigh) (h : P s) (e : exec c s = .next t) : P t := by
  have host : ∀ a v, P (s.hostWrite a v) := fun a v => k.hostWrite s a v h
  have settle : ∀ u, SameBanks s u → P u.settle := fun u same => k.same _ _ h (same.trans u.sameBanks_settle)
  cases c <;> obtain rfl := (Host.Outcome.next.inj e).symm
  case powerOnReset strap => exact absurd rfl (on strap)
  case inputFrame a b => exact k.same _ _ h (s.sameBanks_inputPeriodOf .inA a b)
  case linkLost l f =>
    split
    · exact k.same _ _ h (s.sameBanks_inputPeriodOf l ..)
    · exact h
  case linkRecovery l slots f =>
    split
    · exact k.same _ _ h (s.sameBanks_inputPeriodOf l ..)
    · exact h
  case outputFrame =>
    split
    · exact k.members h rfl rfl rfl rfl rfl
    · exact h
  case blockStart r => exact begun s r h
  case floorRise i =>
    split
    · exact k.members h rfl rfl rfl rfl rfl
    · exact h
  case holdExpiry i =>
    split
    · exact k.same _ _ h ((State.sameBanks_mapRoutes _ _).after (.of_members rfl rfl rfl rfl rfl))
    · exact h
  case intakeSweep n => exact k.same _ _ h (s.sameBanks_examineMany _)
  case sourceSet item =>
    split
    · exact k.faulted s item _ h
    · exact k.settled _ (s.sameBanks_carrySourceSet item) h
  case zoneSet item =>
    split
    · exact k.faulted s item _ h
    · exact settle _ (s.sameBanks_carryZoneSet item)
  case scenePush item =>
    split
    · exact k.faulted s item _ h
    · exact k.settled _ (s.sameBanks_carryScenePush item) h
  case scenePop item =>
    split
    · exact k.faulted s item _ h
    · exact k.settled _ (s.sameBanks_carryScenePop item) h
  case sceneClear item => exact k.same _ _ h (s.sameBanks_applySceneClear item)
  case bankAdopt item => exact k.applyBankAdopt s item h
  case surveyStart item =>
    split
    · exact k.faulted s item _ h
    · exact settle _ (s.sameBanks_carrySurveyStart item)
  case surveyAbort item =>
    split
    · exact k.faulted s item _ h
    · exact settle _ (s.sameBanks_carrySurveyAbort item)
  case badKind item => exact k.faulted s item _ h
  case bankReject => exact k.reject s h
  case switchOver =>
    split
    · have arbitrated : P s.installDue.rearbitrate :=
        k.members (k.install s h) (by simp) (by simp) (by simp) (by simp) (by simp)
      exact k.settled _ (State.sameBanks_reloadMix _) arbitrated
    · exact h
  case engineReset =>
    split
    · exact k.same _ _ (k.carryReset s h) (State.sameBanks_settle _)
    · exact h
  case routeRemoval =>
    split
    · exact k.same _ _ h (s.sameBanks_removeRetired.trans (State.sameBanks_mapRoutes _ _))
    · exact h
  case fadeGrant => exact k.same _ _ h s.sameBanks_grantFades
  case fadeEnd pair => exact k.same _ _ h (s.sameBanks_mapRoutes _)
  case mutingEnd => exact k.same _ _ h s.sameBanks_mutingEnd
  case quietEnd => exact k.same _ _ h s.sameBanks_quietEnd
  case settleEnd => exact k.same _ _ h s.sameBanks_settleEnd
  case measureEnd =>
    split
    · exact settle _ s.sameBanks_measureEnd
    · exact h
  case surveyComplete =>
    split
    · exact settle _ s.sameBanks_tailEnd
    · exact h
  case snapshotTime => exact k.capture s h
  case snapshotWrite => exact k.write s h
  case byteWrite a l b =>
    split
    · exact k.stageByte s a l b h
    · exact h
  case byteRead a l =>
    split
    · exact k.members h (by simp) (by simp) (by simp) (by simp) (by simp)
    · exact h
  all_goals exact host _ _

end KeptBanks

end Sys2Proof.Machine
end

section
/-! The engine's bank through every command: RUNNING, the bank state words, and the adoption that runs (O57, O58). -/

namespace Sys2Proof.Machine

/-! ### RUNNING (R132) -/

theorem State.running_of_live {s t : State} (live : t.live = s.live) (h : s.running = true) : t.running = true := by
  unfold State.running at *
  rwa [live]

/-- A switch-over that is due makes its bank LIVE; any other leaves the live bank (R140). -/
theorem State.running_installDue (s : State) (h : s.running = true) : s.installDue.running = true := by
  unfold State.installDue
  split
  · exact h
  · split
    · rw [State.running, (s.installBank_members _).1]
      rfl
    · exact h

theorem keptBanks_running : KeptBanks (fun s => s.running = true) where
  same _ _ h same := State.running_of_live same.live h
  adopt _ _ _ := State.running_of_live (by simp)
  unclaim _ := State.running_of_live (by simp)
  reject _ := State.running_of_live (by simp)
  install s := s.running_installDue
  abandon _ := State.running_of_live (by simp)
  capture _ := State.running_of_live (by simp)
  write _ := State.running_of_live (by simp)

/-- Settles O57: no operation on the banks ends RUNNING, and a block start is made of such operations. -/
theorem runningEndsOnlyAtPowerOn : Obligations.RunningEndsOnlyAtPowerOn := by
  intro c s t e on running
  refine keptBanks_running.exec (fun u r h => ?_) c s t on running e
  exact keptBanks_running.blockStart u r
    (keptBanks_running.boundary u r (State.running_of_live u.ended_live h))

/-! ### The bank state words (R131) -/

/-- A captured snapshot fits its buffer (R180). -/
abbrev State.captureFits (s : State) : Prop := ∀ c, s.meter.capture = some c → ∀ w ∈ c.words, w.1 < 0x400

/-- The state words stay true where the live bank and the bank under adoption stay. -/
theorem State.bankStatesAgree_of_banks {s t : State} (h : s.bankStatesAgree) (canonical : t.mem.wf)
    (room : t.routes.length ≤ 160) (fits : t.captureFits) (word : ∀ b, t.word (bankBase b) = s.word (bankBase b))
    (live : t.live = s.live) (bank : t.adoption.map (·.bank) = s.adoption.map (·.bank)) : t.bankStatesAgree := by
  obtain ⟨_, _, _, states, apart⟩ := h
  have liveBank : t.liveBank = s.liveBank := by rw [State.liveBank, live, State.liveBank]
  refine ⟨canonical, room, fits, fun b => ?_, fun a adopting => ?_⟩
  · rw [word, states, State.bankStateDue, State.bankStateDue, liveBank, bank]
  · rw [adopting, Option.map_some] at bank
    obtain ⟨a', adopting', same⟩ := Option.map_eq_some_iff.1 bank.symm
    rw [liveBank, ← same]
    exact apart a' adopting'

theorem State.bankStatesAgree_same {s t : State} (h : s.bankStatesAgree) (same : SameBanks s t) :
    t.bankStatesAgree := by
  have ⟨canonical, room, fits, _⟩ := h
  refine State.bankStatesAgree_of_banks h (same.canonical canonical) (same.room room) ?_ same.word same.live
    (by rw [same.adoption])
  unfold State.captureFits
  rw [same.capture]
  exact fits

/-- The other bank's state word is none of a bank's first five words. -/
theorem bankBase_apart {b c : BankId} (apart : b ≠ c) : bankBase b < bankBase c ∨ bankBase c + 4 < bankBase b := by
  cases b <;> cases c <;> simp_all [bankBase]

/-- A bank that ends its adoption goes to EDIT, the other stands as it was (R139, R144). -/
theorem State.bankStatesAgree_freed {s t : State} {a : Adoption} (adopting : s.adoption = some a) (canonical : t.mem.wf)
    (live : t.live = s.live) (free : t.adoption = none) (meter : t.meter = s.meter) (routes : t.routes = s.routes)
    (edit : t.word (bankBase a.bank) = 0) (other : ∀ b, b ≠ a.bank → t.word (bankBase b) = s.word (bankBase b))
    (h : s.bankStatesAgree) : t.bankStatesAgree := by
  obtain ⟨_, room, fits, states, apart⟩ := h
  have liveBank : t.liveBank = s.liveBank := by rw [State.liveBank, live, State.liveBank]
  refine ⟨canonical, routes ▸ room, ?_, fun b => ?_, ?_⟩
  · rw [meter]
    exact fits
  · unfold State.bankStateDue
    rw [liveBank, free, Option.map_none, if_neg (show (none : Option BankId) ≠ some b by nofun)]
    by_cases same : b = a.bank
    · rw [same, edit, if_neg (apart a adopting)]
      rfl
    · have unadopted : s.adoption.map (·.bank) ≠ some b := by
        rw [adopting, Option.map_some]
        exact fun e => same (Option.some.inj e).symm
      rw [other b same, states, State.bankStateDue, if_neg unadopted]
  · rw [free]
    nofun

/-- A BANK_ADOPT that passes its checks names a bank that is not LIVE, with no adoption in progress (R135). -/
theorem State.free_of_bankAdopt {s : State} {item : CueItem} (h : s.bankAdoptFault item = none) :
    s.adoption = none ∧ namedBank (cueBody item) ≠ s.liveBank := by
  obtain ⟨body, read, passed⟩ := (checkedBody_none _ _).1 h
  have free := passed (s.adoptBusy, .busy, 0) (by simp)
  have other := passed (!present body 0 || namedBank body == s.liveBank, .badTarget, 0) (by simp)
  refine ⟨?_, ?_⟩
  · simpa [State.adoptBusy] using (Bool.or_eq_false_iff.1 free).1
  · rw [cueBody, read]
    simpa using (Bool.or_eq_false_iff.1 other).2

theorem State.bankStatesAgree_adopt {s : State} {item : CueItem} (passed : s.bankAdoptFault item = none)
    (h : s.bankStatesAgree) : (s.carryBankAdopt item).bankStatesAgree := by
  obtain ⟨free, other⟩ := State.free_of_bankAdopt passed
  unfold State.carryBankAdopt
  split
  case h_2 => exact h
  rename_i bank named
  rw [named] at other
  obtain ⟨canonical, room, fits, states, _⟩ := h
  have liveBank : (s.beginAdoption item bank).liveBank = s.liveBank := rfl
  refine ⟨Memory.writeAll_wf _ _ canonical, room, fits, fun b => ?_, fun a adopting => ?_⟩
  · rw [s.beginAdoption_word item bank canonical]
    unfold State.bankStateDue
    rw [liveBank, show (s.beginAdoption item bank).adoption.map (·.bank) = some bank from rfl]
    by_cases same : b = bank
    · rw [same, if_pos rfl, if_neg (Ne.symm other), if_pos rfl]
      rfl
    · have away := bankBase_apart same
      rw [if_neg (bankBase_ne same), if_neg (by omega), states, State.bankStateDue, free]
      simp [Ne.symm same]
  · obtain rfl := (Option.some.inj adopting).symm
    exact Ne.symm other

theorem State.bankStatesAgree_reject {s : State} (h : s.bankStatesAgree) : s.bankReject.bankStatesAgree := by
  unfold State.bankReject
  split
  · exact h
  · rename_i a adopting
    split
    · exact h
    · rename_i reason addr _
      obtain ⟨wf, ⟨edit, _⟩, _⟩ := s.rejectBank_ends a reason addr h.1
      refine State.bankStatesAgree_freed adopting wf (by simp) (by simp [State.rejectBank]) (by simp) (by simp) edit
        (fun b apart => ?_) h
      have low := bankBase_bounds b
      exact s.rejectBank_word_away a reason addr h.1 _ (by omega) (bankBase_apart apart)

theorem State.bankStatesAgree_abandon {s : State} (h : s.bankStatesAgree) : s.abandonAdoption.bankStatesAgree := by
  cases adopting : s.adoption with
  | none =>
    have same : s.abandonAdoption = s := by rw [State.abandonAdoption, adopting]
    rwa [same]
  | some a =>
    obtain ⟨free, edit, _, _, other, _⟩ := s.abandonAdoption_ends a adopting h.1
    refine State.bankStatesAgree_freed adopting (State.abandonAdoption_wf h.1) (by simp) free (by simp) (by simp) edit
      (fun b apart => other _ (bankBase_ne apart) (fun k _ => outcomeAddrs_below k ?_)) h
    have low := bankBase_bounds b
    omega

/-- A word above the slots reads after a switch-over what its header cells have left there. -/
theorem State.installBank_word (s : State) (a : Adoption) (canonical : s.mem.wf) (w : Nat) (high : 0x440 ≤ w) :
    (s.installBank a).word w = (s.storeAll (switchCells a s.liveBank)).word w := by
  have told := State.outcome_word_away (s.switched a) a.origin a.claim (clampCode a.clampCount) a.clampCount
    (s.switched_wf a canonical) w (fun k _ => outcomeAddrs_below k high)
  have stored : (s.switched a).word w = (s.storeAll (switchCells a s.liveBank)).word w := by
    rw [State.word, (s.switched_members a).1]
    rfl
  exact Eq.trans rfl (told.trans stored)

/-- A switch-over makes its bank LIVE and the bank that was LIVE EDIT (R140). -/
theorem State.bankStatesAgree_installBank {s : State} {a : Adoption} (adopting : s.adoption = some a)
    (h : s.bankStatesAgree) : (s.installBank a).bankStatesAgree := by
  obtain ⟨canonical, room, fits, states, _⟩ := h
  obtain ⟨wf, ⟨adopted, _⟩, old, _⟩ := s.installBank_ends a canonical
  obtain ⟨_, _, _, _, _, _, stands⟩ := s.switchCells_header a canonical
  obtain ⟨live, free, _, _, routes, _, _, _, _, meter, _⟩ := s.installBank_members a
  refine ⟨wf, routes ▸ room, ?_, fun b => ?_, by rw [free]; nofun⟩
  · rw [meter]
    exact fits
  · have due : (s.installBank a).bankStateDue b = if a.bank = b then bankLive else bankEdit := by
      simp [State.bankStateDue, State.liveBank, live, free]
    rw [due]
    by_cases same : a.bank = b
    · rw [if_pos same, ← same, adopted]
      rfl
    rw [if_neg same]
    by_cases was : s.liveBank = some b
    · rw [old b was (Ne.symm same)]
      rfl
    · have low := bankBase_bounds b
      have unadopted : s.adoption.map (·.bank) ≠ some b := by
        rw [adopting, Option.map_some]
        exact fun e => same (Option.some.inj e)
      rw [s.installBank_word a canonical _ (by omega), stands _ (bankBase_apart (Ne.symm same)), states,
        State.bankStateDue, if_neg was, if_neg unadopted]
      intro c live same
      cases b <;> cases c <;> first | exact was live | exact absurd same (by decide)

theorem State.bankStatesAgree_install {s : State} (h : s.bankStatesAgree) : s.installDue.bankStatesAgree := by
  unfold State.installDue
  split
  · exact h
  · split
    · exact State.bankStatesAgree_installBank (by assumption) h
    · exact h

/-! ### The captured snapshot (R180 to R182) -/

/-- The words of a snapshot fit a buffer with a list of at most 160 routes (R180). -/
theorem State.snapshotWords_fit (s : State) (room : s.routes.length ≤ 160) (w : Nat × Word) (h : w ∈ s.snapshotWords) :
    w.1 < 0x400 := by
  simp only [State.snapshotWords, List.mem_append, List.mem_flatMap] at h
  rcases h with ((header | ⟨i, _, source⟩) | ⟨z, _, zone⟩) | ⟨⟨e, k⟩, listed, route⟩
  · simp only [State.snapshotHeader, List.mem_cons, List.not_mem_nil, or_false] at header
    rcases header with rfl | rfl | rfl | rfl | rfl | rfl | rfl | rfl | rfl | rfl <;> dsimp only <;> omega
  · have small := i.isLt
    simp only [State.snapshotSource, List.mem_cons, List.not_mem_nil, or_false] at source
    rcases source with rfl | rfl | rfl | rfl <;> dsimp only <;> omega
  · have small := z.isLt
    simp only [State.snapshotZone, List.mem_cons, List.not_mem_nil, or_false] at zone
    rcases zone with rfl | rfl <;> dsimp only <;> omega
  · have small := (List.mem_zipIdx listed).2.1
    simp only [routeRecord, List.mem_cons, List.not_mem_nil, or_false] at route
    rcases route with rfl | rfl | rfl | rfl <;> dsimp only <;> omega

theorem State.bankStatesAgree_capture {s : State} (h : s.bankStatesAgree) : s.snapshotTime.bankStatesAgree := by
  have counted : (s.withMeter { s.meter with periodCount := 0 }).bankStatesAgree := h
  unfold State.snapshotTime
  split
  case isFalse => exact h
  unfold State.takeSnapshot
  dsimp only
  split
  · rename_i b _
    let u := s.withMeter { s.meter with periodCount := 0 }
    have captured : (u.withMeter { u.meter.fresh with
        capture := some { buffer := b, words := u.snapshotWords } }).bankStatesAgree := by
      obtain ⟨canonical, room, _, states, apart⟩ := counted
      refine ⟨canonical, room, fun c taken => ?_, states, apart⟩
      obtain rfl := (Option.some.inj taken).symm
      exact u.snapshotWords_fit room
    have high := bufferBase_high b
    exact State.bankStatesAgree_same captured (State.sameBanks_store _ _ _ (.inr (by omega)))
  · exact counted

theorem State.bankStatesAgree_write {s : State} (h : s.bankStatesAgree) : s.snapshotWrite.bankStatesAgree := by
  unfold State.snapshotWrite
  split
  · exact h
  · rename_i c _
    have high := bufferBase_high c.buffer
    have stored := State.bankStatesAgree_same h (s.sameBanks_storeAll
      (c.words.map (fun w => (bufferBase c.buffer + w.1, w.2)) ++ [(bufferBase c.buffer, bufferFull)])
      (fun d hd => .inr (by
        rcases List.mem_append.1 hd with body | last
        · obtain ⟨x, _, rfl⟩ := List.mem_map.1 body
          dsimp only
          omega
        · rw [List.mem_singleton.1 last]
          dsimp only
          omega)))
    obtain ⟨canonical, room, _, states, apart⟩ := stored
    exact ⟨canonical, room, nofun, states, apart⟩

/-! ### The invariants -/

theorem keptBanks_bankStatesAgree : KeptBanks State.bankStatesAgree where
  same _ _ := State.bankStatesAgree_same
  adopt _ _ := State.bankStatesAgree_adopt
  unclaim s h := by
    have ⟨canonical, room, fits, _⟩ := h
    refine State.bankStatesAgree_of_banks h canonical room fits (fun _ => rfl) rfl ?_
    simp [State.portInit, Function.comp_def]
  reject _ := State.bankStatesAgree_reject
  install _ := State.bankStatesAgree_install
  abandon _ := State.bankStatesAgree_abandon
  capture _ := State.bankStatesAgree_capture
  write _ := State.bankStatesAgree_write

theorem Adoption.validatePart_bank (a : Adoption) (m : Memory) : (a.validatePart m).bank = a.bank := by
  by_cases due : a.part < 8 ∧ a.illegal = none
  · have same := (a.examined_cue m).1
    rw [a.validatePart_eq m due.1 due.2]
    generalize a.examined m = b at same
    exact same
  · rw [Adoption.validatePart, if_neg due]

/-- The end of a block leaves the captured snapshot to be written (R182). -/
theorem State.ended_capture (s : State) : s.ended.meter.capture = s.meter.capture := by
  have swept : s.finishSweep.meter = s.meter := by simp [State.finishSweep]
  have zones : ∀ u : State, u.endZones.meter.capture = u.meter.capture := by
    intro u
    unfold State.endZones
    split <;> simp
  have handed : s.ended.meter = s.finishSweep.measureLevels.endZones.meter := rfl
  rw [handed, zones, ← swept]
  rfl

/-- The end of a block changes no bank: it examines a part of the one under adoption (R137). -/
theorem State.bankStatesAgree_ended {s : State} (h : s.bankStatesAgree) : s.ended.bankStatesAgree := by
  have ⟨canonical, room, fits, _⟩ := h
  have routes : s.ended.routes = s.routes := by simp [State.ended, State.endBlock, State.nextBlock, State.finishSweep]
  have adoption : s.ended.adoption = s.adoption.map (fun a => a.validatePart s.finishSweep.measureLevels.endZones.mem) := by
    simp [State.ended, State.nextBlock, State.endBlock, State.validate, State.measureLevels]
  refine State.bankStatesAgree_of_banks h (s.ended_wf canonical) (routes ▸ room) ?_ (fun b => s.ended_word _ ?_)
    s.ended_live ?_
  · unfold State.captureFits
    rw [s.ended_capture]
    exact fits
  · have low := bankBase_bounds b
    omega
  · rw [adoption, Option.map_map]
    exact Option.map_congr (fun a _ => a.validatePart_bank _)

theorem State.reset_bankStatesAgree : State.reset.bankStatesAgree :=
  ⟨Memory.wf_nil, Nat.zero_le _, nofun, fun b => by cases b <;> rfl, nofun⟩

/-! ### An adoption runs (R137, R139, R140) -/

theorem State.adoptionRuns_of_adoption {s t : State} (h : s.adoptionRuns) (adoption : t.adoption = s.adoption) :
    t.adoptionRuns := by
  unfold State.adoptionRuns
  rw [adoption]
  exact h

theorem State.adoptionRuns_of_free {t : State} (free : t.adoption = none) : t.adoptionRuns := by
  unfold State.adoptionRuns
  rw [free]
  nofun

theorem keptBanks_adoptionRuns : KeptBanks State.adoptionRuns where
  same _ _ h same := State.adoptionRuns_of_adoption h same.adoption
  adopt s item _ h := by
    unfold State.carryBankAdopt
    split
    · intro a adopting
      obtain rfl := (Option.some.inj adopting).symm
      exact ⟨Nat.zero_lt_succ _, rfl⟩
    · exact h
  unclaim s h a adopting := by
    obtain ⟨a', adopting', rfl⟩ := Option.map_eq_some_iff.1 adopting
    exact h a' adopting'
  reject s h := by
    unfold State.bankReject
    (repeat' split)
    · exact h
    · exact h
    · exact State.adoptionRuns_of_free (by simp [State.rejectBank])
  install s h := by
    unfold State.installDue
    (repeat' split)
    · exact h
    · exact State.adoptionRuns_of_free (s.installBank_members _).2.1
    · exact h
  abandon s h := by
    unfold State.abandonAdoption
    split
    · exact h
    · exact State.adoptionRuns_of_free (by simp)
  capture _ h := State.adoptionRuns_of_adoption h (by simp)
  write _ h := State.adoptionRuns_of_adoption h (by simp)

/-- The boundary ends an adoption whose last part is examined, or that has found an illegal field (R139, R140). -/
theorem State.adoptionRuns_boundary {s : State} (r : BlockRaces) (runs : s.adoptionRuns) :
    (s.boundary r).adoptionRuns := by
  obtain ⟨_, adoption, _⟩ := s.boundary_banked r runs
  unfold State.adoptionRuns
  rw [adoption]
  split
  case isTrue => nofun
  rename_i goesOn
  simp only [Bool.or_eq_true, not_or, Bool.not_eq_true] at goesOn
  obtain ⟨⟨plain, switches⟩, rejects⟩ := goesOn
  rw [s.ended_adoption runs]
  intro x next
  obtain ⟨a, adopting, rfl⟩ := Option.map_eq_some_iff.1 next
  have sound : (a.examined s.mem).illegal = none := by
    simpa [State.rejectsAt, adopting, plain] using rejects
  have unfinished : a.part ≠ 7 := by
    simpa [State.switchesAt, adopting, plain, sound] using switches
  have part := (runs a adopting).1
  generalize a.examined s.mem = x at sound
  exact ⟨by dsimp only; omega, sound⟩

/-- An invariant of the bank unit that stands at power-on and at the cues of a block start is kept by every step. -/
theorem KeptBanks.keptByStep {P : State → Prop} (k : KeptBanks P)
    (on : ∀ (s : State) (strapHigh : Bool), P (s.powered strapHigh))
    (boundary : ∀ s r, P s → P (s.boundary r)) : KeptByStep P := by
  intro s t h e
  unfold step at e
  split at e
  · exact Host.Outcome.next.inj e ▸ h
  · rename_i c rest _
    have waiting : P { s with pending := rest } := k.members h rfl rfl rfl rfl rfl
    by_cases reset : ∃ strapHigh, c = .powerOnReset strapHigh
    · obtain ⟨strapHigh, rfl⟩ := reset
      obtain rfl := (Host.Outcome.next.inj e).symm
      exact on _ strapHigh
    · exact k.exec (fun u r h => k.blockStart u r (boundary u r h)) c _ t (fun strapHigh same => reset ⟨strapHigh, same⟩)
        waiting e

/-- Settles O58: the state words and the running adoption through every operation on the banks, and through
the close of a block. -/
theorem bankStatesStayTrue : Obligations.BankStatesStayTrue :=
  ⟨keptBanks_bankStatesAgree.keptByStep (fun _ _ => State.reset_bankStatesAgree)
      (fun s r h => keptBanks_bankStatesAgree.boundary s r (State.bankStatesAgree_ended h)),
    keptBanks_adoptionRuns.keptByStep (fun _ _ => State.adoptionRuns_of_free rfl)
      (fun _ r => State.adoptionRuns_boundary r)⟩

end Sys2Proof.Machine
end

section
/-! The fields of a bank by their offsets (O41). -/

namespace Sys2Proof.Machine

/-! ### Where each field stands (section 9.5) -/

/-- The place of an offset in a bank, with the field that stands there. -/
inductive BankPlace (off : Nat) : BankField → Prop
  | global (k : Fin 21) (here : off = 0x10 + k.val) : BankPlace off (globalFields.getD k.val .unlisted)
  | source (i : Fin 16) (k : Fin 8) (here : off = 0x40 + 8 * i.val + k.val) :
      BankPlace off (sourceFields.getD k.val .unlisted)
  | row (here : 0xC0 ≤ off ∧ off ≤ 0x1BF) : BankPlace off (.unsigned 0 2047)
  | priority (here : 0x1C0 ≤ off ∧ off ≤ 0x1C7) : BankPlace off (.unsigned 0 7)
  | duck (here : 0x1C8 ≤ off ∧ off ≤ 0x1CF) : BankPlace off (.unsigned 0 192)
  | call (here : 0x200 ≤ off ∧ off ≤ 0x3FF) : BankPlace off .asItStands
  | zone (z : Fin 24) (k : Fin 32) (here : off = 0x400 + 32 * z.val + k.val) :
      BankPlace off (zoneFields.getD k.val .unlisted)
  | coupling (here : 0x700 ≤ off ∧ off ≤ 0x87F) : BankPlace off .coupling
  | gap (here : off < 0x10 ∨ (0x24 < off ∧ off < 0x40) ∨ (0x1CF < off ∧ off < 0x200) ∨ 0x87F < off) :
      BankPlace off .unlisted

theorem bankField_place (off : Nat) : BankPlace off (bankField off) := by
  unfold bankField
  split
  · exact .global ⟨off - 0x10, by omega⟩ (by dsimp only; omega)
  split
  · exact .source ⟨(off - 0x40) / 8, by omega⟩ ⟨(off - 0x40) % 8, by omega⟩ (by dsimp only; omega)
  split
  · exact .row (by assumption)
  split
  · exact .priority (by assumption)
  split
  · exact .duck (by assumption)
  split
  · exact .call (by assumption)
  split
  · exact .zone ⟨(off - 0x400) / 32, by omega⟩ ⟨(off - 0x400) % 32, by omega⟩ (by dsimp only; omega)
  split
  · exact .coupling (by assumption)
  · exact .gap (by omega)

/-- The call fields stand as they are (section 9.5). -/
theorem bankField_call (off : Nat) (low : 0x200 ≤ off) (high : off ≤ 0x3FF) : bankField off = .asItStands := by
  unfold bankField
  rw [if_neg (by omega), if_neg (by omega), if_neg (by omega), if_neg (by omega), if_neg (by omega),
    if_pos ⟨low, high⟩]

/-- The only field of the range -120..-12 is the probe code (R133). -/
theorem bankField_probeCode (off : Nat) : bankField off = .signed (-120) (-12) ↔ off = 0x020 := by
  have globals : ∀ k : Fin 21, globalFields.getD k.val .unlisted = .signed (-120) (-12) ↔ k.val = 16 := by decide
  have sources : ∀ k : Fin 8, sourceFields.getD k.val .unlisted ≠ .signed (-120) (-12) := by decide
  have zones : ∀ k : Fin 32, zoneFields.getD k.val .unlisted ≠ .signed (-120) (-12) := by decide
  have place := bankField_place off
  generalize bankField off = f at place ⊢
  cases place with
  | global k here => rw [globals]; omega
  | source i k here => exact iff_of_false (sources k) (by omega)
  | zone z k here => exact iff_of_false (zones k) (by omega)
  | row | priority | duck | call | coupling | gap => exact iff_of_false nofun (by omega)

/-- The fields of the range -512..511 are the zones' trims (R134). -/
theorem bankField_trim (off : Nat) : bankField off = .signed (-512) 511 ↔ ∃ z : Fin 24, off = 0x405 + 32 * z.val := by
  have globals : ∀ k : Fin 21, globalFields.getD k.val .unlisted ≠ .signed (-512) 511 := by decide
  have sources : ∀ k : Fin 8, sourceFields.getD k.val .unlisted ≠ .signed (-512) 511 := by decide
  have zones : ∀ k : Fin 32, zoneFields.getD k.val .unlisted = .signed (-512) 511 ↔ k.val = 5 := by decide
  have place := bankField_place off
  generalize bankField off = f at place ⊢
  cases place with
  | global k here => exact iff_of_false (globals k) (by rintro ⟨z, _⟩; omega)
  | source i k here => exact iff_of_false (sources k) (by rintro ⟨z, _⟩; omega)
  | zone z k here => exact (zones k).trans ⟨fun _ => ⟨z, by omega⟩, by rintro ⟨y, _⟩; omega⟩
  | row | priority | duck | call | coupling | gap => exact iff_of_false nofun (by rintro ⟨z, _⟩; omega)

/-- The gains are the sources' faders and the zones' levels (R134). -/
theorem bankField_gain (off : Nat) : bankField off = .gain
    ↔ (∃ i : Fin 16, off = 0x042 + 8 * i.val) ∨ ∃ z : Fin 24, off = 0x402 + 32 * z.val := by
  have globals : ∀ k : Fin 21, globalFields.getD k.val .unlisted ≠ .gain := by decide
  have sources : ∀ k : Fin 8, sourceFields.getD k.val .unlisted = .gain ↔ k.val = 2 := by decide
  have zones : ∀ k : Fin 32, zoneFields.getD k.val .unlisted = .gain ↔ k.val = 2 := by decide
  have place := bankField_place off
  generalize bankField off = f at place ⊢
  cases place with
  | global k here => exact iff_of_false (globals k) (by rintro (⟨i, _⟩ | ⟨z, _⟩) <;> omega)
  | source i k here =>
    exact (sources k).trans ⟨fun _ => .inl ⟨i, by omega⟩, by rintro (⟨j, _⟩ | ⟨z, _⟩) <;> omega⟩
  | zone z k here =>
    exact (zones k).trans ⟨fun _ => .inr ⟨z, by omega⟩, by rintro (⟨i, _⟩ | ⟨y, _⟩) <;> omega⟩
  | row | priority | duck | call | coupling | gap =>
    exact iff_of_false nofun (by rintro (⟨i, _⟩ | ⟨z, _⟩) <;> omega)

/-- The couplings are the last table of a bank (R134). -/
theorem bankField_coupling_iff (off : Nat) : bankField off = .coupling ↔ 0x700 ≤ off ∧ off ≤ 0x87F := by
  have globals : ∀ k : Fin 21, globalFields.getD k.val .unlisted ≠ .coupling := by decide
  have sources : ∀ k : Fin 8, sourceFields.getD k.val .unlisted ≠ .coupling := by decide
  have zones : ∀ k : Fin 32, zoneFields.getD k.val .unlisted ≠ .coupling := by decide
  have place := bankField_place off
  generalize bankField off = f at place ⊢
  cases place with
  | global k here => exact iff_of_false (globals k) (by omega)
  | source i k here => exact iff_of_false (sources k) (by omega)
  | zone z k here => exact iff_of_false (zones k) (by omega)
  | coupling here => exact iff_of_true rfl here
  | row | priority | duck | call | gap => exact iff_of_false nofun (by omega)

/-- The words that no table lists: the header, the words between the tables, and the last of each zone record. -/
theorem bankField_unlisted (off : Nat) : bankField off = .unlisted ↔ off < 0x010 ∨ (0x024 < off ∧ off < 0x040)
    ∨ (0x1CF < off ∧ off < 0x200) ∨ (0x400 ≤ off ∧ off ≤ 0x6FF ∧ 27 < (off - 0x400) % 32) ∨ 0x87F < off := by
  have globals : ∀ k : Fin 21, globalFields.getD k.val .unlisted ≠ .unlisted := by decide
  have sources : ∀ k : Fin 8, sourceFields.getD k.val .unlisted ≠ .unlisted := by decide
  have zones : ∀ k : Fin 32, zoneFields.getD k.val .unlisted = .unlisted ↔ 27 < k.val := by decide
  have place := bankField_place off
  generalize bankField off = f at place ⊢
  cases place with
  | global k here => exact iff_of_false (globals k) (by omega)
  | source i k here => exact iff_of_false (sources k) (by omega)
  | zone z k here => rw [zones]; omega
  | gap here => exact iff_of_true rfl (by omega)
  | row | priority | duck | call | coupling => exact iff_of_false nofun (by omega)

/-- A record of fields is read from a run of offsets. -/
theorem bankFields_map {fields : List BankField} {base n : Nat}
    (at_k : ∀ k, k < n → bankField (base + k) = fields.getD k .unlisted) :
    (List.range n).map (fun k => bankField (base + k)) = (List.range n).map (fun k => fields.getD k .unlisted) :=
  List.map_congr_left (fun k hk => at_k k (List.mem_range.1 hk))

/-! ### What a field makes of a word (R133, R134, R138) -/

theorem BankField.clamps_eq_false (f : BankField) (w : Word) : f.clamps w = false ↔ f.clamped w = w := by
  simp [BankField.clamps]

theorem signedWord_toInt_self (w : Word) : signedWord w.toInt = w := BitVec.ofInt_toInt

/-- An unsigned field goes to the nearer end of its range, and is clamped outside it. -/
theorem BankField.unsigned_clamped {lo hi : Nat} (order : lo ≤ hi) (word : hi < 65536) (w : Word) :
    ((BankField.unsigned lo hi).clamped w).toNat = max lo (min hi w.toNat)
    ∧ ((BankField.unsigned lo hi).clamps w = false ↔ lo ≤ w.toNat ∧ w.toNat ≤ hi) := by
  have value : ((BankField.unsigned lo hi).clamped w).toNat = max lo (min hi w.toNat) := by
    rw [BankField.clamped, clampNat_eq _ _ _ order, natWord_toNat _ (by omega)]
  refine ⟨value, fun inside => BankField.unsigned_range ⟨order, word⟩ ⟨inside, rfl⟩, fun inside => ?_⟩
  rw [BankField.clamps_eq_false]
  exact BitVec.eq_of_toNat_eq (value.trans (by omega))

/-- A signed field goes to the nearer end of its range, and is clamped outside it. -/
theorem BankField.signed_clamped {lo hi : Int} (order : lo ≤ hi) (low : -32768 ≤ lo) (high : hi ≤ 32767) (w : Word) :
    ((BankField.signed lo hi).clamped w).toInt = max lo (min hi w.toInt)
    ∧ ((BankField.signed lo hi).clamps w = false ↔ lo ≤ w.toInt ∧ w.toInt ≤ hi) := by
  have value : ((BankField.signed lo hi).clamped w).toInt = max lo (min hi w.toInt) := by
    rw [BankField.clamped, clampInt_eq _ _ _ order, signedWord_toInt _ (by omega) (by omega)]
  refine ⟨value, fun inside => BankField.signed_range ⟨low, order, high⟩ ⟨inside, rfl⟩, fun inside => ?_⟩
  rw [BankField.clamps_eq_false]
  exact BitVec.eq_of_toInt_eq (value.trans (by omega))

/-- A gain below -192 becomes OFF, one above +24 becomes +24; OFF is a value of its own. -/
theorem BankField.gain_clamped (w : Word) :
    (w.toInt < -192 → BankField.gain.clamped w = 0x8000) ∧ (24 < w.toInt → BankField.gain.clamped w = 24)
    ∧ (-192 ≤ w.toInt → w.toInt ≤ 24 → BankField.gain.clamped w = w)
    ∧ (BankField.gain.clamps w = false ↔ w = 0x8000 ∨ (-192 ≤ w.toInt ∧ w.toInt ≤ 24)) := by
  have below : w.toInt < -192 → BankField.gain.clamped w = 0x8000 := fun low => by
    rw [BankField.clamped, gainOfWord, if_pos low]
    rfl
  have above : 24 < w.toInt → BankField.gain.clamped w = 24 := fun high => by
    rw [BankField.clamped, gainOfWord, if_neg (by omega), if_pos high]
    rfl
  have inside : -192 ≤ w.toInt → w.toInt ≤ 24 → BankField.gain.clamped w = w := fun low high => by
    rw [BankField.clamped, gainOfWord, if_neg (by omega), if_neg (by omega)]
    exact signedWord_toInt_self w
  refine ⟨below, above, inside, ?_⟩
  rw [BankField.clamps_eq_false]
  constructor
  · intro same
    by_cases low : w.toInt < -192
    · exact .inl (same.symm.trans (below low))
    by_cases high : 24 < w.toInt
    · have top : w = 24 := same.symm.trans (above high)
      rw [top] at high
      exact absurd high (by decide)
    · exact .inr ⟨by omega, by omega⟩
  · rintro (rfl | ⟨low, high⟩)
    · decide
    · exact inside low high

/-- A measured coupling goes to the nearer end of -192..192; an unmeasured one is a value of its own. -/
theorem BankField.coupling_clamped (w : Word) :
    (w = 0x7FFF → BankField.coupling.clamped w = 0x7FFF)
    ∧ (w ≠ 0x7FFF → (BankField.coupling.clamped w).toInt = max (-192) (min 192 w.toInt))
    ∧ (BankField.coupling.clamps w = false ↔ w = 0x7FFF ∨ (-192 ≤ w.toInt ∧ w.toInt ≤ 192)) := by
  have measured : w ≠ 0x7FFF → BankField.coupling.clamped w = (BankField.signed (-192) 192).clamped w := fun apart => by
    show (if w = 0x7FFF then w else signedWord (clampInt (-192) 192 w.toInt)) = _
    rw [if_neg apart]
    rfl
  have signed := BankField.signed_clamped (lo := -192) (hi := 192) (by omega) (by omega) (by omega) w
  rw [BankField.clamps_eq_false] at signed
  refine ⟨fun unmeasured => by rw [unmeasured]; rfl, fun apart => (measured apart) ▸ signed.1, ?_⟩
  rw [BankField.clamps_eq_false]
  by_cases unmeasured : w = 0x7FFF
  · exact iff_of_true (by rw [unmeasured]; rfl) (.inl unmeasured)
  · rw [measured unmeasured, signed.2]
    exact ⟨.inr, fun either => either.resolve_left unmeasured⟩

end Sys2Proof.Machine
end

section
/-! The examination of a bank, word by word and part by part (O41). -/

namespace Sys2Proof.Machine

/-! ### The examination of a word (R137, R138) -/

section Examine

variable {a : Adoption} {m : Memory} {off : Nat}

/-- A word that no table lists is not examined. -/
theorem Adoption.examine_unlisted (unlisted : bankField off = .unlisted) : a.examine m off = a := by
  unfold Adoption.examine
  rw [unlisted]
  exact if_pos (Bool.or_true _)

/-- An illegal enumeration stops validation (R137). -/
theorem Adoption.examine_rejected {reason : RejectReason} (sound : a.illegal = none)
    (rejected : (bankField off).rejects (m.read (bankBase a.bank + off)) = some reason) :
    a.examine m off = { a with illegal := some (reason, bankBase a.bank + off) } := by
  have listed : (bankField off).listed = true := by
    cases field : bankField off with
    | unlisted =>
      rw [field] at rejected
      cases rejected
    | _ => rfl
  unfold Adoption.examine
  simp [sound, listed, rejected]

/-- A listed word goes into the staging copy as clamped, and its clamp is counted (R138). -/
theorem Adoption.examine_taken (sound : a.illegal = none) (listed : (bankField off).listed = true)
    (unrejected : (bankField off).rejects (m.read (bankBase a.bank + off)) = none) :
    a.examine m off = { a with
      staging := a.staging.write off ((bankField off).clamped (m.read (bankBase a.bank + off)))
      clampCount := if (bankField off).clamps (m.read (bankBase a.bank + off)) then a.clampCount + 1 else a.clampCount
      firstClamp := if (bankField off).clamps (m.read (bankBase a.bank + off)) && a.clampCount == 0
        then bankBase a.bank + off else a.firstClamp } := by
  unfold Adoption.examine
  simp [sound, listed, unrejected]

/-- What a listed word leaves: its clamp counted, the first clamp noted, validation going on. -/
theorem Adoption.examine_counts (sound : a.illegal = none) (listed : (bankField off).listed = true)
    (unrejected : (bankField off).rejects (m.read (bankBase a.bank + off)) = none) (inRange : Prop) [Decidable inRange]
    (range : (bankField off).clamps (m.read (bankBase a.bank + off)) = false ↔ inRange) :
    (a.examine m off).illegal = none
    ∧ (a.examine m off).clampCount = (if inRange then a.clampCount else a.clampCount + 1)
    ∧ (a.examine m off).firstClamp
      = (if ¬inRange ∧ a.clampCount = 0 then bankBase a.bank + off else a.firstClamp) := by
  rw [Adoption.examine_taken sound listed unrejected]
  dsimp only
  cases clamps : (bankField off).clamps (m.read (bankBase a.bank + off)) with
  | false =>
    have inside := range.1 clamps
    simp [sound, inside]
  | true =>
    have outside : ¬inRange := fun inside => by
      rw [range.2 inside] at clamps
      cases clamps
    simp [sound, outside]

/-- A listed word is read back from the staging copy as clamped. -/
theorem Adoption.examine_read (canonical : a.staging.wf) (inside : off < 4096) (sound : a.illegal = none)
    (listed : (bankField off).listed = true)
    (unrejected : (bankField off).rejects (m.read (bankBase a.bank + off)) = none) :
    (a.examine m off).staging.read off = (bankField off).clamped (m.read (bankBase a.bank + off)) := by
  rw [Adoption.examine_taken sound listed unrejected]
  exact (Memory.read_write _ _ _ _ canonical (by simp only [Config.memoryWords]; omega)).trans (if_pos rfl)

/-- An examination leaves every other word of the staging copy. -/
theorem Adoption.examine_read_other (canonical : a.staging.wf) (sound : a.illegal = none) (off' : Nat)
    (other : off' ≠ off) : (a.examine m off).staging.read off' = a.staging.read off' := by
  cases listed : (bankField off).listed with
  | false =>
    have unlisted : bankField off = .unlisted := by
      cases field : bankField off with
      | unlisted => rfl
      | _ => rw [field] at listed; cases listed
    rw [Adoption.examine_unlisted unlisted]
  | true =>
    cases rejects : (bankField off).rejects (m.read (bankBase a.bank + off)) with
    | some reason => rw [Adoption.examine_rejected sound rejects]
    | none =>
      rw [Adoption.examine_taken sound listed rejects]
      exact Memory.read_write_other _ _ _ _ canonical other

/-- A word taken as it stands counts no clamp. -/
theorem Adoption.examine_stands (canonical : a.staging.wf) (inside : off < 4096) (sound : a.illegal = none)
    (listed : (bankField off).listed = true)
    (unrejected : (bankField off).rejects (m.read (bankBase a.bank + off)) = none)
    (stands : (bankField off).clamped (m.read (bankBase a.bank + off)) = m.read (bankBase a.bank + off)) :
    (a.examine m off).staging.read off = m.read (bankBase a.bank + off)
    ∧ (a.examine m off).clampCount = a.clampCount ∧ (a.examine m off).illegal = none := by
  obtain ⟨goesOn, count, _⟩ := Adoption.examine_counts sound listed unrejected True
    (iff_true_intro ((BankField.clamps_eq_false _ _).2 stands))
  exact ⟨(Adoption.examine_read canonical inside sound listed unrejected).trans stands, count.trans (if_pos trivial), goesOn⟩

end Examine

/-! ### The kinds of field (R133, R134) -/

section Kinds

variable {a : Adoption} {m : Memory} {off : Nat} (canonical : a.staging.wf) (sound : a.illegal = none)
  (inside : off < 4096)

include canonical sound inside

theorem Adoption.examine_enumerated {top : Nat} {reason : RejectReason} (field : bankField off = .enumerated top reason) :
    let w := m.read (bankBase a.bank + off)
    (top < w.toNat → a.examine m off = { a with illegal := some (reason, bankBase a.bank + off) })
    ∧ (w.toNat ≤ top → (a.examine m off).staging.read off = w ∧ (a.examine m off).clampCount = a.clampCount
        ∧ (a.examine m off).illegal = none) := by
  refine ⟨fun beyond => Adoption.examine_rejected sound ?_, fun legal =>
    Adoption.examine_stands canonical inside sound ?_ ?_ ?_⟩
  all_goals rw [field]
  · exact if_pos beyond
  · rfl
  · exact if_neg (by omega)
  · rfl

theorem Adoption.examine_unsigned {lo hi : Nat} (field : bankField off = .unsigned lo hi) (order : lo ≤ hi)
    (word : hi < 65536) :
    let w := m.read (bankBase a.bank + off)
    ((a.examine m off).staging.read off).toNat = max lo (min hi w.toNat) ∧ (a.examine m off).illegal = none
    ∧ (a.examine m off).clampCount = (if lo ≤ w.toNat ∧ w.toNat ≤ hi then a.clampCount else a.clampCount + 1)
    ∧ (a.examine m off).firstClamp
      = (if ¬(lo ≤ w.toNat ∧ w.toNat ≤ hi) ∧ a.clampCount = 0 then bankBase a.bank + off else a.firstClamp) := by
  intro w
  obtain ⟨value, range⟩ := BankField.unsigned_clamped order word w
  have read := Adoption.examine_read (m := m) canonical inside sound (by rw [field]; rfl) (by rw [field]; rfl)
  refine ⟨by rw [read, field]; exact value, ?_⟩
  exact Adoption.examine_counts sound (by rw [field]; rfl) (by rw [field]; rfl) _ (by rw [field]; exact range)

theorem Adoption.examine_signed {lo hi : Int} (field : bankField off = .signed lo hi) (order : lo ≤ hi)
    (low : -32768 ≤ lo) (high : hi ≤ 32767) :
    let w := m.read (bankBase a.bank + off)
    ((a.examine m off).staging.read off).toInt = max lo (min hi w.toInt) ∧ (a.examine m off).illegal = none
    ∧ (a.examine m off).clampCount = (if lo ≤ w.toInt ∧ w.toInt ≤ hi then a.clampCount else a.clampCount + 1)
    ∧ (a.examine m off).firstClamp
      = (if ¬(lo ≤ w.toInt ∧ w.toInt ≤ hi) ∧ a.clampCount = 0 then bankBase a.bank + off else a.firstClamp) := by
  intro w
  obtain ⟨value, range⟩ := BankField.signed_clamped order low high w
  have read := Adoption.examine_read (m := m) canonical inside sound (by rw [field]; rfl) (by rw [field]; rfl)
  refine ⟨by rw [read, field]; exact value, ?_⟩
  exact Adoption.examine_counts sound (by rw [field]; rfl) (by rw [field]; rfl) _ (by rw [field]; exact range)

theorem Adoption.examine_gain (field : bankField off = .gain) :
    let w := m.read (bankBase a.bank + off)
    let inRange := w = 0x8000 ∨ (-192 ≤ w.toInt ∧ w.toInt ≤ 24)
    ((a.examine m off).illegal = none
      ∧ (a.examine m off).clampCount = (if inRange then a.clampCount else a.clampCount + 1)
      ∧ (a.examine m off).firstClamp
        = (if ¬inRange ∧ a.clampCount = 0 then bankBase a.bank + off else a.firstClamp))
    ∧ (w.toInt < -192 → (a.examine m off).staging.read off = 0x8000)
    ∧ (24 < w.toInt → (a.examine m off).staging.read off = 24)
    ∧ (-192 ≤ w.toInt → w.toInt ≤ 24 → (a.examine m off).staging.read off = w) := by
  intro w inRange
  obtain ⟨below, above, stands, range⟩ := BankField.gain_clamped w
  have read := Adoption.examine_read (m := m) canonical inside sound (by rw [field]; rfl) (by rw [field]; rfl)
  rw [field] at read
  exact ⟨Adoption.examine_counts sound (by rw [field]; rfl) (by rw [field]; rfl) _ (by rw [field]; exact range),
    fun low => read.trans (below low), fun high => read.trans (above high),
    fun low high => read.trans (stands low high)⟩

theorem Adoption.examine_coupling (field : bankField off = .coupling) :
    let w := m.read (bankBase a.bank + off)
    let inRange := w = 0x7FFF ∨ (-192 ≤ w.toInt ∧ w.toInt ≤ 192)
    ((a.examine m off).illegal = none
      ∧ (a.examine m off).clampCount = (if inRange then a.clampCount else a.clampCount + 1)
      ∧ (a.examine m off).firstClamp
        = (if ¬inRange ∧ a.clampCount = 0 then bankBase a.bank + off else a.firstClamp))
    ∧ (w = 0x7FFF → (a.examine m off).staging.read off = 0x7FFF)
    ∧ (w ≠ 0x7FFF → ((a.examine m off).staging.read off).toInt = max (-192) (min 192 w.toInt)) := by
  intro w inRange
  obtain ⟨unmeasured, measured, range⟩ := BankField.coupling_clamped w
  have read := Adoption.examine_read (m := m) canonical inside sound (by rw [field]; rfl) (by rw [field]; rfl)
  rw [field] at read
  exact ⟨Adoption.examine_counts sound (by rw [field]; rfl) (by rw [field]; rfl) _ (by rw [field]; exact range),
    fun same => read.trans (unmeasured same), fun apart => (congrArg BitVec.toInt read).trans (measured apart)⟩

end Kinds

/-! ### The part of a block start (R137 to R140) -/

/-- The live bank and its copy are what the engine has of a bank. -/
theorem State.live_ext {s : State} {live : Option LiveBank} (bank : s.liveBank = live.map (·.bank))
    (copy : s.adopted = live.map (·.copy)) : s.live = live := by
  unfold State.liveBank State.adopted at *
  cases here : s.live with
  | none =>
    cases live with
    | none => rfl
    | some l => rw [here] at bank; cases bank
  | some k =>
    cases live with
    | none => rw [here] at bank; cases bank
    | some l =>
      rw [here] at bank copy
      cases k
      cases l
      cases bank
      cases copy
      rfl

section Block

variable {s : State} {r : BlockRaces} {a : Adoption}

/-- With no cue the boundary's adoption is that of the block that begins. -/
theorem State.blockStart_adoption_uncued (swept : s.sweepPos = 33) (uncued : s.takeList = []) :
    (s.blockStart r).adoption = (s.boundary r).adoption := by
  obtain ⟨_, _, _, _, _, adoption, _⟩ := s.blockStart_of_mixed r
  have cued : (s.cued r).adoption = (s.boundary r).adoption := by
    rcases State.cued_uncued (r := r) swept uncued with cued | cued <;> rw [cued] <;> simp
  rw [adoption, ← cued]
  simp [State.mixed, State.followed]

/-- The bank and the copy that a block start leaves LIVE (R140, R141). -/
theorem State.blockStart_live_of (runs : s.adoptionRuns) {live : Option LiveBank}
    (bank : (if s.switchesAt r then s.adoption.map (·.bank) else s.liveBank) = live.map (·.bank))
    (copy : s.copyInForce r = live.map (·.copy)) : (s.blockStart r).live = live := by
  rw [s.blockStart_live r]
  obtain ⟨liveBank, _⟩ := s.boundary_banked r runs
  exact State.live_ext (liveBank.trans bank) ((s.boundary_adopted r runs).trans copy)

end Block

/-- A block start with no reset and no cue examines the next part: the adoption goes on, is switched over after the eighth
part, or ends at an illegal field (R137, R139, R140). -/
theorem State.blockStart_examines {s : State} (r : BlockRaces) {a x : Adoption} (plain : s.port.resetRequest = false)
    (swept : s.sweepPos = 33) (uncued : s.takeList = []) (adopting : s.adoption = some a) (part : a.part < 8)
    (sound : a.illegal = none) (examined : a.examined s.mem = x) :
    (x.illegal = none → a.part < 7 → (s.blockStart r).adoption = some { x with part := a.part + 1 }
      ∧ (s.blockStart r).live = s.live)
    ∧ (x.illegal = none → a.part = 7 → (s.blockStart r).adoption = none
      ∧ (s.blockStart r).live = some { bank := a.bank, copy := bankOf x.staging })
    ∧ (x.illegal ≠ none → (s.blockStart r).adoption = none ∧ (s.blockStart r).live = s.live) := by
  have runs : s.adoptionRuns := fun b adopts => by
    obtain rfl := Option.some.inj (adopting.symm.trans adopts)
    exact ⟨part, sound⟩
  obtain ⟨_, left, _⟩ := s.boundary_banked r runs
  have adoption := (State.blockStart_adoption_uncued (r := r) swept uncued).trans left
  have next := State.ended_adopting runs adopting examined
  have switches : s.switchesAt r = (a.part == 7 && x.illegal.isNone) := by
    simp [State.switchesAt, adopting, examined, plain]
  have rejects : s.rejectsAt r = x.illegal.isSome := by
    simp [State.rejectsAt, adopting, examined, plain]
  have inForce : s.copyInForce r = if s.switchesAt r then some (bankOf x.staging) else s.adopted := by
    simp [State.copyInForce, adopting, examined]
  have stays : s.switchesAt r = false → (s.blockStart r).live = s.live := fun unswitched =>
    State.blockStart_live_of runs (by rw [unswitched]; rfl) (by rw [inForce, unswitched]; rfl)
  rw [plain, rejects] at adoption
  refine ⟨fun legal before => ?_, fun legal last => ?_, fun illegal => ?_⟩
  · have unswitched : s.switchesAt r = false := by
      rw [switches]
      simp
      omega
    rw [unswitched, legal] at adoption
    exact ⟨adoption.trans next, stays unswitched⟩
  · have switched : s.switchesAt r = true := by
      rw [switches]
      simp [last, legal]
    rw [switched] at adoption
    exact ⟨adoption, State.blockStart_live_of runs (by rw [switched, adopting]; rfl) (by rw [inForce, switched]; rfl)⟩
  · have stopped : x.illegal.isSome = true := Option.isSome_iff_ne_none.2 illegal
    have unswitched : s.switchesAt r = false := by
      rw [switches]
      simp
      exact fun _ => stopped
    rw [stopped, Bool.or_true] at adoption
    exact ⟨adoption, stays unswitched⟩

/-- Settles O41: a word by the kind of its field, the fields by their offsets, and the part of a block start. -/
theorem validationExaminesField : Obligations.ValidationExaminesField := by
  refine ⟨fun a m off canonical sound inside => ?_, by decide, fun i => ?_, fun off low high => ?_, fun off low high => ?_,
    fun off low high => ?_, fun off low high => ?_, fun z => ?_, ⟨rfl, rfl⟩, ⟨rfl, rfl, rfl, rfl, rfl, rfl, rfl⟩,
    fun r a s plain swept uncued adopting part sound => ?_⟩
  · intro w t addr first
    exact ⟨fun top reason => Adoption.examine_enumerated canonical sound inside,
      fun lo hi => Adoption.examine_unsigned canonical sound inside,
      fun field => Adoption.examine_stands canonical inside sound (by rw [field]; rfl) (by rw [field]; rfl)
        (by rw [field]; rfl),
      Adoption.examine_gain canonical sound inside,
      fun lo hi => Adoption.examine_signed canonical sound inside,
      Adoption.examine_coupling canonical sound inside, bankField_probeCode off, bankField_trim off, bankField_gain off,
      bankField_coupling_iff off, bankField_unlisted off, Adoption.examine_unlisted,
      Adoption.examine_read_other canonical sound⟩
  · rw [bankFields_map (fun k small => bankField_source i ⟨k, small⟩)]
    rfl
  · obtain ⟨k, rfl⟩ := Nat.exists_eq_add_of_le low
    exact bankField_row k (by omega)
  · obtain ⟨k, rfl⟩ := Nat.exists_eq_add_of_le low
    exact bankField_priority k (by omega)
  · obtain ⟨k, rfl⟩ := Nat.exists_eq_add_of_le low
    exact bankField_duck k (by omega)
  · exact bankField_call off low high
  · rw [bankFields_map (fun k small => bankField_zone z ⟨k, by omega⟩)]
    rfl
  · intro examined
    obtain ⟨goesOn, switched, stopped⟩ := State.blockStart_examines r plain swept uncued adopting part sound rfl
    refine ⟨rfl, _, rfl, goesOn, fun legal last => ?_, stopped⟩
    obtain ⟨free, live⟩ := switched legal last
    exact ⟨free, _, live, bankOf_copied _, rfl⟩

end Sys2Proof.Machine
end

section
/-! The exchange memory through every command (O50). -/

namespace Sys2Proof.Machine

/-- A snapshot time writes the chosen buffer's state word, or nothing (R181). -/
theorem State.snapshotTime_wf {s : State} (canonical : s.mem.wf) : s.snapshotTime.mem.wf := by
  unfold State.snapshotTime State.takeSnapshot
  split
  · dsimp only
    split
    · exact Memory.write_wf _ _ _ canonical
    · exact canonical
  · exact canonical

theorem State.snapshotWrite_wf {s : State} (canonical : s.mem.wf) : s.snapshotWrite.mem.wf := by
  unfold State.snapshotWrite
  split
  · exact canonical
  · exact Memory.writeAll_wf _ _ canonical

/-- What the bank unit's operations and the meter writer make of the memory (R147; log 7). -/
theorem keptBanks_canonical : KeptBanks (fun s => s.mem.wf) where
  same _ _ canonical same := same.canonical canonical
  adopt s item _ canonical := by
    unfold State.carryBankAdopt
    split
    · exact Memory.writeAll_wf _ _ canonical
    · exact canonical
  unclaim _ canonical := canonical
  reject _ := State.bankReject_wf
  install _ := State.installDue_wf
  abandon _ := State.abandonAdoption_wf
  capture _ := State.snapshotTime_wf
  write _ := State.snapshotWrite_wf

/-- Settles O50: every operation that writes words keeps the memory's form, and so do the works of a block's boundary. -/
theorem memoryStaysCanonical : Obligations.MemoryStaysCanonical :=
  keptBanks_canonical.keptByStep (fun _ _ => Memory.wf_nil) (fun _ r => State.boundary_wf r)

end Sys2Proof.Machine
end

section
/-! CALL and the latches through every command (O60). -/

namespace Sys2Proof.Machine

/-! ### Changes that keep CALL and the latches consistent -/

/-- `t` keeps what the invariants of the port say of `s` (R157, R172). -/
structure PortRuns (s t : State) : Prop where
  call : s.callExclusive → t.callExclusive
  rest : s.latchesRest → t.latchesRest

section Runs

variable {s t u : State}

theorem PortRuns.refl (s : State) : PortRuns s s := ⟨id, id⟩

theorem PortRuns.trans (h : PortRuns s t) (k : PortRuns t u) : PortRuns s u := ⟨k.call ∘ h.call, k.rest ∘ h.rest⟩

/-- A change that leaves the latches, or empties them. -/
theorem PortRuns.of_call (width : t.port.width8 = s.port.width8)
    (write : t.port.writeLatch = s.port.writeLatch ∨ t.port.writeLatch = none)
    (read : t.port.readLatch = s.port.readLatch ∨ t.port.readLatch = none) (call : s.callExclusive → t.callExclusive) :
    PortRuns s t where
  call := call
  rest rest narrow := by
    obtain ⟨written, held⟩ := rest (width ▸ narrow)
    exact ⟨write.elim (·.trans written) id, read.elim (·.trans held) id⟩

/-- A change of the port beside CALL that leaves the latches, or empties them. -/
theorem PortRuns.of_latches (width : t.port.width8 = s.port.width8)
    (write : t.port.writeLatch = s.port.writeLatch ∨ t.port.writeLatch = none)
    (read : t.port.readLatch = s.port.readLatch ∨ t.port.readLatch = none)
    (pending : t.port.callPending = s.port.callPending) (result : t.port.callResult = s.port.callResult) :
    PortRuns s t := .of_call width write read (by unfold State.callExclusive; rw [pending, result]; exact id)

theorem PortRuns.of_port (port : t.port = s.port) : PortRuns s t :=
  .of_latches (by rw [port]) (.inl (by rw [port])) (.inl (by rw [port])) (by rw [port]) (by rw [port])

theorem PortRuns.of_reads {ns : List Notice} (reads : ReadsAs s t ns) : PortRuns s t :=
  .of_latches (by rw [reads.port]) (.inl (by rw [reads.port])) (.inl (by rw [reads.port])) (by rw [reads.port])
    (by rw [reads.port])

theorem PortRuns.of_settles (settles : s.settlesTo t) : PortRuns s t := by
  obtain ⟨_, _, _, _, _, _, _, _, rfl⟩ := settles
  exact .of_latches rfl (.inl rfl) (.inl rfl) rfl rfl

end Runs

/-! ### Notices and outcomes (R170, R174, R184) -/

theorem PortRuns.raise {s t : State} (h : PortRuns s t) (n : Notice) : PortRuns s (t.raise n) :=
  h.trans (.of_latches rfl (.inl rfl) (.inl rfl) rfl rfl)

theorem State.portRuns_raiseIf (s : State) (c : Bool) (n : Notice) : PortRuns s (s.raiseIf c n) := by
  unfold State.raiseIf
  split
  · exact (PortRuns.refl s).raise n
  · exact .refl s

/-- No outcome is the one that says a call is in progress (R170, R172). -/
theorem ResultCode.number_ne_inProgress (code : ResultCode) : BitVec.ofNat 4 code.number ≠ inProgress := by
  cases code <;> decide

/-- An outcome ends a call in progress, and leaves one pending or ended as it stood (R174). -/
theorem PortRuns.outcome {s t : State} (h : PortRuns s t) (o : Origin) (claim : Bool) (code : ResultCode) (detail : Nat) :
    PortRuns s (t.outcome o claim code detail) := by
  refine h.trans ?_
  cases o with
  | slot k => exact .of_latches rfl (.inl rfl) (.inl rfl) rfl rfl
  | call =>
    cases claim with
    | true => exact .of_call rfl (.inl rfl) (.inl rfl) (fun _ _ => code.number_ne_inProgress)
    | false => exact .refl t

theorem PortRuns.doneClamped {s t : State} (h : PortRuns s t) (item : CueItem) (clamps : Nat) :
    PortRuns s (t.doneClamped item clamps) := by
  rw [State.doneClamped_eq]
  exact h.outcome ..

theorem State.portRuns_settle (s : State) : PortRuns s s.settle := .of_settles s.settlesTo_settle

/-- What a cue that sets the force modes brings with it. -/
theorem PortRuns.settled {s t : State} (h : PortRuns s t) (before : Fin 16 → ForceMode) :
    PortRuns s (t.followForces before).settle :=
  h.trans (.trans (t := t.followForces before) (.of_port (by simp)) (State.portRuns_settle _))

/-! ### The sweep (R163, R173) -/

/-- The take of a call that is pending ends its pending (R173). -/
theorem State.portRuns_examineNext (s : State) : PortRuns s s.examineNext := by
  unfold State.examineNext
  split
  · unfold State.examineCall
    split
    · exact .of_call rfl (.inl rfl) (.inl rfl) (fun _ => nofun)
    · exact .of_port rfl
  · split
    · exact .of_port (by simp)
    · exact .refl s

theorem State.portRuns_examineMany (s : State) (n : Nat) : PortRuns s (s.examineMany n) :=
  State.examineMany_keeps (P := PortRuns s) (fun t h => h.trans t.portRuns_examineNext) n s (.refl s)

/-! ### Surveys (R125 to R128) -/

theorem State.portRuns_abandonSurvey (s : State) (code : ResultCode) : PortRuns s (s.abandonSurvey code) := by
  have ended : PortRuns s ((s.storeAll (surveyEndHeader s.block 3)).withSurvey s.survey.discarded) := .of_port rfl
  exact (ended.outcome ..).raise .survey

theorem State.portRuns_completeSurvey (s : State) : PortRuns s s.completeSurvey := by
  unfold State.completeSurvey
  exact ((PortRuns.of_port (by simp)).outcome ..).raise .survey

theorem State.portRuns_measureEnd (s : State) : PortRuns s s.measureEnd := by
  unfold State.measureEnd
  (repeat' split)
  · exact s.portRuns_completeSurvey
  · exact .of_port rfl
  · exact .refl s

theorem State.portRuns_tailEnd (s : State) : PortRuns s s.tailEnd := by
  unfold State.tailEnd
  split
  · exact s.portRuns_completeSurvey
  · exact .refl s

theorem State.portRuns_advanceSurvey (s : State) : PortRuns s s.advanceSurvey := by
  unfold State.advanceSurvey
  split
  · exact .of_port (by simp)
  · exact .of_port (by simp)
  · exact s.portRuns_measureEnd
  · exact s.portRuns_tailEnd
  · exact .refl s
  · exact .refl s

/-! ### The bank unit (R139, R140, R144) -/

theorem State.portRuns_bankReject (s : State) : PortRuns s s.bankReject := by
  unfold State.bankReject
  (repeat' split)
  · exact .refl s
  · exact .refl s
  · unfold State.rejectBank
    exact ((PortRuns.of_port (by rfl)).outcome ..).raise .bank

theorem State.portRuns_installDue (s : State) : PortRuns s s.installDue := by
  unfold State.installDue
  (repeat' split)
  · exact .refl s
  · rename_i a _ _
    obtain ⟨_, port, _⟩ := s.switched_members a
    rw [s.installBank_eq]
    exact ((PortRuns.of_port port).outcome ..).raise .bank
  · exact .refl s

theorem State.portRuns_bankOutcome (s : State) : PortRuns s s.bankOutcome := by
  unfold State.bankOutcome
  split
  · exact s.portRuns_installDue.trans (.of_port (by simp))
  · exact s.portRuns_bankReject

theorem State.portRuns_abandonAdoption (s : State) : PortRuns s s.abandonAdoption := by
  unfold State.abandonAdoption
  split
  · exact .refl s
  · exact ((PortRuns.of_port (by rfl)).outcome ..).raise .bank

theorem State.portRuns_resetSurvey (s : State) : PortRuns s s.resetSurvey := by
  unfold State.resetSurvey
  split
  · exact s.portRuns_abandonSurvey _
  · exact .refl s

theorem State.portRuns_carryReset (s : State) : PortRuns s s.carryReset := by
  have served : PortRuns s s.served := .of_latches rfl (.inl rfl) (.inl rfl) rfl rfl
  have ended : PortRuns s s.resetting :=
    served.trans (s.served.portRuns_resetSurvey.trans (State.portRuns_abandonAdoption _))
  obtain ⟨_, _, _, _, _, _, _, _, _, port, _⟩ := s.carryReset_members
  exact ended.trans (.of_port port)

/-! ### Cues -/

theorem State.portRuns_faulted (s : State) (item : CueItem) (f : ResultCode × Nat) : PortRuns s (s.faulted item f) :=
  (PortRuns.refl s).outcome ..

theorem State.portRuns_carrySourceSet (s : State) (item : CueItem) : PortRuns s (s.carrySourceSet item) :=
  (PortRuns.of_port (by simp)).doneClamped item _

theorem State.portRuns_carryZoneSet (s : State) (item : CueItem) : PortRuns s (s.carryZoneSet item) :=
  (PortRuns.of_port (by simp)).doneClamped item _

theorem State.portRuns_carryScenePush (s : State) (item : CueItem) : PortRuns s (s.carryScenePush item) :=
  (PortRuns.of_port (by simp)).doneClamped item _

theorem State.portRuns_carryScenePop (s : State) (item : CueItem) : PortRuns s (s.carryScenePop item) := by
  unfold State.carryScenePop
  split
  · exact .refl s
  · exact (PortRuns.of_port (by simp)).outcome ..

theorem State.portRuns_applySceneClear (s : State) (item : CueItem) : PortRuns s (s.applySceneClear item) := by
  unfold State.applySceneClear
  split
  · exact s.portRuns_faulted item _
  · exact (PortRuns.of_port (by rfl)).outcome ..

theorem State.portRuns_applyBankAdopt (s : State) (item : CueItem) : PortRuns s (s.applyBankAdopt item) := by
  unfold State.applyBankAdopt
  split
  · exact s.portRuns_faulted item _
  · exact .of_port (by simp)

theorem State.portRuns_carrySurveyAbort (s : State) (item : CueItem) : PortRuns s (s.carrySurveyAbort item) := by
  have stopped : PortRuns s s.stopProbe := .of_port (by simp)
  have abandoned := stopped.trans (s.stopProbe.portRuns_abandonSurvey .aborted)
  exact (abandoned.trans (.of_port (by rfl))).outcome ..

theorem State.portRuns_applyItem (s : State) (item : CueItem) : PortRuns s (s.applyItem item) := by
  have carried : ∀ (fault : CueFault) (t : State), PortRuns s t →
      PortRuns s (match fault with
        | some f => s.faulted item f
        | none => t) := by
    intro fault t runs
    cases fault with
    | some f => exact s.portRuns_faulted item f
    | none => exact runs
  unfold State.applyItem
  split
  · exact carried _ _ (s.portRuns_carrySourceSet item)
  · exact carried _ _ (s.portRuns_carryZoneSet item)
  · exact carried _ _ (s.portRuns_carryScenePush item)
  · exact carried _ _ (s.portRuns_carryScenePop item)
  · exact s.portRuns_applySceneClear item
  · exact s.portRuns_applyBankAdopt item
  · exact carried _ _ (.of_port (by simp))
  · exact carried _ _ (s.portRuns_carrySurveyAbort item)
  · exact s.portRuns_faulted item _

theorem State.portRuns_applyTaken (s : State) : PortRuns s s.applyTaken :=
  s.applyTaken_keeps (P := PortRuns s) (.of_port rfl) (fun t item h => h.trans (t.portRuns_applyItem item))

/-! ### A block start -/

theorem State.portRuns_ended (s : State) : PortRuns s s.ended := by
  have swept : PortRuns s s.finishSweep := s.portRuns_examineMany _
  have measured : PortRuns s.finishSweep s.finishSweep.measureLevels := .of_port rfl
  have zones : PortRuns s.finishSweep.measureLevels s.finishSweep.measureLevels.endZones := by
    unfold State.endZones
    refine .trans (.of_port ?_) (State.portRuns_raiseIf ..)
    split <;> rfl
  exact (swept.trans measured).trans (zones.trans (.of_port s.ended_port))

/-- What a boundary with an engine reset does before it carries the reset out (R128, R144). -/
theorem State.portRuns_resetFrom (s : State) (r : BlockRaces) : PortRuns s.ended (s.resetFrom r) := by
  have outcome := s.ended.portRuns_bankOutcome
  unfold State.resetFrom
  (repeat' split)
  · exact outcome.trans (State.portRuns_advanceSurvey _)
  · exact State.portRuns_advanceSurvey _
  · exact outcome
  · exact .refl _

theorem State.portRuns_evaluating (s : State) (r : BlockRaces) : PortRuns s.ended (s.evaluating r) := by
  have advanced : PortRuns s.ended (s.ended.advanced r) := by
    unfold State.advanced
    split
    · exact .refl _
    · exact State.portRuns_advanceSurvey _
  unfold State.evaluating
  split
  · exact advanced.trans (State.portRuns_installDue _)
  · exact advanced.trans (State.portRuns_bankReject _)

theorem State.portRuns_boundary (s : State) (r : BlockRaces) : PortRuns s (s.boundary r) := by
  cases asked : s.port.resetRequest with
  | true =>
    rw [s.boundary_of_reset r asked]
    exact s.portRuns_ended.trans ((s.portRuns_resetFrom r).trans (State.portRuns_carryReset _))
  | false =>
    exact s.portRuns_ended.trans ((s.portRuns_evaluating r).trans
      ((State.portRuns_raiseIf _ _ _).trans (.of_port (s.boundary_port r asked))))

theorem State.portRuns_blockStart (s : State) (r : BlockRaces) : PortRuns s (s.blockStart r) := by
  have taken : PortRuns (s.boundary r) (s.boundary r).glide.applyTaken :=
    .trans (.of_port (by simp)) (State.portRuns_applyTaken _)
  have cued : PortRuns (s.boundary r) (s.cued r) := by
    unfold State.cued State.lateCompletion
    (repeat' split)
    · exact taken
    · exact taken.trans (State.portRuns_advanceSurvey _)
    · exact taken
  exact (s.portRuns_boundary r).trans (cued.trans (.of_reads (s.blockStart_reads r)))

/-! ### The host's accesses (R149, R155, R157, R158) -/

theorem State.portRuns_drop (s : State) (a : Addr) : PortRuns s (s.drop a) := by
  rw [State.drop_eq]
  exact .of_latches rfl (.inl rfl) (.inl rfl) rfl rfl

/-- A write to CALL makes a call pending only where none is in progress (R149). -/
theorem State.portRuns_writeCall (s : State) (v : Word) : PortRuns s (s.writeCall v) := by
  unfold State.writeCall
  (repeat' split)
  · rename_i free
    simp only [Bool.and_eq_true, bne_iff_ne, ne_eq] at free
    exact .of_call rfl (.inl rfl) (.inl rfl) (fun _ _ => free.2)
  · exact s.portRuns_drop _
  · exact .of_call rfl (.inl rfl) (.inl rfl) (fun _ => nofun)
  · exact s.portRuns_drop _

theorem State.portRuns_portInit (s : State) : PortRuns s s.portInit :=
  .of_call rfl (.inr rfl) (.inr rfl) (fun _ => nofun)

/-- A change of ORDER empties the read latch, a port initialise empties both (R155, R158). -/
theorem State.portRuns_writeControl (s : State) (v : Word) : PortRuns s (s.writeControl v) := by
  have stored : ∀ (hold order request : Bool), PortRuns s (s.withPort { s.port with
      holdIntake := hold, orderHigh := order, resetRequest := request
      readLatch := if order = s.port.orderHigh then s.port.readLatch else none }) := fun _ order _ =>
    .of_latches rfl (.inl rfl) (by
      rw [State.withPort_port]
      split
      · exact .inl rfl
      · exact .inr rfl) rfl rfl
  unfold State.writeControl
  dsimp only
  split
  · exact (stored ..).trans (State.portRuns_portInit _)
  · exact stored ..

theorem State.portRuns_writeRegister (s : State) (n : Nat) (a : Addr) (v : Word) :
    PortRuns s (s.writeRegister n a v) := by
  unfold State.writeRegister
  split
  · exact s.portRuns_writeControl v
  · exact s.portRuns_writeCall v
  · exact .of_latches rfl (.inl rfl) (.inl rfl) rfl rfl
  · exact .of_latches rfl (.inl rfl) (.inl rfl) rfl rfl
  · exact s.portRuns_drop a

theorem State.portRuns_presentWrite (s : State) (a : Addr) (v : Word) : PortRuns s (s.presentWrite a v) := by
  have accepted : PortRuns s (s.accept a v) := .of_port rfl
  have dropped := s.portRuns_drop a
  have either : ∀ legal : Bool, PortRuns s (if legal then s.accept a v else s.drop a)
    | true => accepted
    | false => dropped
  unfold State.presentWrite
  split
  · exact s.portRuns_writeRegister _ a v
  · exact either _
  · split
    · exact accepted
    · exact dropped
  · exact dropped
  · split
    · exact accepted
    · exact dropped
  · exact dropped

theorem State.portRuns_hostWrite (s : State) (a : Addr) (v : Word) : PortRuns s (s.hostWrite a v) := by
  have found : PortRuns s s.atPort := by
    unfold State.atPort
    split
    · exact .of_latches rfl (.inr rfl) (.inl rfl) rfl rfl
    · exact .refl s
  rw [State.hostWrite_eq]
  exact found.trans (s.atPort.portRuns_presentWrite a v)

/-- In 8-bit width the latches may hold anything. -/
theorem State.portRuns_latch {s : State} (wide : s.port.width8 = true) (write : Option (Addr × Byte))
    (read : Option (Addr × Word)) (data : Byte) :
    PortRuns s (s.withPort { s.port with writeLatch := write, readLatch := read, readData := data }) where
  call := id
  rest _ narrow := absurd (wide.symm.trans narrow) nofun

theorem State.portRuns_stageByte {s : State} (wide : s.port.width8 = true) (a : Addr) (lane : Lane) (byte : Byte) :
    PortRuns s (s.stageByte a lane byte) := by
  have emptied : PortRuns s (s.withPort { s.port with writeLatch := none }) := State.portRuns_latch wide ..
  have dropped := emptied.trans (State.portRuns_drop _ a)
  unfold State.stageByte
  split
  · exact State.portRuns_latch wide ..
  · dsimp only
    split
    · split
      · exact emptied.trans (State.portRuns_presentWrite _ a _)
      · exact dropped
    · exact dropped

theorem State.portRuns_latchByte {s : State} (wide : s.port.width8 = true) (a : Addr) (lane : Lane) :
    PortRuns s (s.latchByte a lane) := by
  unfold State.latchByte
  (repeat' split) <;> exact State.portRuns_latch wide ..

/-! ### Every command -/

/-- Every command but a power-on reset keeps CALL and the latches consistent. -/
theorem exec_portRuns (c : Instr) (s t : State) (on : ∀ strapHigh, c ≠ .powerOnReset strapHigh)
    (e : exec c s = .next t) : PortRuns s t := by
  have host : ∀ a v, PortRuns s (s.hostWrite a v) := s.portRuns_hostWrite
  have input : ∀ l a b, PortRuns s (s.inputPeriodOf l a b) := by
    have both : ∀ a b, PortRuns s (s.inputPeriod a b) := fun _ _ => .trans (.of_port (by rfl)) (State.portRuns_raiseIf ..)
    intro l a b
    cases l <;> exact both _ _
  cases c <;> obtain rfl := (Host.Outcome.next.inj e).symm
  case powerOnReset strap => exact absurd rfl (on strap)
  case inputFrame a b => exact input .inA a b
  case linkLost l f =>
    split
    · exact input ..
    · exact .refl s
  case linkRecovery l slots f =>
    split
    · exact input ..
    · exact .refl s
  case outputFrame =>
    split
    · exact .of_port rfl
    · exact .refl s
  case blockStart r => exact s.portRuns_blockStart r
  case floorRise i =>
    split
    · exact .of_port rfl
    · exact .refl s
  case holdExpiry i =>
    split
    · exact .of_port rfl
    · exact .refl s
  case intakeSweep n => exact s.portRuns_examineMany _
  case sourceSet item =>
    split
    · exact s.portRuns_faulted item _
    · exact (s.portRuns_carrySourceSet item).settled _
  case zoneSet item =>
    split
    · exact s.portRuns_faulted item _
    · exact (s.portRuns_carryZoneSet item).trans (State.portRuns_settle _)
  case scenePush item =>
    split
    · exact s.portRuns_faulted item _
    · exact (s.portRuns_carryScenePush item).settled _
  case scenePop item =>
    split
    · exact s.portRuns_faulted item _
    · exact (s.portRuns_carryScenePop item).settled _
  case sceneClear item => exact s.portRuns_applySceneClear item
  case bankAdopt item => exact s.portRuns_applyBankAdopt item
  case surveyStart item =>
    split
    · exact s.portRuns_faulted item _
    · exact .trans (.of_port (by simp)) (State.portRuns_settle (s.carrySurveyStart item))
  case surveyAbort item =>
    split
    · exact s.portRuns_faulted item _
    · exact (s.portRuns_carrySurveyAbort item).trans (State.portRuns_settle _)
  case badKind item => exact s.portRuns_faulted item _
  case bankReject => exact s.portRuns_bankReject
  case switchOver =>
    split
    · have reloaded : PortRuns s.installDue s.installDue.rearbitrate.reloadMix := .of_port (by simp)
      exact (s.portRuns_installDue.trans reloaded).settled _
    · exact .refl s
  case engineReset =>
    split
    · exact s.portRuns_carryReset.trans (State.portRuns_settle _)
    · exact .refl s
  case routeRemoval =>
    split
    · exact .of_port (by simp)
    · exact .refl s
  case fadeGrant => exact .of_port rfl
  case fadeEnd pair => exact .of_port rfl
  case mutingEnd => exact .of_port (by simp)
  case quietEnd => exact .of_port (by simp)
  case settleEnd => exact .of_port (by simp)
  case measureEnd =>
    split
    · exact s.portRuns_measureEnd.trans (State.portRuns_settle _)
    · exact .refl s
  case surveyComplete =>
    split
    · exact s.portRuns_tailEnd.trans (State.portRuns_settle _)
    · exact .refl s
  case snapshotTime => exact .of_reads s.snapshotTime_reads
  case snapshotWrite => exact .of_reads s.snapshotWrite_reads
  case byteWrite a l b =>
    split
    · exact State.portRuns_stageByte (by assumption) a l b
    · exact .refl s
  case byteRead a l =>
    split
    · exact State.portRuns_latchByte (by assumption) a l
    · exact .refl s
  all_goals exact host _ _

/-- An invariant of the port that stands at power-on is kept by every step, if every other command keeps it. -/
theorem keptByStep_of_portRuns {P : State → Prop} (on : ∀ (s : State) (strapHigh : Bool), P (s.powered strapHigh))
    (runs : ∀ s t, PortRuns s t → P s → P t) : KeptByStep P := by
  intro s t h e
  unfold step at e
  split at e
  · exact Host.Outcome.next.inj e ▸ h
  · rename_i c rest _
    have waiting : P { s with pending := rest } := runs s _ (.of_port rfl) h
    by_cases reset : ∃ strapHigh, c = .powerOnReset strapHigh
    · obtain ⟨strapHigh, rfl⟩ := reset
      obtain rfl := (Host.Outcome.next.inj e).symm
      exact on _ strapHigh
    · exact runs _ t (exec_portRuns c _ t (fun strapHigh same => reset ⟨strapHigh, same⟩) e) waiting

/-- Settles O60: each command's effect on CALL and the latches, and a port that is clear at power-on. -/
theorem portStaysConsistent : Obligations.PortStaysConsistent :=
  ⟨keptByStep_of_portRuns (fun _ _ => nofun) (fun _ _ => PortRuns.call),
    keptByStep_of_portRuns (fun _ _ _ => ⟨rfl, rfl⟩) (fun _ _ => PortRuns.rest)⟩

end Sys2Proof.Machine
end

section
/-! What a host write does, word by word (O44, O45, O46, O47). -/

namespace Sys2Proof.Machine

/-! ### The state at the port (R157; log 9) -/

/-- In both widths the state at the port is the state but for the write latch. -/
theorem State.atPort_eq (s : State) : s.atPort
    = s.withPort { s.port with writeLatch := if s.port.width8 then none else s.port.writeLatch } := by
  unfold State.atPort
  split <;> rfl

theorem State.atPort_word (s : State) (a : Nat) : s.atPort.word a = s.word a := by
  rw [State.word, State.atPort_mem, State.word]

theorem State.atPort_hostMayWrite (s : State) (a : Nat) (v : Word) : s.atPort.hostMayWrite a v = s.hostMayWrite a v := by
  simp only [State.hostMayWrite, State.atPort_word]

/-! ### The word map (R148) -/

/-- The place of a word address in the word map, with the region that holds it. -/
inductive WordPlace (n : Nat) : Region → Prop
  | register (low : n ≤ 6) : WordPlace n (.register n)
  | slotWord (k : Fin 32) (w : Nat) (small : w < 32) (here : n = slotBase k + w) : WordPlace n (.slotWord k w)
  | bankWord (b : BankId) (off : Nat) (small : off < 0x1000) (here : n = bankBase b + off) : WordPlace n (.bankWord b off)
  | surveyWord (here : 0x2800 ≤ n ∧ n ≤ 0x29FF) : WordPlace n .surveyWord
  | bufferWord (b : MeterBuffer) (off : Nat) (small : off < 0x400) (here : n = bufferBase b + off) :
      WordPlace n (.bufferWord b off)
  | unassigned (gap : (6 < n ∧ n < 0x40) ∨ (0x43F < n ∧ n < 0x800) ∨ (0x29FF < n ∧ n < 0x2C00) ∨ 0x33FF < n) :
      WordPlace n .unassigned

theorem regionOf_place (n : Nat) : WordPlace n (regionOf n) := by
  unfold regionOf
  split
  · exact .register (by assumption)
  split
  · exact .slotWord _ _ (by omega) (by simp only [slotBase, Fin.ofNat]; omega)
  split
  · exact .bankWord _ _ (by omega) (by simp only [bankBase]; omega)
  split
  · exact .bankWord _ _ (by omega) (by simp only [bankBase]; omega)
  split
  · exact .surveyWord (by assumption)
  split
  · exact .bufferWord _ _ (by omega) (by simp only [bufferBase]; omega)
  split
  · exact .bufferWord _ _ (by omega) (by simp only [bufferBase]; omega)
  · exact .unassigned (by omega)

/-! ### The port's verdict on a write to the memory (R149) -/

theorem slotTransition_eq (present written : Word) :
    slotTransition present written = decide ((present, written) ∈ [((0 : Word), (1 : Word)), (1, 0), (3, 0), (4, 0)]) := by
  simp [slotTransition, slotFree, slotPosted, slotDone, slotFaulted, beq_eq_decide, Bool.or_assoc]

theorem bufferTransition_eq (present written : Word) :
    bufferTransition present written = decide ((present, written) ∈ [((2 : Word), (3 : Word)), (3, 0)]) := by
  simp [bufferTransition, bufferFull, bufferReading, bufferEmpty, beq_eq_decide]

theorem State.hostMayWrite_slot (s : State) (k : Fin 32) (w : Nat) (small : w < 32) (v : Word) :
    s.hostMayWrite (slotBase k + w) v = if w = 0 then slotTransition (s.word (slotBase k)) v
      else if 2 ≤ w ∧ w ≤ 5 then false else s.word (slotBase k) == slotFree := by
  have range := slotBase_range k
  have word : (slotBase k + w - 0x40) % 32 = w := by
    unfold slotBase
    omega
  unfold State.hostMayWrite
  rw [if_pos (by omega)]
  dsimp only
  rw [word, Nat.add_sub_cancel, slotTransition_eq]
  refine if_congr Iff.rfl rfl ?_
  split
  · rw [decide_eq_false (by omega), decide_eq_false (by omega)]
    rfl
  · have outside : (decide (w < 2) || decide (5 < w)) = true := by
      simp only [Bool.or_eq_true, decide_eq_true_eq]
      omega
    rw [outside]
    rfl

/-- Outside the slots, the banks and the meter buffers, and at the banks' state words, the host writes nothing. -/
theorem State.hostMayWrite_shut (s : State) (n : Nat) (v : Word)
    (shut : n < 0x40 ∨ (0x43F < n ∧ n ≤ 0x800) ∨ n = 0x1800 ∨ (0x2800 ≤ n ∧ n < 0x2C00) ∨ 0x33FF < n) :
    s.hostMayWrite n v = false := by
  unfold State.hostMayWrite
  rw [if_neg (by omega), if_neg (by omega), if_neg (by omega), if_neg (by omega)]

theorem State.hostMayWrite_bank (s : State) (b : BankId) (off : Nat) (small : off < 0x1000) (v : Word) :
    s.hostMayWrite (bankBase b + off) v = decide (off ≠ 0 ∧ s.word (bankBase b) = bankEdit) := by
  by_cases body : off = 0
  · rw [s.hostMayWrite_shut _ v (by cases b <;> simp only [bankBase] <;> omega)]
    simp [body]
  · have verdict : s.hostMayWrite (bankBase b + off) v = (s.word (bankBase b) == 0) := by
      unfold State.hostMayWrite
      cases b with
      | bankA =>
        have base : bankBase .bankA = 0x800 := rfl
        rw [if_neg (by omega), if_pos (by omega), base]
      | bankB =>
        have base : bankBase .bankB = 0x1800 := rfl
        rw [if_neg (by omega), if_neg (by omega), if_pos (by omega), base]
    rw [verdict]
    simp [body, bankEdit, beq_eq_decide]

theorem State.hostMayWrite_buffer (s : State) (b : MeterBuffer) (off : Nat) (small : off < 0x400) (v : Word) :
    s.hostMayWrite (bufferBase b + off) v = decide (off = 0 ∧ bufferTransition (s.bufferState b) v) := by
  have high : 0x2C00 ≤ bufferBase b + off := by have := bufferBase_high b; omega
  unfold State.hostMayWrite
  rw [if_neg (by omega), if_neg (by omega), if_neg (by omega), bufferTransition_eq]
  by_cases state : off = 0
  · subst state
    rw [if_pos (by cases b <;> simp [bufferBase])]
    simp [State.bufferState]
  · rw [if_neg (by cases b <;> simp only [bufferBase] at * <;> omega)]
    simp [state]

/-- A write to any word but a writable register, by the verdict on it (R148, R149, R150). -/
theorem State.presentWrite_judged (s : State) (a : Addr) (v : Word) (judged : 6 ≤ a.toNat ∨ a = 1 ∨ a = 2) :
    s.presentWrite a v = if s.hostMayWrite a.toNat v then s.accept a v else s.drop a := by
  unfold State.presentWrite
  have place := regionOf_place a.toNat
  generalize regionOf a.toNat = region at place
  cases place with
  | register low =>
    rw [s.hostMayWrite_shut _ v (by omega)]
    have fixed : a.toNat = 6 ∨ a.toNat = 1 ∨ a.toNat = 2 := by
      rcases judged with high | rfl | rfl
      · omega
      · simp
      · simp
    rcases fixed with n | n | n <;> rw [n] <;> rfl
  | slotWord k w small here =>
    rw [here, s.hostMayWrite_slot k w small]
    rfl
  | bankWord b off small here =>
    rw [here, s.hostMayWrite_bank b off small]
    simp
  | surveyWord here =>
    rw [s.hostMayWrite_shut _ v (by omega)]
    rfl
  | bufferWord b off small here =>
    rw [here, s.hostMayWrite_buffer b off small]
    simp
  | unassigned gap =>
    rw [s.hostMayWrite_shut _ v (by omega)]
    rfl

/-- A host write to any word but a writable register, in both widths (log 9). -/
theorem State.hostWrite_judged (s : State) (a : Addr) (v : Word) (canonical : s.mem.wf)
    (judged : 6 ≤ a.toNat ∨ a = 1 ∨ a = 2) :
    (s.hostMayWrite a.toNat v = true → oneWordWritten s.atPort (s.hostWrite a v) a.toNat v)
    ∧ (s.hostMayWrite a.toNat v = false → s.hostWrite a v = s.atPort.droppedAt a) := by
  rw [s.hostWrite_eq, s.atPort.presentWrite_judged a v judged, s.atPort_hostMayWrite]
  refine ⟨fun legal => ?_, fun illegal => ?_⟩
  · rw [if_pos legal]
    exact s.atPort.accept_oneWordWritten a v (s.atPort_mem.symm ▸ canonical)
  · rw [illegal, ← State.drop_eq]
    rfl

/-! ### The commands on the guarded words (R161, R165, R183) -/

/-- A command that writes a guarded word takes effect exactly where its transition is legal. -/
theorem State.hostWrite_guarded {s : State} (canonical : s.mem.wf) {a : Nat} {v : Word} {legal : Prop}
    (inside : 0x40 ≤ a ∧ a ≤ 0x3000) (verdict : s.hostMayWrite a v = true ↔ legal) :
    (legal → oneWordWritten s.atPort (s.hostWrite (BitVec.ofNat 14 a) v) a v)
    ∧ (¬legal → s.hostWrite (BitVec.ofNat 14 a) v = s.atPort.droppedAt (BitVec.ofNat 14 a)) := by
  have address : (BitVec.ofNat 14 a).toNat = a := by
    rw [BitVec.toNat_ofNat]
    exact Nat.mod_eq_of_lt (by omega)
  obtain ⟨accepted, dropped⟩ := s.hostWrite_judged (BitVec.ofNat 14 a) v canonical (.inl (by omega))
  rw [address] at accepted dropped
  exact ⟨fun holds => accepted (verdict.2 holds), fun fails => dropped (Bool.eq_false_iff.2 (fails ∘ verdict.1))⟩

theorem State.hostMayWrite_slotState (s : State) (k : Fin 32) (v : Word) :
    s.hostMayWrite (slotBase k) v = slotTransition (s.word (slotBase k)) v :=
  (s.hostMayWrite_slot k 0 (by omega) v).trans (if_pos rfl)

theorem State.hostMayWrite_bufferState (s : State) (b : MeterBuffer) (v : Word) :
    s.hostMayWrite (bufferBase b) v = bufferTransition (s.word (bufferBase b)) v :=
  (s.hostMayWrite_buffer b 0 (by omega) v).trans (by simp [State.bufferState])

/-- Settles O45: the legal transitions of a slot's state word and of a meter buffer's. -/
theorem guardedWordCommands : Obligations.GuardedWordCommands := by
  intro s canonical judged
  refine ⟨fun k => ?_, fun b => ?_⟩
  · have inside := slotBase_range k
    have slot : ∀ (c : Instr) (v : Word) (legal : Prop), exec c s = .next (s.hostWrite (slotAddr k) v) →
        (slotTransition (s.word (slotBase k)) v = true ↔ legal) → judged c (slotBase k) legal v := fun c v legal run verdict =>
      ⟨_, run, State.hostWrite_guarded canonical (by omega) (by rw [s.hostMayWrite_slotState]; exact verdict)⟩
    have free : slotTransition (s.word (slotBase k)) 0 = true
        ↔ s.word (slotBase k) = 1 ∨ s.word (slotBase k) = 3 ∨ s.word (slotBase k) = 4 := by
      simp [slotTransition_eq]
    exact ⟨slot _ 1 _ rfl (by simp [slotTransition_eq]; rfl), slot _ 0 _ rfl free, slot _ 0 _ rfl free⟩
  · have inside : 0x40 ≤ bufferBase b ∧ bufferBase b ≤ 0x3000 := by cases b <;> decide
    have buffer : ∀ (c : Instr) (v : Word) (legal : Prop), exec c s = .next (s.hostWrite (bufferAddr b) v) →
        (bufferTransition (s.word (bufferBase b)) v = true ↔ legal) → judged c (bufferBase b) legal v :=
      fun c v legal run verdict =>
        ⟨_, run, State.hostWrite_guarded canonical inside (by rw [s.hostMayWrite_bufferState]; exact verdict)⟩
    have base : (if b = .buffer0 then 0x2C00 else 0x3000) = bufferBase b := by cases b <;> rfl
    rw [base]
    exact ⟨buffer _ 3 _ rfl (by simp [bufferTransition_eq]), buffer _ 0 _ rfl (by simp [bufferTransition_eq])⟩

end Sys2Proof.Machine
end

section
/-! The writable registers: CALL, PORT_CONTROL, NOTICE and NOTICE_MASK (O44, O46, O47). -/

namespace Sys2Proof.Machine

/-- A host write to a register, in both widths (R148, R151; log 9). -/
theorem State.hostWrite_register (s : State) (a : Addr) (v : Word) (low : a.toNat ≤ 6) :
    s.hostWrite a v = s.atPort.writeRegister a.toNat a v := by
  rw [s.hostWrite_eq, s.atPort.presentWrite_register a v low]

/-! ### CALL (R149, R172, R175) -/

/-- A write to CALL is judged by its P bit, and drops where no call can be set or withdrawn. -/
theorem State.hostWrite_call (s : State) (v : Word) : s.hostWrite 3 v
    = if v.getLsbD 15 then
        if !s.port.callPending && s.port.callResult != 15 then
          { s.atPort with port := { s.atPort.port with callPending := true, callNumber := v.extractLsb' 0 4 } }
        else s.atPort.droppedAt 3
      else if s.port.callPending then { s.atPort with port := { s.atPort.port with callPending := false } }
      else s.atPort.droppedAt 3 := by
  rw [s.hostWrite_register 3 v (by decide), ← State.drop_eq, s.atPort_eq]
  rfl

section Call

variable {s : State} {v : Word}

theorem State.hostWrite_call_set (set : v.getLsbD 15 = true) (idle : s.port.callPending = false)
    (ended : s.port.callResult ≠ 15) : s.hostWrite 3 v
      = { s.atPort with port := { s.atPort.port with callPending := true, callNumber := v.extractLsb' 0 4 } } := by
  rw [s.hostWrite_call, if_pos set, idle, Bool.not_false, Bool.true_and, if_pos (bne_iff_ne.2 ended)]

theorem State.hostWrite_call_busy (set : v.getLsbD 15 = true)
    (busy : s.port.callPending = true ∨ s.port.callResult = 15) : s.hostWrite 3 v = s.atPort.droppedAt 3 := by
  rw [s.hostWrite_call, if_pos set, if_neg (by rcases busy with busy | busy <;> simp [busy])]

theorem State.hostWrite_call_clear (clear : v.getLsbD 15 = false) (pending : s.port.callPending = true) :
    s.hostWrite 3 v = { s.atPort with port := { s.atPort.port with callPending := false } } := by
  rw [s.hostWrite_call, if_neg (Bool.eq_false_iff.1 clear), if_pos pending]

theorem State.hostWrite_call_none (clear : v.getLsbD 15 = false) (idle : s.port.callPending = false) :
    s.hostWrite 3 v = s.atPort.droppedAt 3 := by
  rw [s.hostWrite_call, if_neg (Bool.eq_false_iff.1 clear), if_neg (Bool.eq_false_iff.1 idle)]

end Call

/-- The word that a HOST_CALL writes: P and the number (R172). -/
theorem callWord_fields (number : BitVec 4) :
    (natWord (2 ^ 15 + number.toNat)).getLsbD 15 = true ∧ (natWord (2 ^ 15 + number.toNat)).extractLsb' 0 4 = number := by
  revert number
  decide

/-- Settles O46: a call set or withdrawn where CALL allows it, dropped elsewhere. -/
theorem callCommands : Obligations.CallCommands := by
  intro s
  refine ⟨fun number => ⟨_, rfl, fun idle ended => ?_, ?_⟩, _, rfl, ?_, ?_⟩
  · obtain ⟨set, field⟩ := callWord_fields number
    exact (State.hostWrite_call_set set idle ended).trans (by rw [field])
  · exact State.hostWrite_call_busy (callWord_fields number).1
  · exact State.hostWrite_call_clear rfl
  · exact State.hostWrite_call_none rfl

/-! ### PORT_CONTROL (R152, R154, R155, R158) -/

/-- The port after a write to PORT_CONTROL without INIT (R152, R158). -/
def State.controlStored (s : State) (hold order request : Bool) : Port :=
  { s.atPort.port with
    holdIntake := hold, orderHigh := order, resetRequest := s.port.resetRequest || request
    readLatch := if order = s.port.orderHigh then s.port.readLatch else none }

/-- A write to PORT_CONTROL without INIT stores two bits, and takes a request (R152, R154). -/
theorem State.hostWrite_control {s : State} {v : Word} (plain : v.getLsbD 0 = false) : s.hostWrite 0 v
    = { s.atPort with port := s.controlStored (v.getLsbD 2) (v.getLsbD 3) (v.getLsbD 1) } := by
  rw [s.hostWrite_register 0 v (by decide), State.controlStored, s.atPort_eq]
  show State.writeControl _ v = _
  unfold State.writeControl
  dsimp only
  rw [if_neg (Bool.eq_false_iff.1 plain)]
  rfl

theorem unclaimItem_eq (item : CueItem) :
    unclaimItem item = if item.origin = .call then { item with claim := false } else item := by
  unfold unclaimItem
  cases item.origin <;> rfl

/-- A write to PORT_CONTROL with INIT carries out a port initialise beside (R155). -/
theorem State.hostWrite_control_init {s : State} {v : Word} (init : v.getLsbD 0 = true) : s.hostWrite 0 v
    = { s.atPort with
        port := { s.controlStored (v.getLsbD 2) (v.getLsbD 3) (v.getLsbD 1) with
          notice := 0, callPending := false, callNumber := 0, callResult := 0, writeLatch := none, readLatch := none,
          protectAddr := 0 }
        survey := { s.survey with claim := false }
        adoption := s.adoption.map (fun a => { a with claim := false })
        takeList := s.takeList.map (fun item => if item.origin = .call then { item with claim := false } else item) } := by
  have unclaimed : unclaimItem = fun item => if item.origin = .call then { item with claim := false } else item :=
    funext unclaimItem_eq
  rw [s.hostWrite_register 0 v (by decide), ← unclaimed, State.controlStored, s.atPort_eq]
  show State.writeControl _ v = _
  unfold State.writeControl
  dsimp only
  rw [if_pos init]
  rfl

/-- The bits of the word that a command writes to PORT_CONTROL (section 9.5). -/
theorem controlWord_bits (init reset hold order : Bool) :
    (controlWord init reset hold order).getLsbD 0 = init ∧ (controlWord init reset hold order).getLsbD 1 = reset
    ∧ (controlWord init reset hold order).getLsbD 2 = hold ∧ (controlWord init reset hold order).getLsbD 3 = order := by
  revert init reset hold order
  decide

/-- A command that writes PORT_CONTROL without INIT. -/
theorem State.hostWrite_controlWord (s : State) (reset hold order : Bool) :
    s.hostWrite 0 (controlWord false reset hold order) = { s.atPort with port := s.controlStored hold order reset } := by
  obtain ⟨plain, request, held, ordered⟩ := controlWord_bits false reset hold order
  rw [State.hostWrite_control plain, request, held, ordered]

/-- A port that raises no notice holds the attention line inactive (R185). -/
theorem State.attention_of_clear {s : State} (clear : s.port.notice = 0) : s.attention = false := by
  simp [State.attention, clear]

/-- Settles O47: the bits of PORT_CONTROL that each command writes. -/
theorem controlCommands : Obligations.ControlCommands := by
  intro s stored
  have plain : ∀ hold order, s.controlStored hold order false = stored hold order s.port.resetRequest := fun _ _ => by
    rw [State.controlStored, Bool.or_false]
  have asked : ∀ hold order, s.controlStored hold order true = stored hold order true := fun _ _ => by
    rw [State.controlStored, Bool.or_true]
  refine ⟨fun hold => ?_, fun order => ?_, fun hold order => ?_, fun hold order => ⟨_, rfl, ?_⟩⟩
  · rw [← plain]
    exact congrArg Host.Outcome.next (s.hostWrite_controlWord ..)
  · rw [← plain]
    exact congrArg Host.Outcome.next (s.hostWrite_controlWord ..)
  · rw [← asked]
    exact congrArg Host.Outcome.next (s.hostWrite_controlWord ..)
  · obtain ⟨init, request, held, ordered⟩ := controlWord_bits true false hold order
    have written := State.hostWrite_control_init (s := s) init
    rw [request, held, ordered, State.controlStored, Bool.or_false, s.atPort_eq] at written
    rw [show s.hostWrite portControlAddr _ = _ from written]
    exact ⟨rfl, State.attention_of_clear rfl, rfl, rfl, rfl, rfl⟩

/-! ### NOTICE and NOTICE_MASK (R184, R185) -/

theorem Notice.bit_lt (n : Notice) : n.bit < 10 := by cases n <;> decide

/-- A write to NOTICE clears the flags written as one (R184). -/
theorem State.hostWrite_notice (s : State) (v : Word) :
    (∀ n, (s.hostWrite 4 v).noticed n = (s.noticed n && !v.getLsbD n.bit))
    ∧ { s.hostWrite 4 v with port := { (s.hostWrite 4 v).port with notice := s.port.notice } } = s.atPort := by
  rw [s.hostWrite_register 4 v (by decide), s.atPort_eq]
  refine ⟨fun n => ?_, rfl⟩
  show (s.port.notice &&& ~~~(v.setWidth 10)).getLsbD n.bit = _
  simp [State.noticed, n.bit_lt]

/-- A write to NOTICE_MASK stores the ten enables (R185). -/
theorem State.hostWrite_noticeMask (s : State) (v : Word) :
    (∀ n : Notice, (s.hostWrite 5 v).port.noticeMask.getLsbD n.bit = v.getLsbD n.bit)
    ∧ { s.hostWrite 5 v with port := { (s.hostWrite 5 v).port with noticeMask := s.port.noticeMask } } = s.atPort := by
  rw [s.hostWrite_register 5 v (by decide), s.atPort_eq]
  refine ⟨fun n => ?_, rfl⟩
  show (v.setWidth 10).getLsbD n.bit = _
  simp [n.bit_lt]

/-- Settles O44: the verdict on a word of the memory, and each writable register by its bits. -/
theorem hostWriteIsJudged : Obligations.HostWriteIsJudged := by
  refine ⟨fun a v s canonical judged => ⟨_, rfl, s.hostWrite_judged a v canonical judged⟩, fun v s => ?_⟩
  intro u bit stored
  have next : ∀ {a t}, s.hostWrite a v = t → exec (.hostWrite a v) s = .next t := congrArg Host.Outcome.next
  exact ⟨fun plain => next (State.hostWrite_control plain), fun init => next (State.hostWrite_control_init init),
    fun set idle ended => next (State.hostWrite_call_set set idle ended),
    fun set busy => next (State.hostWrite_call_busy set busy),
    fun clear pending => next (State.hostWrite_call_clear clear pending),
    fun clear idle => next (State.hostWrite_call_none clear idle),
    ⟨_, rfl, s.hostWrite_notice v⟩, _, rfl, s.hostWrite_noticeMask v⟩

end Sys2Proof.Machine
end

section
/-! What a host reads, and the byte accesses of 8-bit width (O49). -/

namespace Sys2Proof.Machine

/-! ### Fields of a register (section 9.5) -/

/-- A field of a word made of a number, where the number has a value at that place. -/
theorem natWord_field {n low width v : Nat} (fits : low + width ≤ 16) (value : n / 2 ^ low % 2 ^ width = v) :
    ((natWord n).extractLsb' low width).toNat = v := by
  have split : 2 ^ 16 = 2 ^ low * 2 ^ (16 - low) := by
    rw [← Nat.pow_add]
    congr 1
    omega
  rw [BitVec.extractLsb'_toNat, natWord, BitVec.toNat_ofNat, Nat.shiftRight_eq_div_pow, split, Nat.mod_mul_right_div_self,
    Nat.mod_mod_of_dvd _ (Nat.pow_dvd_pow 2 (by omega)), value]

/-- A bit of a word made of a number, where the number has a flag at that place. -/
theorem natWord_bit {n k : Nat} {b : Bool} (fits : k < 16) (flag : n / 2 ^ k % 2 = b.toNat) :
    (natWord n).getLsbD k = b := by
  rw [natWord, BitVec.getLsbD_ofNat, decide_eq_true fits, Bool.true_and, Nat.testBit_eq_decide_div_mod_eq, flag]
  cases b <;> rfl

theorem bitAt_eq (b : Bool) (n : Nat) : bitAt b n = 2 ^ n * b.toNat := by cases b <;> simp [bitAt]

/-- The fields of PORT_CONTROL as read (R152). -/
theorem Port.controlWord_fields (p : Port) :
    p.controlWord.getLsbD 0 = false ∧ p.controlWord.getLsbD 1 = p.resetRequest ∧ p.controlWord.getLsbD 2 = p.holdIntake
    ∧ p.controlWord.getLsbD 3 = p.orderHigh ∧ (p.controlWord.extractLsb' 4 11).toNat = 0
    ∧ p.controlWord.getLsbD 15 = p.width8 := by
  unfold Port.controlWord
  generalize p.resetRequest = request, p.holdIntake = hold, p.orderHigh = order, p.width8 = wide
  revert request hold order wide
  decide

theorem liveBankCode_eq (s : State) : liveBankCode s.live = match s.liveBank with
    | none => 0
    | some .bankA => 1
    | some .bankB => 2 := by
  unfold liveBankCode State.liveBank
  cases s.live with
  | none => rfl
  | some l => cases h : l.bank <;> simp [h]

theorem SurveyPhase.code_le (p : SurveyPhase) : p.code ≤ 4 := by cases p <;> decide

/-- The fields of PORT_STATUS (R153). -/
theorem State.portStatus_fields (s : State) (room : s.scenes.length ≤ 4) :
    s.portStatus.getLsbD 0 = s.running ∧ (s.portStatus.extractLsb' 1 2).toNat = liveBankCode s.live
    ∧ s.portStatus.getLsbD 3 = s.adoption.isSome ∧ (s.portStatus.extractLsb' 4 3).toNat = s.survey.phase.code
    ∧ (s.portStatus.extractLsb' 7 3).toNat = s.scenes.length ∧ s.portStatus.getLsbD 10 = s.intakeHolding
    ∧ (s.portStatus.extractLsb' 11 5).toNat = 0 := by
  have live : liveBankCode s.live ≤ 2 := by
    unfold liveBankCode
    (repeat' split) <;> decide
  have phase := s.survey.phase.code_le
  have running := s.running.toNat_le
  have adopting := s.adoption.isSome.toNat_le
  have holding := s.intakeHolding.toNat_le
  unfold State.portStatus
  simp only [bitAt_eq]
  exact ⟨natWord_bit (by omega) (by omega), natWord_field (by omega) (by omega), natWord_bit (by omega) (by omega),
    natWord_field (by omega) (by omega), natWord_field (by omega) (by omega), natWord_bit (by omega) (by omega),
    natWord_field (by omega) (by omega)⟩

/-- The fields of CALL as read (R172). -/
theorem Port.callWord_fields (p : Port) :
    (p.callWord.extractLsb' 0 4).toNat = p.callNumber.toNat ∧ (p.callWord.extractLsb' 4 4).toNat = p.callResult.toNat
    ∧ (p.callWord.extractLsb' 8 7).toNat = 0 ∧ p.callWord.getLsbD 15 = p.callPending := by
  have number := p.callNumber.isLt
  have result := p.callResult.isLt
  have pending := p.callPending.toNat_le
  unfold Port.callWord
  simp only [bitAt_eq]
  exact ⟨natWord_field (by omega) (by omega), natWord_field (by omega) (by omega), natWord_field (by omega) (by omega),
    natWord_bit (by omega) (by omega)⟩

/-- Ten flags read as a word: each at its bit, and zeros above (R184, R185). -/
theorem flagsWord_fields (flags : BitVec 10) :
    (∀ n : Notice, (flags.setWidth 16).getLsbD n.bit = flags.getLsbD n.bit)
    ∧ ((flags.setWidth 16).extractLsb' 10 6).toNat = 0 := by
  refine ⟨fun n => ?_, ?_⟩
  · have inside := n.bit_lt
    rw [BitVec.getLsbD_setWidth, decide_eq_true (by omega), Bool.true_and]
  · have small := flags.isLt
    rw [BitVec.extractLsb'_toNat, BitVec.toNat_setWidth, Nat.shiftRight_eq_div_pow]
    omega

/-- What a host reads above the registers: the memory in its regions, zero elsewhere (R147, R148). -/
theorem State.hostRead_above (s : State) (a : Addr) (above : 7 ≤ a.toNat) : s.hostRead a
    = if (0x40 ≤ a.toNat ∧ a.toNat ≤ 0x43F) ∨ (0x800 ≤ a.toNat ∧ a.toNat ≤ 0x29FF)
        ∨ (0x2C00 ≤ a.toNat ∧ a.toNat ≤ 0x33FF) then s.word a.toNat else 0 := by
  unfold State.hostRead
  have place := regionOf_place a.toNat
  generalize regionOf a.toNat = region at place
  cases place with
  | register low => omega
  | slotWord k w small here =>
    have range := slotBase_range k
    exact (if_pos (by omega)).symm
  | bankWord b off small here =>
    have low := bankBase_bounds b
    exact (if_pos (by omega)).symm
  | surveyWord here => exact (if_pos (by omega)).symm
  | bufferWord b off small here =>
    have high : 0x2C00 ≤ bufferBase b ∧ bufferBase b ≤ 0x3000 := by cases b <;> decide
    exact (if_pos (by omega)).symm
  | unassigned gap => exact (if_neg (by omega)).symm

/-! ### Byte accesses (R157, R158) -/

theorem otherLane_ne (lane : Lane) : otherLane lane ≠ lane := by cases lane <;> decide

theorem State.stageByte_first (s : State) (a : Addr) (byte : Byte) : s.stageByte a s.port.firstLane byte
    = { s with port := { s.port with writeLatch := some (a, byte) } } := if_pos rfl

/-- A first-lane read latches the whole word (R158). -/
theorem State.latchByte_first (s : State) (a : Addr) : s.latchByte a s.port.firstLane
    = { s with port := { s.port with
        readLatch := some (a, s.hostRead a), readData := laneByte s.port.firstLane (s.hostRead a) } } := if_pos rfl

section Second

variable {s : State} {a : Addr} {byte : Byte}

/-- The second lane at the staged address completes one word write, judged as one (R157). -/
theorem State.stageByte_completes (wide : s.port.width8 = true) {staged : Byte}
    (held : s.port.writeLatch = some (a, staged)) : s.stageByte a (otherLane s.port.firstLane) byte
      = s.hostWrite a (joinBytes s.port.firstLane staged byte) := by
  have emptied : s.atPort = s.withPort { s.port with writeLatch := none } := if_pos wide
  rw [s.hostWrite_eq, emptied]
  unfold State.stageByte
  rw [if_neg (otherLane_ne _), held]
  exact if_pos rfl

/-- The second lane at any other address is dropped (R157). -/
theorem State.stageByte_drops (wide : s.port.width8 = true) (unheld : ∀ staged, s.port.writeLatch ≠ some (a, staged)) :
    s.stageByte a (otherLane s.port.firstLane) byte = s.atPort.droppedAt a := by
  have emptied : s.atPort = s.withPort { s.port with writeLatch := none } := if_pos wide
  rw [← State.drop_eq, emptied]
  unfold State.stageByte
  rw [if_neg (otherLane_ne _)]
  cases latch : s.port.writeLatch with
  | none => rfl
  | some staged =>
    obtain ⟨held, first⟩ := staged
    exact if_neg (fun (here : held = a) => unheld first (here ▸ latch))

/-- The second lane at the latched address returns the latched half and empties the latch (R158). -/
theorem State.latchByte_latched {w : Word} (held : s.port.readLatch = some (a, w)) :
    s.latchByte a (otherLane s.port.firstLane) = { s with port := { s.port with
      readLatch := none, readData := laneByte (otherLane s.port.firstLane) w } } := by
  unfold State.latchByte
  rw [if_neg (otherLane_ne _), held]
  exact if_pos rfl

/-- The second lane at any other address returns the word's own half (R158). -/
theorem State.latchByte_unlatched (unheld : ∀ w, s.port.readLatch ≠ some (a, w)) :
    s.latchByte a (otherLane s.port.firstLane) = { s with port := { s.port with
      readData := laneByte (otherLane s.port.firstLane) (s.hostRead a) } } := by
  unfold State.latchByte
  rw [if_neg (otherLane_ne _)]
  cases latch : s.port.readLatch with
  | none => rfl
  | some latched =>
    obtain ⟨held, w⟩ := latched
    exact if_neg (fun (here : held = a) => unheld w (here ▸ latch))

end Second

/-- Settles O49: the accesses of each width and lane, and the word that a host reads at each address. -/
theorem byteAccesses : Obligations.ByteAccesses := by
  refine ⟨fun a byte s => ?_, rfl, fun s => ?_⟩
  · intro first second half word
    have secondLane : second = otherLane s.port.firstLane := by
      unfold Port.firstLane second
      cases s.port.orderHigh <;> rfl
    have halves : ∀ lane w, half lane w = laneByte lane w := fun lane w => by cases lane <;> rfl
    have joined : ∀ staged, word staged = joinBytes s.port.firstLane staged byte := fun staged => by
      unfold Port.firstLane word
      cases s.port.orderHigh <;> rfl
    refine ⟨fun narrow lane => ?_, fun wide => ?_⟩
    · have shut : ¬s.port.width8 = true := Bool.eq_false_iff.1 narrow
      exact ⟨congrArg Host.Outcome.next (if_neg shut), congrArg Host.Outcome.next (if_neg shut)⟩
    · have write : ∀ {lane t}, s.stageByte a lane byte = t → exec (.byteWrite a lane byte) s = .next t :=
        fun staged => congrArg Host.Outcome.next ((if_pos wide).trans staged)
      have read : ∀ {lane t}, s.latchByte a lane = t → exec (.byteRead a lane) s = .next t :=
        fun latched => congrArg Host.Outcome.next ((if_pos wide).trans latched)
      simp only [secondLane, halves, joined]
      exact ⟨write (s.stageByte_first a byte), fun _ held => write (State.stageByte_completes wide held),
        fun unheld => write (State.stageByte_drops wide unheld), read (s.latchByte_first a),
        fun _ held => read (State.latchByte_latched held), fun unheld => read (State.latchByte_unlatched unheld)⟩
  · intro bit field
    refine ⟨s.port.controlWord_fields, fun room => ?_, rfl, s.port.callWord_fields, fun n => ?_,
      (flagsWord_fields _).2, (flagsWord_fields _).2, rfl, s.hostRead_above⟩
    · obtain ⟨running, live, adopting, phase, depth, holding, rest⟩ := s.portStatus_fields room
      refine ⟨running, live.trans (liveBankCode_eq s), adopting, phase.trans ?_, depth, ?_, rest⟩
      · cases s.survey.phase <;> rfl
      · rw [show bit 1 10 = s.intakeHolding from holding, State.intakeHolding, beq_iff_eq]
    · exact ⟨(flagsWord_fields _).1 n, (flagsWord_fields _).1 n⟩

end Sys2Proof.Machine
end
